-- ==== Sys2Proof/Word.lean ====
section
/-! DEFINITION. The words of the hub's cells and the index types of its coils, legs, boards and pan slots. -/

namespace Sys2Proof

/-- One byte of a cell (R178). -/
abbrev Byte := BitVec 8

/-- A coil position, 0 to 63 (spec/00_scope.md section 3.1). -/
abbrev CoilId := Fin 64

/-- A global leg, 0 to 15. -/
abbrev LegId := Fin 16

/-- A driver board and its link, 0 to 3. -/
abbrev BoardId := Fin 4

/-- A leg's number on its own board, 0 to 3. -/
abbrev LocalLeg := Fin 4

/-- A selector position on a leg, 0 to 3. -/
abbrev Selector := Fin 4

/-- A pan slot, 0 to 7. -/
abbrev PanSlot := Fin 8

/-- A heat level, 0 to 15. -/
abbrev Level := Fin 16

/-- A moment on the hub's clock, in microseconds. -/
abbrev Time := Nat

/-- Bytes 2 to 13 of a cell (R178). -/
abbrev Payload := Vector Byte 12

/-- A cell: 16 bytes (R178). -/
abbrev Cell := Vector Byte 16

end Sys2Proof
end

