-- ==== Sys2Proof/Config.lean ====
section
/-! DEFINITION. The types of the seven tables, their built-in defaults, the constants the spec fixes for the part,
and the free values: constants without a body that stand for what the spec leaves open. -/

namespace Sys2Proof

/-- A supply phase. -/
inductive Phase where
  | l1 | l2
  deriving DecidableEq, Repr, Inhabited

/-- An entry of the board table T0 (section 8.1). -/
structure T0Entry where
  configured : Bool
  phase : Phase
  deriving DecidableEq, Repr, Inhabited

/-- An entry of the geometry table T1 (section 1.1); a class is written as 0 to 7 (R169). -/
structure T1Entry where
  present : Bool
  x : Nat
  y : Nat
  cls : Fin 8
  deriving DecidableEq, Repr, Inhabited

/-- An entry of the class table T3 (section 1.2). -/
structure T3Entry where
  rated : Nat
  empty : Nat
  full : Nat
  detect : Nat
  release : Nat
  fire : Nat
  deriving DecidableEq, Repr, Inhabited

/-- An entry of the power curve T4 (R74), in W. -/
structure T4Entry where
  target : Nat
  floor : Nat
  ceiling : Nat
  deriving DecidableEq, Repr, Inhabited

/-- The seven tables (R168). An entry of T2 is a list of coils; T6 holds one number per parameter, in the unit of
section 10.3, rotation in quarter turns and mirror as 0 or 1. -/
structure Tables where
  t0 : Vector T0Entry 4
  t1 : Vector T1Entry 64
  t2 : Vector (List CoilId) 64
  t3 : Vector T3Entry 3
  t4 : Vector T4Entry 16
  t5 : Vector Nat 32
  t6 : Vector Nat 18
  deriving DecidableEq, Repr, Inhabited

namespace Tables

/-- Section 10.3, index 0. -/
def confirmCount (t : Tables) : Nat := t.t6[0]
/-- Section 10.3, index 1. -/
def settleFrames (t : Tables) : Nat := t.t6[1]
/-- Section 10.3, index 2, in s. -/
def grace (t : Tables) : Nat := t.t6[2]
/-- Section 10.3, index 3, in mm. -/
def returnRadius (t : Tables) : Nat := t.t6[3]
/-- Section 10.3, index 4, in %. -/
def areaTolerance (t : Tables) : Nat := t.t6[4]
/-- Section 10.3, indexes 5 and 6, in W. -/
def phaseLimit (t : Tables) : Phase → Nat
  | .l1 => t.t6[5]
  | .l2 => t.t6[6]
/-- Section 10.3, index 7, in W. -/
def hobLimit (t : Tables) : Nat := t.t6[7]
/-- Section 10.3, index 8. -/
def frameActive (t : Tables) : Nat := t.t6[8]
/-- Section 10.3, index 9. -/
def frameQuiet (t : Tables) : Nat := t.t6[9]
/-- Section 10.3, index 10, in Hz. -/
def nominalHz (t : Tables) : Nat := t.t6[10]
/-- Section 10.3, index 11, in W. -/
def overshootMargin (t : Tables) : Nat := t.t6[11]
/-- Section 10.3, index 12, in frames. -/
def cooldown (t : Tables) : Nat := t.t6[12]
/-- Section 10.3, index 13, in frames. -/
def retryWindow (t : Tables) : Nat := t.t6[13]
/-- Section 10.3, index 14, in °C. -/
def hotLimit (t : Tables) : Nat := t.t6[14]
/-- Section 10.3, index 15, in °C. -/
def coolLimit (t : Tables) : Nat := t.t6[15]
/-- Section 10.3, index 16, in quarter turns. -/
def rotation (t : Tables) : Nat := t.t6[16]
/-- Section 10.3, index 17. -/
def mirror (t : Tables) : Bool := t.t6[17] == 1
/-- The phase of a board (section 8.1). -/
def phaseOf (t : Tables) (b : BoardId) : Phase := t.t0[b].phase

end Tables

namespace Config

/-- R166: the part code. -/
def partCode : Nat := 0x640A
/-- R166: the die revision. -/
def dieRevision : Nat := 0x03
/-- Section 8.3: the board type code the hub accepts. -/
def boardType : Nat := 0x41

/-- R168: working T0 at reset. -/
def t0Reset : Vector T0Entry 4 := Vector.replicate 4 ⟨false, .l1⟩
/-- R168: working T1 at reset. -/
def t1Reset : Vector T1Entry 64 := Vector.replicate 64 ⟨false, 0, 0, 0⟩
/-- R168: working T2 at reset. -/
def t2Reset : Vector (List CoilId) 64 := Vector.replicate 64 []
/-- Section 1.2: the built-in class table. -/
def t3Default : Vector T3Entry 3 :=
  #v[⟨800, 400, 9000, 70, 45, 90⟩, ⟨1400, 600, 14000, 70, 45, 90⟩, ⟨2000, 800, 20000, 70, 45, 90⟩]
/-- Section 4.3: the built-in power curve. -/
def t4Default : Vector T4Entry 16 :=
  #v[⟨0, 0, 0⟩, ⟨100, 300, 600⟩, ⟨200, 300, 600⟩, ⟨300, 300, 600⟩, ⟨450, 300, 600⟩, ⟨600, 300, 600⟩,
    ⟨800, 300, 1200⟩, ⟨1000, 300, 1200⟩, ⟨1250, 300, 1200⟩, ⟨1500, 300, 1200⟩, ⟨1800, 300, 1200⟩,
    ⟨2100, 300, 2000⟩, ⟨2500, 300, 2000⟩, ⟨2900, 300, 2000⟩, ⟨3300, 300, 2000⟩, ⟨3700, 300, 2000⟩]
/-- Section 4.8: the built-in derating table. -/
def t5Default : Vector Nat 32 :=
  Vector.ofFn fun b => if b.val ≤ 14 then 128 else if b.val ≤ 21 then 112 - 16 * (b.val - 15) else 0
/-- Section 10.3: the built-in parameters. -/
def t6Default : Vector Nat 18 :=
  #v[2, 3, 20, 300, 25, 3680, 3680, 7360, 16, 2, 50, 250, 10, 200, 180, 150, 0, 0]

/-- R168: the working tables at reset. -/
def tablesReset : Tables := ⟨t0Reset, t1Reset, t2Reset, t3Default, t4Default, t5Default, t6Default⟩

/-- FREE VALUE (DESIGN CHOICE, log 9). The byte at a place of a sent cell to which the spec assigns no value because the
field is absent and has no absent code: a function of a fresh draw and of the place. -/
opaque absentByte : Nat → Nat → Byte

/-- FREE VALUE (DESIGN CHOICE, log 10). What the row being written holds after the supply fell below V_dig (R174: "the row
being written may be incomplete"): the entries of some tables, for a fresh draw. -/
opaque tornStore : Nat → Tables

/-- FREE VALUE (DESIGN CHOICE, log 11). The rating and thresholds the hub uses for a coil whose working T1 class is above 2, where a
rule reads a T3 entry that does not exist. -/
opaque unclassed : Fin 8 → T3Entry

/-- FREE VALUE (DESIGN CHOICE, log 12). The detail of the sense record of a refused STOP HOB, whose rule R116 has no table of
conditions to count. -/
opaque stopHobDetail : Nat → Nat

end Config

end Sys2Proof
end

