-- ==== Sys2Proof/Syntax.lean ====
section
/-! DEFINITION. The commands of the hub: one constructor for each row of spec/opcode_table.json. A command from which a rule
measures time carries the time `t` at which it comes (log 1). A command by which a block takes a posted event carries no
operand, or the board whose Board Port posted it (log 2). -/

namespace Sys2Proof

/-- The link a cell arrives on. -/
inductive Link where
  | controller
  | board (b : BoardId)
  deriving DecidableEq, Repr

/-- The fields of a SENSE cell as they are carried (section 11.6): byte 1, bytes 2 to 13. -/
structure SenseCell where
  serial : Byte
  leg : Byte
  mode : Byte
  selector : Byte
  fine : BitVec 16
  coarse : BitVec 16
  delivered : BitVec 16
  temp : Byte
  material : BitVec 4
  hold : Bool
  trip : Bool
  heatsink : Byte
  deriving DecidableEq, Repr

/-- The fields of an IDENT cell as they are carried (section 11.6). -/
structure IdentCell where
  typeCode : Byte
  legs : Byte
  coils : Byte
  diagnosis : Byte
  deriving DecidableEq, Repr

/-- The commands, one for each row of the table. -/
inductive Instr where
  | supplyRiseAboveVDig
  | supplyFallBelowVDig
  | supplyRiseAboveVOp
  | supplyFallBelowVOp
  | resetLineAssertion
  | resetLineRelease
  | serviceStrapRelease
  | zeroCrossing (t : Time)
  | mainsSilence (t : Time)
  | unlockTimerExpiry (t : Time)
  | timeBaseSecond
  | panTrackerOneSecond
  | graceExpiry
  | heatStepTick
  | stepEnd
  | panTrackerFrameEnd
  | protectionFrameEnd
  | cooldownExpiry
  | retryWindowClose
  | censusDeadlineExpiry (b : BoardId) (t : Time)
  | silenceTimerExpiry (t : Time)
  | recallComplete
  | commitRowWritten
  | cellCheckFailed (link : Link) (cell : Cell)
  | identifyHub (t : Time) (tag : Byte)
  | resetHub (t : Time) (tag : Byte)
  | setPace (t : Time) (tag window : Byte) (timeout : BitVec 16)
  | bookNotices (t : Time) (tag : Byte) (mask : BitVec 24)
  | fetchSense (t : Time) (tag : Byte)
  | startHob (t : Time) (tag : Byte)
  | stopHob (t : Time) (tag : Byte)
  | clearFault (t : Time) (tag : Byte)
  | readPan (t : Time) (tag slot : Byte)
  | readCoil (t : Time) (tag coil : Byte)
  | readFault (t : Time) (tag : Byte)
  | loadProgram (t : Time) (tag handle count : Byte)
  | runProgram (t : Time) (tag handle : Byte)
  | writeTable (t : Time) (tag table start count : Byte)
  | readTable (t : Time) (tag table start count : Byte)
  | commitTables (t : Time) (tag : Byte)
  | recallTables (t : Time) (tag : Byte)
  /-- The strap's level at the moment the order is judged comes with the command (log 7). -/
  | serviceEnter (t : Time) (tag : Byte) (strap : Bool)
  | serviceExit (t : Time) (tag : Byte)
  | disableCoil (t : Time) (tag coil : Byte)
  | enableCoil (t : Time) (tag coil : Byte)
  | setDerate (t : Time) (tag board value : Byte)
  | illegalOrder (t : Time) (tag code : Byte)
  | data (t : Time) (tag : Byte) (payload : Payload)
  | heat (t : Time) (handle action level : Byte)
  | abort (t : Time) (tag : Byte)
  | keepalive (t : Time)
  | setLevel
  | pause
  | resume
  | upstreamTransmit
  | boardTransmit (b : BoardId) (t : Time)
  | sense (b : BoardId) (cell : SenseCell)
  | ident (b : BoardId) (t : Time) (cell : IdentCell)
  | memberRelease
  | becameSensed
  | sensedReleased
  | materialChanged
  | heatLift
  | heatReturn
  | heatRetirement
  | heatMaterialChange
  | heatHobHalt
  | heatStopHob
  | heatStartHob
  | recompute
  | rebuildRequest
  | placeComplete
  | endOfCheck
  | offer
  | swapNotice
  | discard
  | haltCause
  | halt
  | hobEnteredHalted
  | clearHalt
  | releaseNotice
  | offNowRequest
  | mainsLossPost
  | protectionBoardOut (b : BoardId)
  | protectionBoardIn (b : BoardId)
  | boardRemoval (b : BoardId)
  | coilBoardOut (b : BoardId)
  | coilBoardIn (b : BoardId)
  | coilLegOut
  | coilLegIn
  | hotClaim
  | coolClaim
  | snapshotComplete
  deriving DecidableEq, Repr

end Sys2Proof
end

