-- ==== Sys2Proof/Decode.lean ====
section
/-! DEFINITION. What the host asks of decoding (the table's rows give no bits), and the reading of received cells into
commands: the check of R178, the layouts of sections 11.2, 11.3 and 11.6, the values R179 and R180 leave out; and the writing
of the cell that carries a command. -/

namespace Sys2Proof

/-- The rows of spec/opcode_table.json give no bits, so no word spells a command (log 32). -/
def decodeTableWord (_nbits _w : Nat) : Option Instr := none

/-- Bytes 2 to 13 from the bytes a layout lists; the rest are reserved and sent as zero (R178). -/
def payload (l : List Byte) : Payload := Vector.ofFn fun i => l.getD i.val 0

/-- R178: one bit of the check. -/
def crcBit (reg : BitVec 16) (bit : Bool) : BitVec 16 :=
  if reg.msb != bit then (reg <<< 1) ^^^ 0x1021#16 else reg <<< 1

/-- R178: one byte of the check, most significant bit first. -/
def crcByte (reg : BitVec 16) (b : Byte) : BitVec 16 :=
  [7, 6, 5, 4, 3, 2, 1, 0].foldl (fun r i => crcBit r (b.getLsbD i)) reg

/-- R178: the check over a message; the register starts at 0xFFFF. -/
def crc (message : List Byte) : BitVec 16 := message.foldl crcByte 0xFFFF#16

/-- R178: the check over bytes 0 to 13. -/
def checkOf (kind second : Byte) (p : Payload) : BitVec 16 := crc (kind :: second :: p.toList)

/-- R178: a cell with its check, high byte in byte 14. -/
def mkCell (kind second : Byte) (p : Payload) : Cell :=
  Vector.ofFn fun i =>
    if i.val = 0 then kind
    else if i.val = 1 then second
    else if h : 2 ≤ i.val ∧ i.val < 14 then p[i.val - 2]
    else if i.val = 14 then (checkOf kind second p).extractLsb' 8 8
    else (checkOf kind second p).extractLsb' 0 8

/-- Bytes 2 to 13 of a cell. -/
def payloadOf (cell : Cell) : Payload := Vector.ofFn fun i => cell[i.val + 2]

/-- R178: the received check agrees with bytes 14 and 15. -/
def checkHolds (cell : Cell) : Bool := checkOf cell[0] cell[1] (payloadOf cell) == cell[14] ++ cell[15]

/-- R180: the SENSE cell carries only values the layouts define. -/
def SenseCell.defined (c : SenseCell) : Bool :=
  c.leg.toNat ≤ 3 && c.mode.toNat ≤ 2 && (c.selector.toNat ≤ 3 || c.selector == 0xFF#8) && c.material.toNat ≤ 3 &&
    c.fine.toNat ≤ 4095 && c.coarse.toNat ≤ 4095

/-- R180: the IDENT cell carries a defined diagnosis. -/
def IdentCell.defined (c : IdentCell) : Bool := c.diagnosis.toNat ≤ 2

/-- Section 11.3: an ORDER cell's command; a code of 0 or above 22 is an illegal order (R179). -/
def readOrder (t : Time) (strap : Bool) (tag : Byte) (p : Payload) : Instr :=
  match p[0].toNat with
  | 1 => .identifyHub t tag
  | 2 => .resetHub t tag
  | 3 => .setPace t tag p[1] (p[2] ++ p[3])
  | 4 => .bookNotices t tag (p[1] ++ p[2] ++ p[3])
  | 5 => .fetchSense t tag
  | 6 => .startHob t tag
  | 7 => .stopHob t tag
  | 8 => .clearFault t tag
  | 9 => .readPan t tag p[1]
  | 10 => .readCoil t tag p[1]
  | 11 => .readFault t tag
  | 12 => .loadProgram t tag p[1] p[2]
  | 13 => .runProgram t tag p[1]
  | 14 => .writeTable t tag p[1] p[2] p[3]
  | 15 => .readTable t tag p[1] p[2] p[3]
  | 16 => .commitTables t tag
  | 17 => .recallTables t tag
  | 18 => .serviceEnter t tag strap
  | 19 => .serviceExit t tag
  | 20 => .disableCoil t tag p[1]
  | 21 => .enableCoil t tag p[1]
  | 22 => .setDerate t tag p[1] p[2]
  | _ => .illegalOrder t tag p[0]

/-- Section 11.6: the fields of a SENSE cell. -/
def readSense (second : Byte) (p : Payload) : SenseCell :=
  { serial := second, leg := p[0], mode := p[1], selector := p[2], fine := p[3] ++ p[4], coarse := p[5] ++ p[6],
    delivered := p[7] ++ p[8], temp := p[9], material := p[10].extractLsb' 4 4, hold := p[10].getLsbD 1,
    trip := p[10].getLsbD 0, heatsink := p[11] }

/-- Section 11.6: the fields of an IDENT cell. -/
def readIdent (p : Payload) : IdentCell := ⟨p[0], p[1], p[2], p[3]⟩

/-- R155, R178, R180: the command a received cell stands for, or none for a cell that is discarded before any block sees it.
`strap` is the level of the service strap, which the SERVICE ENTER command carries (log 7). -/
def readCell (link : Link) (t : Time) (strap : Bool) (cell : Cell) : Option Instr :=
  if checkHolds cell then
    match link with
    | .controller =>
      match cell[0].toNat with
      | 0x01 => some (readOrder t strap cell[1] (payloadOf cell))
      | 0x02 => some (.data t cell[1] (payloadOf cell))
      | 0x03 => some (.heat t cell[1] cell[2] cell[3])
      | 0x04 => some (.abort t cell[1])
      | 0x05 => some (.keepalive t)
      | _ => none
    | .board b =>
      match cell[0].toNat with
      | 0x31 =>
        if (readSense cell[1] (payloadOf cell)).defined then some (.sense b (readSense cell[1] (payloadOf cell))) else none
      | 0x32 => if (readIdent (payloadOf cell)).defined then some (.ident b t (readIdent (payloadOf cell))) else none
      | _ => none
  else none

/-- The ORDER cell of an order code and its parameters (section 11.2). -/
def orderCell (tag code : Byte) (params : List Byte) : Cell := mkCell 0x01 tag (payload (code :: params))

/-- The cell that carries a command, for the commands that come as cells (sections 11.2, 11.3, 11.6). -/
def cellOf : Instr → Option (Link × Cell)
  | .identifyHub _ tag => some (.controller, orderCell tag 1 [])
  | .resetHub _ tag => some (.controller, orderCell tag 2 [])
  | .setPace _ tag w d => some (.controller, orderCell tag 3 [w, d.extractLsb' 8 8, d.extractLsb' 0 8])
  | .bookNotices _ tag m =>
    some (.controller, orderCell tag 4 [m.extractLsb' 16 8, m.extractLsb' 8 8, m.extractLsb' 0 8])
  | .fetchSense _ tag => some (.controller, orderCell tag 5 [])
  | .startHob _ tag => some (.controller, orderCell tag 6 [])
  | .stopHob _ tag => some (.controller, orderCell tag 7 [])
  | .clearFault _ tag => some (.controller, orderCell tag 8 [])
  | .readPan _ tag s => some (.controller, orderCell tag 9 [s])
  | .readCoil _ tag c => some (.controller, orderCell tag 10 [c])
  | .readFault _ tag => some (.controller, orderCell tag 11 [])
  | .loadProgram _ tag h n => some (.controller, orderCell tag 12 [h, n])
  | .runProgram _ tag h => some (.controller, orderCell tag 13 [h])
  | .writeTable _ tag a b c => some (.controller, orderCell tag 14 [a, b, c])
  | .readTable _ tag a b c => some (.controller, orderCell tag 15 [a, b, c])
  | .commitTables _ tag => some (.controller, orderCell tag 16 [])
  | .recallTables _ tag => some (.controller, orderCell tag 17 [])
  | .serviceEnter _ tag _ => some (.controller, orderCell tag 18 [])
  | .serviceExit _ tag => some (.controller, orderCell tag 19 [])
  | .disableCoil _ tag c => some (.controller, orderCell tag 20 [c])
  | .enableCoil _ tag c => some (.controller, orderCell tag 21 [c])
  | .setDerate _ tag b v => some (.controller, orderCell tag 22 [b, v])
  | .illegalOrder _ tag code => some (.controller, orderCell tag code [])
  | .data _ tag p => some (.controller, mkCell 0x02 tag p)
  | .heat _ h a l => some (.controller, mkCell 0x03 h (payload [a, l]))
  | .abort _ tag => some (.controller, mkCell 0x04 tag (payload []))
  | .keepalive _ => some (.controller, mkCell 0x05 0 (payload []))
  | .sense b c =>
    some (.board b, mkCell 0x31 c.serial (payload
      [c.leg, c.mode, c.selector, c.fine.extractLsb' 8 8, c.fine.extractLsb' 0 8, c.coarse.extractLsb' 8 8,
        c.coarse.extractLsb' 0 8, c.delivered.extractLsb' 8 8, c.delivered.extractLsb' 0 8, c.temp,
        c.material ++ 0#2 ++ BitVec.ofBool c.hold ++ BitVec.ofBool c.trip, c.heatsink]))
  | .ident b _ c => some (.board b, mkCell 0x32 0 (payload [c.typeCode, c.legs, c.coils, c.diagnosis]))
  | .supplyRiseAboveVDig .. | .supplyFallBelowVDig .. | .supplyRiseAboveVOp .. | .supplyFallBelowVOp ..
  | .resetLineAssertion .. | .resetLineRelease .. | .serviceStrapRelease .. | .zeroCrossing ..
  | .mainsSilence .. | .unlockTimerExpiry .. | .timeBaseSecond .. | .panTrackerOneSecond .. | .graceExpiry ..
  | .heatStepTick .. | .stepEnd .. | .panTrackerFrameEnd .. | .protectionFrameEnd .. | .cooldownExpiry ..
  | .retryWindowClose .. | .censusDeadlineExpiry .. | .silenceTimerExpiry .. | .recallComplete ..
  | .commitRowWritten .. | .cellCheckFailed .. | .setLevel .. | .pause .. | .resume .. | .upstreamTransmit ..
  | .boardTransmit .. | .memberRelease .. | .becameSensed .. | .sensedReleased .. | .materialChanged ..
  | .heatLift .. | .heatReturn .. | .heatRetirement .. | .heatMaterialChange .. | .heatHobHalt ..
  | .heatStopHob .. | .heatStartHob .. | .recompute .. | .rebuildRequest .. | .placeComplete ..
  | .endOfCheck .. | .offer .. | .swapNotice .. | .discard .. | .haltCause .. | .halt .. | .hobEnteredHalted ..
  | .clearHalt .. | .releaseNotice .. | .offNowRequest .. | .mainsLossPost .. | .protectionBoardOut ..
  | .protectionBoardIn .. | .boardRemoval .. | .coilBoardOut .. | .coilBoardIn .. | .coilLegOut ..
  | .coilLegIn .. | .hotClaim .. | .coolClaim .. | .snapshotComplete .. => none

end Sys2Proof
end

