-- ==== Sys2Proof/Machine/State.lean ====
section
/-! DEFINITION. The state of the hub: every block's items as the spec lists them, the posts between blocks that have not been
taken, and the queue of commands; State.reset; the outcomes a step may stop with. All plain data. -/

namespace Sys2Proof.Machine

/-! ### Supply Monitor (R176, R177) -/

inductive SupplyLevel where
  | belowDig | belowOp | aboveOp
  deriving DecidableEq, Repr

inductive HubState where
  | dormant | recalling | ready | supplyLow
  deriving DecidableEq, Repr

/-- The hub state, the seen-released flag and the pins the Supply Monitor and the Table Store read. -/
structure Supply where
  level : SupplyLevel
  resetLine : Bool
  strap : Bool
  hub : HubState
  seenReleased : Bool
  deriving DecidableEq, Repr

/-! ### Table Store (R168) -/

/-- The table and row being written by a commit (R174). -/
structure CommitPos where
  table : Fin 7
  row : Nat
  deriving DecidableEq, Repr

structure TableStore where
  work : Tables
  valid : Bool
  service : Bool
  commit : Option CommitPos
  recalling : Bool
  kept : Tables
  marks : Vector Bool 7
  deriving DecidableEq, Repr

/-! ### Coil Monitor (R3, R17) -/

inductive Occupancy where
  | absent | vacant | sensed | member
  deriving DecidableEq, Repr

inductive RangeMode where
  | fine | coarse
  deriving DecidableEq, Repr

inductive Material where
  | none | ferritic | layered | unsuitable
  deriving DecidableEq, Repr

/-- A coil record (section 1.3); `fireMet` says whether the last measurement met the FIRE it was judged against (R19, log 14). -/
structure CoilRecord where
  occupancy : Occupancy
  owner : Option PanSlot
  coverage : Nat
  range : RangeMode
  confirm : Nat
  material : Material
  hot : Bool
  disabled : Bool
  unobserved : Bool
  temp : Nat
  fireMet : Bool
  deriving DecidableEq, Repr

/-- A leg's out-of-service set, drawn from BOARD and LEG (R17). -/
structure OutSet where
  board : Bool
  leg : Bool
  deriving DecidableEq, Repr

inductive LegMode where
  | idle | firing | probe
  deriving DecidableEq, Repr

/-- A valid sense report as the Board Port hands it on (R150). -/
structure Report where
  board : BoardId
  leg : LocalLeg
  mode : LegMode
  selector : Option Selector
  fine : Nat
  coarse : Nat
  delivered : Nat
  temp : Nat
  material : Material
  trip : Bool
  deriving DecidableEq, Repr

/-! ### Pan records (R21 to R23, R51, R57, R72, R91, R107) -/

inductive Presence where
  | free | forming | placed | moving | lifted
  deriving DecidableEq, Repr

structure Signature where
  x : Nat
  y : Nat
  area : Nat
  material : Material
  deriving DecidableEq, Repr

/-- The presence part (section 2.1). -/
structure PresencePart where
  gen : BitVec 4
  presence : Presence
  members : List CoilId
  x : Nat
  y : Nat
  area : Nat
  material : Material
  settle : Nat
  changed : Bool
  signature : Option Signature
  liftedAt : Option (BitVec 16)
  grace : Option Nat
  deriving DecidableEq, Repr

inductive HeatState where
  | idle | level | program | paused | suspended | stopped
  deriving DecidableEq, Repr

inductive PriorMode where
  | level | program
  deriving DecidableEq, Repr

/-- The heat part (R51). -/
structure HeatPart where
  state : HeatState
  level : Level
  prior : Option PriorMode
  position : Fin 8
  remaining : Nat
  timed : Bool
  deriving DecidableEq, Repr

inductive EndAction where
  | next | hold | off
  deriving DecidableEq, Repr

/-- A step of a program store (R57). -/
structure ProgramStep where
  level : Level
  duration : Nat
  action : EndAction
  deriving DecidableEq, Repr

/-- The allocation part (R72). -/
structure AllocPart where
  k : Nat
  k1 : Nat
  k2 : Nat
  d : Nat
  g : Nat
  effective : Level
  basis : Option (Level × Level)
  deriving DecidableEq, Repr

structure PanRecord where
  pres : PresencePart
  heat : HeatPart
  program : List ProgramStep
  alloc : AllocPart
  scheduled : Nat
  dropped : Nat
  delivered : Nat
  deriving DecidableEq, Repr

/-- The Pan Tracker's lists (section 2.1); `graceDue` is the tail of a one-second event (log 3). -/
structure PanLists where
  liftOrder : List PanSlot
  orphans : List CoilId
  examQueue : List CoilId
  graceDue : List PanSlot
  deriving DecidableEq, Repr

/-- The Heat Sequencer's request order list (R52), the steps held by a LOAD PROGRAM (R59), and of the tail of a one-second event
(log 3) the steps to end and the contexts changed by those that have ended (R71). -/
structure HeatLists where
  requests : List PanSlot
  held : List ProgramStep
  stepDue : List PanSlot
  stepChanged : List PanSlot
  deriving DecidableEq, Repr

/-! ### Budget Allocator (R81 to R86) -/

structure Derating where
  manual : Option Nat
  bucket : Fin 32
  deriving DecidableEq, Repr

/-- What the most recent recompute left for the snapshot (R82); an eligible member comes with its coil limit (R75). -/
structure Figures where
  order : List PanSlot
  eligible : Vector (List (CoilId × Nat)) 8
  limit1 : Nat
  limit2 : Nat
  limitHob : Nat
  deriving DecidableEq, Repr

structure Budget where
  derating : Vector Derating 4
  figures : Figures
  deriving DecidableEq, Repr

/-! ### Slot Scheduler (R89 to R91) -/

structure Firing where
  coil : CoilId
  pan : PanSlot
  setpoint : Nat
  deriving DecidableEq, Repr

inductive Stage where
  | idle | gather | place | check | ready
  deriving DecidableEq, Repr

inductive BankId where
  | a | b
  deriving DecidableEq, Repr

/-- What the snapshot takes for one listed pan (R93). -/
structure SnapPan where
  pan : PanSlot
  g : Nat
  eligible : List (CoilId × Nat)
  floor : Nat
  ceiling : Nat
  deriving DecidableEq, Repr

/-- The snapshot of GATHER (R93). -/
structure Snapshot where
  f : Nat
  pans : List SnapPan
  limit1 : Nat
  limit2 : Nat
  limitHob : Nat
  phases : Vector Phase 4
  neighbours : List (CoilId × List CoilId)
  deriving DecidableEq, Repr

/-- The build results of one pan (R97), with its setpoint. -/
structure BuildResult where
  pan : PanSlot
  setpoint : Nat
  placed : Nat
  dropped : Nat
  deriving DecidableEq, Repr

structure Scheduler where
  bankA : List (List Firing)
  bankB : List (List Firing)
  stage : Stage
  rerun : Bool
  restarts : Nat
  snapshot : Option Snapshot
  cursors : Option (List Nat)
  results : Option (List BuildResult)
  deriving DecidableEq, Repr

/-! ### Frame Engine (R107) -/

inductive HobState where
  | stopped | running | halted
  deriving DecidableEq, Repr

inductive LockState where
  | unlocked | locking | locked
  deriving DecidableEq, Repr

structure FrameEngine where
  hob : HobState
  lock : LockState
  lockCount : Nat
  lastCrossing : Option Time
  unlockTimer : Option Time
  f : Nat
  q : Nat
  freq : Nat
  frameOpen : Bool
  slotIndex : Nat
  serial : BitVec 8
  frameCount : BitVec 16
  activeBank : BankId
  swapPending : Bool
  awaiting : Bool
  lastLoss : Option Time
  emitted : Vector Nat 8
  probe : Vector Selector 16
  seconds : BitVec 16
  deriving DecidableEq, Repr

/-! ### Protection Unit (R125, R137) -/

inductive LegState where
  | ready | tripped | locked | offline
  deriving DecidableEq, Repr

structure LegRecord where
  state : LegState
  trips : Nat
  windowStart : Option (BitVec 16)
  cooldown : Option Nat
  overshoot : Bool
  deriving DecidableEq, Repr

/-- The fault kinds of R137 and R138, in the order of their codes (section 11.7). -/
inductive FaultKind where
  | boardTrip | overshoot | noReport | coilHot | boardLost | mainsLost | silence | mains | supply | noBoards | legLock
  deriving DecidableEq, Repr

inductive TripCause where
  | boardTrip | overshoot | noReport
  deriving DecidableEq, Repr

inductive HaltCause where
  | silence | mains | supply | noBoards
  deriving DecidableEq, Repr

inductive LossCause where
  | outOfWindow | noCrossing
  deriving DecidableEq, Repr

/-- The first-fault record (R137). -/
structure FaultRecord where
  kind : FaultKind
  board : Option BoardId
  leg : Option LegId
  coil : Option CoilId
  handle : Option (PanSlot × BitVec 4)
  frame : BitVec 16
  slot : Nat
  value : Nat
  deriving DecidableEq, Repr

structure Protection where
  legs : Vector LegRecord 16
  hot : Vector Bool 64
  firstFault : Option FaultRecord
  traps : BitVec 11
  cooldownDue : List LegId
  windowDue : List LegId
  deriving DecidableEq, Repr

/-! ### Board Ports (R142) -/

inductive BoardState where
  | unconfigured | waiting | online | offline | failed
  deriving DecidableEq, Repr

inductive BoardCause where
  | noIdent | identFail | typeMismatch | missedSlots | hold | restarted
  deriving DecidableEq, Repr

inductive SlotKind where
  | idle | active | quiet
  deriving DecidableEq, Repr

/-- What a drive cell gives one leg (R119). -/
inductive LegDrive where
  | none
  | fire (sel : Selector) (setpoint : Nat) (sync : PanSlot)
  | probe (sel : Selector)
  deriving DecidableEq, Repr

structure DriveCell where
  serial : BitVec 8
  kind : SlotKind
  legs : Vector LegDrive 4
  deriving DecidableEq, Repr

/-- The slot record (R142). -/
structure SlotRecord where
  drive : Vector LegDrive 4
  reported : Vector Bool 4
  hold : Bool
  deriving DecidableEq, Repr

structure BoardPort where
  state : BoardState
  requestTime : Option Time
  deadline : Option Time
  serial : Option (BitVec 8)
  slot : Option SlotRecord
  missed : Nat
  holdRun : Nat
  noReport : Vector Nat 4
  lastFiring : Vector (Option (CoilId × Nat)) 4
  heatsink : Int
  txOffNow : Option (Vector Bool 4)
  txDrive : Option DriveCell
  txIdent : Bool
  deriving DecidableEq, Repr

/-! ### Controller Port (R154) -/

inductive OrderState where
  | idle | dataOut | dataIn | completing | status
  deriving DecidableEq, Repr

/-- What the owner of the order in progress keeps of it. -/
inductive OrderJob where
  | plain
  | pace (window timeout : Nat)
  | program (handle : Byte)
  | table (t : Fin 7) (start : Nat)
  deriving DecidableEq, Repr

structure Order where
  code : Nat
  tag : Byte
  expected : Nat
  taken : Nat
  job : OrderJob
  deriving DecidableEq, Repr

inductive SenseKey where
  | noSense | illegalOrder | badField | staleHandle | notPermitted | tableInvalid | dataOverrun | aborted
  deriving DecidableEq, Repr

structure SenseRecord where
  key : SenseKey
  field : Nat
  detail : Nat
  deriving DecidableEq, Repr

inductive Condition where
  | good | check | busy | notReady
  deriving DecidableEq, Repr

/-- A status cell waiting; `own` marks the status of the order in progress (R157). -/
structure StatusCell where
  tag : Byte
  condition : Condition
  key : SenseKey
  own : Bool
  deriving DecidableEq, Repr

inductive HeatAction where
  | setLevel | pause | resume
  deriving DecidableEq, Repr

structure HeatCell where
  handle : Byte
  action : HeatAction
  level : Byte
  deriving DecidableEq, Repr

/-- The 20 notice kinds (section 11.7). -/
inductive NoticeKind where
  | panPlaced | panReturned | panMoved | panLifted | panRetired | panSplit | tableFull | levelChanged | stepDone | programDone
  | heatRefused | legTripped | legLocked | coilHot | coilCool | boardOnline | boardOffline | mainsLost | mainsBack | hobHalted
  deriving DecidableEq, Repr

structure Notice where
  kind : NoticeKind
  subject : Byte
  first : BitVec 16
  second : BitVec 16
  stamp : BitVec 16
  gap : Bool
  deriving DecidableEq, Repr

structure ControllerPort where
  state : OrderState
  order : Option Order
  aborting : Bool
  credit : Nat
  window : Nat
  timeout : Nat
  silence : Option Time
  sense : SenseRecord
  heatQueue : List HeatCell
  notices : List Notice
  gap : Bool
  mask : BitVec 20
  statuses : List StatusCell
  pendingCredit : Nat
  dataIn : List Payload
  deriving DecidableEq, Repr

/-! ### Posts between blocks (log 2) -/

/-- Coil-change events (R20). A member release waits until the Pan Tracker has taken every event posted to it before (R11): `frames`
frame-ends and `seconds` one-second events of those are still waiting. -/
inductive CoilEvent where
  | becameSensed (c : CoilId) (m : Material)
  | released (c : CoilId) (m : Material)
  | materialChanged (c : CoilId) (p : Option PanSlot) (m : Material)
  | memberRelease (c : CoilId) (p : Option PanSlot) (m : Material) (firing : Bool) (frames seconds : Nat)
  deriving DecidableEq, Repr

/-- Posts of the Pan Tracker to the Heat Sequencer (section 3.6). -/
inductive PanPost where
  | lift (p : PanSlot)
  | back (p : PanSlot)
  | retirement (p : PanSlot)
  | material (p : PanSlot) (m : Material)
  deriving DecidableEq, Repr

/-- Posts of the Frame Engine to the Heat Sequencer (R124). -/
inductive HobPost where
  | halt | stop | start
  deriving DecidableEq, Repr

/-- The events of R73 that other blocks post to the Budget Allocator; a heat change names the contexts it concerns (R71). A derating change is
posted by a recall only: on any other, and on a write, it recomputes at once (R74, R85; log 46). -/
inductive Trigger where
  | heatChange (pans : List PanSlot)
  | membership (p : PanSlot)
  | eligibility (c : CoilId) (p : Option PanSlot)
  | legState (l : LegId)
  | boardState (b : BoardId)
  | derating
  | recalled
  deriving DecidableEq, Repr

/-- Posts of the Frame Engine to the Slot Scheduler that keep their order (R103, R104). -/
inductive SchedulerPost where
  | discard | rebuild
  deriving DecidableEq, Repr

/-- Claims of the Protection Unit on the hob state (R117). -/
inductive HobClaim where
  | halt (c : HaltCause)
  | clear
  deriving DecidableEq, Repr

/-- Claims of the Protection Unit on the Coil Monitor (R16, R17). -/
inductive CoilClaim where
  | legOut (l : LegId)
  | legIn (l : LegId)
  | hot (c : CoilId)
  | cool (c : CoilId)
  deriving DecidableEq, Repr

/-- Posts of a Board Port (R141, R145, R146); `failed` tells FAILED from OFFLINE. -/
inductive BoardPost where
  | out (failed : Bool)
  | into
  | removal
  deriving DecidableEq, Repr

/-- The posts that wait, a channel for each receiver, sender and kind of event: where one block posts several kinds to another in channels of
their own, the order of the commands decides which is taken first (logs 2, 54). -/
structure Posts where
  coilEvents : List CoilEvent
  ptFrameEnds : List (BitVec 16)
  ptSeconds : Nat
  hsSeconds : Nat
  pans : List PanPost
  hob : List HobPost
  triggers : List Trigger
  rebuilds : Nat
  scheduler : List SchedulerPost
  swaps : Nat
  offers : Nat
  hobClaims : List HobClaim
  releases : List CoilId
  offNows : List LegId
  haltCauses : List HaltCause
  halted : List HaltCause
  losses : List LossCause
  puBoards : List (BoardId × BoardPost)
  puFrameEnds : List (BitVec 16)
  cmBoards : List (BoardId × BoardPost)
  cmClaims : List CoilClaim
  deriving DecidableEq, Repr

/-! ### The whole state -/

/-- The state of the hub. `draws` counts the free values drawn (log 9); `upLine` and `boardLines` show the last cell sent on each link
(log 8). -/
structure State where
  pending : List Instr
  now : Time
  draws : Nat
  upLine : Option Cell
  boardLines : Vector (Option Cell) 4
  sup : Supply
  ts : TableStore
  coils : Vector CoilRecord 64
  legOut : Vector OutSet 16
  pans : Vector PanRecord 8
  pt : PanLists
  hs : HeatLists
  ba : Budget
  ss : Scheduler
  fe : FrameEngine
  pu : Protection
  boards : Vector BoardPort 4
  cp : ControllerPort
  posts : Posts
  deriving DecidableEq, Repr

/-- No command stops the hub: a protective event and a refused order are state (INVENTORY.md, Faults), so no meaning raises a
fault and the type has no constructor. -/
inductive Fault : Type where
  deriving DecidableEq, Repr

/-- Why a command has no meaning. -/
inductive Refusal where
  /-- Raised only by an arm of exec for a row without a meaning; safe. No arm of this model uses it. -/
  | notModelled (mnemonic : String)
  deriving DecidableEq, Repr

/-! ### Reset values -/

/-- R3: a coil record at reset. -/
def CoilRecord.reset : CoilRecord :=
  { occupancy := .absent, owner := none, coverage := 0, range := .fine, confirm := 0, material := .none, hot := false,
    disabled := false, unobserved := false, temp := 0, fireMet := false }

/-- R23, R46: the presence part of a FREE record that keeps generation `g`. -/
def PresencePart.freed (g : BitVec 4) : PresencePart :=
  { gen := g, presence := .free, members := [], x := 0, y := 0, area := 0, material := .none, settle := 0, changed := false,
    signature := none, liftedAt := none, grace := none }

/-- R51: the IDLE values. -/
def HeatPart.idle : HeatPart := ⟨.idle, 0, none, 0, 0, false⟩

/-- R72: the allocation part at reset and of a pan that does not heat. -/
def AllocPart.zero : AllocPart := ⟨0, 0, 0, 0, 0, 0, none⟩

/-- A pan record at reset (R23, R51, R72, R91, R107). -/
def PanRecord.reset : PanRecord := ⟨.freed 0, .idle, [], .zero, 0, 0, 0⟩

/-- R125: a leg record at reset. -/
def LegRecord.reset : LegRecord := ⟨.offline, 0, none, none, false⟩

/-- R142: a Board Port at reset. -/
def BoardPort.reset : BoardPort :=
  { state := .unconfigured, requestTime := none, deadline := none, serial := none, slot := none, missed := 0, holdRun := 0,
    noReport := Vector.replicate 4 0, lastFiring := Vector.replicate 4 none, heatsink := 0, txOffNow := none, txDrive := none,
    txIdent := false }

/-- R89: an empty bank has F empty lists. -/
def emptyBank (f : Nat) : List (List Firing) := List.replicate f []

/-- R86 and log 13: the Budget Allocator at reset. -/
def Budget.reset : Budget :=
  ⟨Vector.replicate 4 ⟨none, 0⟩, ⟨[], Vector.replicate 8 [], 3680, 3680, 7360⟩⟩

/-- R90, R91: the Slot Scheduler at reset. -/
def Scheduler.reset : Scheduler := ⟨emptyBank 16, emptyBank 16, .idle, false, 0, none, none, none⟩

/-- R107: the Frame Engine at reset. -/
def FrameEngine.reset : FrameEngine :=
  { hob := .stopped, lock := .unlocked, lockCount := 0, lastCrossing := none, unlockTimer := none, f := 16, q := 2, freq := 50,
    frameOpen := false, slotIndex := 0, serial := 0, frameCount := 0, activeBank := .a, swapPending := false, awaiting := false,
    lastLoss := none, emitted := Vector.replicate 8 0, probe := Vector.replicate 16 0, seconds := 0 }

/-- R125: the Protection Unit at reset. -/
def Protection.reset : Protection :=
  ⟨Vector.replicate 16 .reset, Vector.replicate 64 false, none, 0, [], []⟩

/-- R154: the Controller Port at reset. -/
def ControllerPort.reset : ControllerPort :=
  { state := .idle, order := none, aborting := false, credit := 0, window := 1, timeout := 500, silence := none,
    sense := ⟨.noSense, 0, 0⟩, heatQueue := [], notices := [], gap := false, mask := BitVec.allOnes 20, statuses := [],
    pendingCredit := 0, dataIn := [] }

/-- No post waits (log 36). -/
def Posts.none : Posts := ⟨[], [], 0, 0, [], [], [], 0, [], 0, 0, [], [], [], [], [], [], [], [], [], []⟩

/-- The hub right after the supply rose above V_dig (R176) on a part as delivered (R168): every block at its reset values, DORMANT,
seen-released flag clear. The pins and the content of the store are the model's choice (log 5). -/
def State.reset : State :=
  { pending := [], now := 0, draws := 0, upLine := none, boardLines := Vector.replicate 4 none,
    sup := ⟨.belowOp, false, false, .dormant, false⟩,
    ts := ⟨Config.tablesReset, false, false, none, false, Config.tablesReset, Vector.replicate 7 false⟩,
    coils := Vector.replicate 64 .reset, legOut := Vector.replicate 16 ⟨false, false⟩,
    pans := Vector.replicate 8 .reset, pt := ⟨[], [], [], []⟩, hs := ⟨[], [], [], []⟩, ba := .reset, ss := .reset, fe := .reset,
    pu := .reset, boards := Vector.replicate 4 .reset, cp := .reset, posts := .none }

end Sys2Proof.Machine
end

