-- ==== Sys2Proof/Machine/Operands.lean ====
section
/-! DEFINITION. The operands of commands: coil, leg and board numbers, handles, the fields of SENSE and IDENT cells, and the
entries and steps of DATA cells. -/

namespace Sys2Proof.Machine

/-! ### Coils, legs and boards (spec/00_scope.md section 3.1) -/

/-- Section 3.1: the board of a coil. -/
def coilBoard (k : CoilId) : BoardId := ⟨k.val / 16, by omega⟩
/-- Section 3.1: the global leg of a coil. -/
def coilLeg (k : CoilId) : LegId := ⟨k.val / 4, by omega⟩
/-- Section 3.1: the local leg of a coil. -/
def coilLocal (k : CoilId) : LocalLeg := ⟨k.val % 16 / 4, by omega⟩
/-- Section 3.1: the selector position of a coil. -/
def coilSelector (k : CoilId) : Selector := ⟨k.val % 4, by omega⟩
/-- R4: board × 16 + local leg × 4 + selector. -/
def coilAt (b : BoardId) (l : LocalLeg) (sel : Selector) : CoilId := ⟨b.val * 16 + l.val * 4 + sel.val, by omega⟩
/-- The board of a global leg. -/
def legBoard (l : LegId) : BoardId := ⟨l.val / 4, by omega⟩
/-- The local number of a global leg. -/
def legLocal (l : LegId) : LocalLeg := ⟨l.val % 4, by omega⟩
/-- The global leg of a board's local leg. -/
def legAt (b : BoardId) (l : LocalLeg) : LegId := ⟨b.val * 4 + l.val, by omega⟩
/-- A coil of a leg by its selector position. -/
def legCoil (l : LegId) (sel : Selector) : CoilId := ⟨l.val * 4 + sel.val, by omega⟩

/-- All coils, ascending. -/
def allCoils : List CoilId := List.finRange 64
/-- All legs, ascending. -/
def allLegs : List LegId := List.finRange 16
/-- All boards, ascending. -/
def allBoards : List BoardId := List.finRange 4
/-- All pan slots, ascending. -/
def allPans : List PanSlot := List.finRange 8
/-- The four local legs, or the four selector positions, ascending. -/
def four : List (Fin 4) := List.finRange 4
/-- The legs of a board, ascending. -/
def boardLegs (b : BoardId) : List LegId := four.map (legAt b)
/-- The coils a leg serves, ascending. -/
def legCoils (l : LegId) : List CoilId := four.map (legCoil l)

/-! ### Handles (spec/00_scope.md section 3.2, spec/11_cell_formats.md section 11.1) -/

/-- The byte of a handle: pan slot in bits 6 to 4, generation in bits 3 to 0. -/
def handleByte (p : PanSlot) (g : BitVec 4) : Byte := 0#1 ++ BitVec.ofNat 3 p.val ++ g
/-- The pan slot a handle byte names; bit 7 is ignored (R179). -/
def handleSlot (h : Byte) : PanSlot := (h.extractLsb' 4 3).toFin
/-- The generation a handle byte names. -/
def handleGen (h : Byte) : BitVec 4 := h.extractLsb' 0 4
/-- R53, R58, R60: the handle is the named slot's current handle and the slot is not FREE. A received handle byte 0xFF is read with bit 7
ignored (R179), as slot 7 with generation 15, not as R178's 'none' (log 44). -/
def handleCurrent (s : State) (h : Byte) : Bool :=
  s.pans[handleSlot h].pres.presence != .free && s.pans[handleSlot h].pres.gen == handleGen h
/-- The current handle of a pan slot. -/
def State.handleOf (s : State) (p : PanSlot) : Byte := handleByte p s.pans[p].pres.gen

/-! ### Board cells (section 11.6) -/

/-- Section 11.7: a material code. -/
def materialOf (code : Nat) : Material :=
  match code with
  | 0 => .none
  | 1 => .ferritic
  | 2 => .layered
  | _ => .unsuitable

/-- The fields of a SENSE cell as the blocks read them: power fields in W (R178). -/
def Report.ofCell (b : BoardId) (cell : SenseCell) : Report :=
  { board := b
    leg := (cell.leg.extractLsb' 0 2).toFin
    mode := if cell.mode = 0 then .idle else if cell.mode = 1 then .firing else .probe
    selector := if cell.selector = 0xFF#8 then none else some (cell.selector.extractLsb' 0 2).toFin
    fine := cell.fine.toNat
    coarse := cell.coarse.toNat
    delivered := cell.delivered.toNat * 10
    temp := cell.temp.toNat
    material := materialOf cell.material.toNat
    trip := cell.trip }

/-- The global leg that reports. -/
def Report.globalLeg (r : Report) : LegId := legAt r.board r.leg
/-- The coil a report's selector gives (R4), whatever the report's mode. -/
def Report.selectedCoil (r : Report) : Option CoilId := r.selector.map (coilAt r.board r.leg)
/-- R178: a heatsink temperature is carried as its value plus 40. -/
def heatsinkOf (carried : Byte) : Int := (carried.toNat : Int) - 40
/-- R143: an IDENT cell with another type code, leg count or coil count. -/
def typeMismatch (cell : IdentCell) : Bool :=
  cell.typeCode != BitVec.ofNat 8 Config.boardType || cell.legs != 4#8 || cell.coils != 16#8

/-! ### Entries and steps of DATA cells (section 11.4; R169, R171, R179) -/

/-- A two-byte field of a payload. -/
def word16 (p : Payload) (i : Nat) (h : i + 1 < 12 := by omega) : Nat := (p[i] ++ p[i + 1]).toNat

/-- R169: a T0 entry. -/
def readT0 (p : Payload) : Option T0Entry :=
  if p[0].toNat ≤ 1 ∧ (p[1] = 1 ∨ p[1] = 2) then some ⟨p[0] == 1, if p[1] = 1 then .l1 else .l2⟩ else none
/-- R169: a T1 entry; a class up to 7 is written as given. -/
def readT1 (p : Payload) : Option T1Entry :=
  if h : p[0].toNat ≤ 1 ∧ word16 p 1 ≤ 1023 ∧ word16 p 3 ≤ 1023 ∧ p[5].toNat < 8 then
    some ⟨p[0] == 1, word16 p 1, word16 p 3, ⟨p[5].toNat, h.2.2.2⟩⟩
  else none
/-- R169: a T2 entry; indices beyond the count are ignored (R179). -/
def readT2 (p : Payload) : Option (List CoilId) :=
  if p[0].toNat ≤ 11 then
    ((p.toList.drop 1).take p[0].toNat).mapM fun b => if h : b.toNat < 64 then some ⟨b.toNat, h⟩ else none
  else none
/-- R169: a T3 entry, its rated power carried in 10 W. -/
def readT3 (p : Payload) : Option T3Entry :=
  if word16 p 0 * 10 ≤ 3700 ∧ word16 p 2 ≤ 32760 ∧ word16 p 4 ≤ 32760 ∧ p[6].toNat ≤ 200 ∧ p[7].toNat ≤ 200 ∧ p[8].toNat ≤ 200
  then some ⟨word16 p 0 * 10, word16 p 2, word16 p 4, p[6].toNat, p[7].toNat, p[8].toNat⟩
  else none
/-- R169: a T4 entry, its powers carried in 10 W. -/
def readT4 (p : Payload) : Option T4Entry :=
  if word16 p 0 * 10 ≤ 3700 ∧ word16 p 2 * 10 ≤ 3700 ∧ word16 p 4 * 10 ≤ 3700 then
    some ⟨word16 p 0 * 10, word16 p 2 * 10, word16 p 4 * 10⟩
  else none
/-- R169: a T5 entry. -/
def readT5 (p : Payload) : Option Nat := if p[0].toNat ≤ 128 then some p[0].toNat else none

/-- The T6 parameters that are powers, carried in 10 W (sections 10.3 and 11.4). -/
def isPowerParameter (i : Nat) : Bool := i == 5 || i == 6 || i == 7 || i == 11

/-- Section 10.3 and R171: the range of each parameter, against the tables in force. -/
def parameterInRange (t : Tables) (i v : Nat) : Bool :=
  match i with
  | 0 => decide (1 ≤ v ∧ v ≤ 4)
  | 1 => decide (1 ≤ v ∧ v ≤ 15)
  | 2 => decide (v ≤ 255)
  | 3 => decide (v ≤ 1023)
  | 4 => decide (v ≤ 100)
  | 5 => decide (v ≤ 4600)
  | 6 => decide (v ≤ 4600)
  | 7 => decide (v ≤ 9200)
  | 8 => decide (4 ≤ v ∧ v ≤ 32)
  | 9 => decide (1 ≤ v ∧ v ≤ 4)
  | 10 => decide (v = 50 ∨ v = 60)
  | 11 => decide (v ≤ 1000)
  | 12 => decide (1 ≤ v ∧ v ≤ 63)
  | 13 => decide (16 ≤ v ∧ v ≤ 1023)
  | 14 => decide (100 ≤ v ∧ v ≤ 250 ∧ t.coolLimit < v)
  | 15 => decide (v ≤ 249 ∧ v < t.hotLimit)
  | 16 => decide (v ≤ 3)
  | 17 => decide (v ≤ 1)
  | _ => false

/-- R169, R171: a T6 entry. -/
def readT6 (t : Tables) (i : Nat) (p : Payload) : Option Nat :=
  let v := if isPowerParameter i then word16 p 0 * 10 else word16 p 0
  if parameterInRange t i v then some v else none

/-- R57, R59: a program step. -/
def readStep (p : Payload) : Option ProgramStep :=
  if h : p[0].toNat < 16 ∧ p[3].toNat ≤ 2 then
    some ⟨⟨p[0].toNat, h.1⟩, word16 p 1, if p[3] = 0 then .next else if p[3] = 1 then .hold else .off⟩
  else none

/-- R169: the last index of each table. -/
def lastEntry : Fin 7 → Nat
  | 0 => 3
  | 1 => 63
  | 2 => 63
  | 3 => 2
  | 4 => 15
  | 5 => 31
  | 6 => 17
/-- R169: the first writable entry of each table. -/
def firstWritable (t : Fin 7) : Nat := if t = 4 then 1 else 0
/-- R169: the number of writable entries of each table. -/
def writableCount (t : Fin 7) : Nat := lastEntry t + 1 - firstWritable t
/-- R169: the entry that the cell after `taken` cells writes, with the wrap to the first writable entry. -/
def entryIndex (t : Fin 7) (start taken : Nat) : Nat :=
  firstWritable t + (start - firstWritable t + taken) % writableCount t
/-- Section 4.2: T0 to T3 are structural. -/
def structural (t : Fin 7) : Bool := decide (t.val ≤ 3)

/-- R169: the tables with the entry of a DATA cell written, or none where a field is out of range. -/
def writeEntry (w : Tables) (t : Fin 7) (i : Nat) (p : Payload) : Option Tables :=
  match t with
  | 0 => if h : i < 4 then (readT0 p).map fun e => { w with t0 := w.t0.set i e h } else none
  | 1 => if h : i < 64 then (readT1 p).map fun e => { w with t1 := w.t1.set i e h } else none
  | 2 => if h : i < 64 then (readT2 p).map fun e => { w with t2 := w.t2.set i e h } else none
  | 3 => if h : i < 3 then (readT3 p).map fun e => { w with t3 := w.t3.set i e h } else none
  | 4 => if h : i < 16 then (readT4 p).map fun e => { w with t4 := w.t4.set i e h } else none
  | 5 => if h : i < 32 then (readT5 p).map fun e => { w with t5 := w.t5.set i e h } else none
  | 6 => if h : i < 18 then (readT6 w i p).map fun e => { w with t6 := w.t6.set i e h } else none

end Sys2Proof.Machine
end

