-- ==== Sys2Proof/Machine/Flags.lean ====
section
/-! DEFINITION. The judgements the blocks read from the state as it stands: availability and eligibility of coils, neighbours,
derates and coil limits, held boards, configured boards, the heating states. -/

namespace Sys2Proof.Machine

/-- Section 1.3: a coil is AVAILABLE when no availability flag is set. -/
def CoilRecord.available (r : CoilRecord) : Bool := !r.hot && !r.disabled && !r.unobserved

/-- R2: the T3 entry of a coil's class; of a class above 2, which the rules give no entry, a free value (log 11). -/
def classEntry (s : State) (k : CoilId) : T3Entry :=
  if h : s.ts.work.t1[k].cls.val < 3 then s.ts.work.t3[s.ts.work.t1[k].cls.val] else Config.unclassed s.ts.work.t1[k].cls

/-- R17: the leg's out-of-service set is not empty. -/
def outOfService (s : State) (l : LegId) : Bool := s.legOut[l].board || s.legOut[l].leg

/-- R19, R75: a coil is eligible. -/
def eligible (s : State) (k : CoilId) : Bool :=
  s.coils[k].occupancy == .member && s.coils[k].available && decide ((classEntry s k).fire ≤ s.coils[k].coverage) &&
    s.pu.legs[coilLeg k].state == .ready && s.boards[coilBoard k].state == .online

/-- R25: the neighbours of a coil, ascending: the coils its T2 entry lists, its own index passed over. -/
def neighbours (s : State) (k : CoilId) : List CoilId :=
  allCoils.filter fun j => j != k && s.ts.work.t2[k].contains j

/-- R25: two members are adjacent when either one's entry lists the other. -/
def adjacent (s : State) (j k : CoilId) : Bool := s.ts.work.t2[j].contains k || s.ts.work.t2[k].contains j

/-- R26: a coil that is SENSED and unowned. -/
def waiting (s : State) (k : CoilId) : Bool := s.coils[k].occupancy == .sensed && s.coils[k].owner.isNone

/-- Section 2.1: PLACED or MOVING. -/
def Presence.standing : Presence → Bool
  | .placed | .moving => true
  | .free | .forming | .lifted => false

/-- Section 3.1: the heat states that ask for power. -/
def HeatState.heating : HeatState → Bool
  | .level | .program => true
  | .idle | .paused | .suspended | .stopped => false

/-- R84, R85: the derate of a board. -/
def derate (s : State) (b : BoardId) : Nat :=
  match s.ba.derating[b].manual with
  | some v => v
  | none => s.ts.work.t5[s.ba.derating[b].bucket]

/-- R75: floor(rated W × derate / 128). -/
def coilLimit (s : State) (k : CoilId) : Nat := (classEntry s k).rated * derate s (coilBoard k) / 128

/-- R119: the Board Port's open record shows the hold flag of the previous slot. -/
def boardHeld (s : State) (b : BoardId) : Bool :=
  match s.boards[b].slot with
  | some r => r.hold
  | none => false

/-- R115, R146: some board that T0 marks configured is ONLINE. -/
def someBoardOnline (s : State) : Bool := allBoards.any fun b => s.ts.work.t0[b].configured && s.boards[b].state == .online

/-- R83: the candidate bucket of a heatsink temperature. -/
def candidateBucket (temp : Int) : Nat := if 155 ≤ temp then 31 else if temp < 0 then 0 else (temp / 5).toNat

/-- R83: the bucket after a heatsink temperature. -/
def bucketAfter (current : Fin 32) (temp : Int) : Fin 32 :=
  if current.val < candidateBucket temp then Fin.ofNat 32 (candidateBucket temp)
  else if candidateBucket temp < current.val ∧ temp ≤ 5 * (candidateBucket temp : Int) + 2 then Fin.ofNat 32 (candidateBucket temp)
  else current

/-- R171: the orientation of T6, applied to a centroid as it is reported. -/
def orient (t : Tables) (x y : Nat) : Nat × Nat :=
  let x := if t.mirror then 1023 - x else x
  match t.rotation with
  | 1 => (1023 - y, x)
  | 2 => (1023 - x, 1023 - y)
  | 3 => (y, 1023 - x)
  | _ => (x, y)

/-- R109: the nominal half-period N in microseconds. -/
def halfPeriod (hz : Nat) : Nat := if hz = 60 then 8333 else 10000
/-- R109: between 0.88 N and 1.12 N, inclusive. -/
def inWindow (hz elapsed : Nat) : Bool := decide (88 * halfPeriod hz ≤ 100 * elapsed ∧ 100 * elapsed ≤ 112 * halfPeriod hz)
/-- R109: 1.25 N has passed. -/
def silent (hz elapsed : Nat) : Bool := decide (125 * halfPeriod hz ≤ 100 * elapsed)

end Sys2Proof.Machine
end

