-- ==== Sys2Proof/Machine/Ops.lean ====
section
/-! DEFINITION. The named operations every block uses: writing one record of a table, posting an event, queuing a notice, ending an
order, an off-now request, a change of leg state, a protective event, a recompute trigger, the clock. -/

namespace Sys2Proof.Machine

/-! ### Writing one item -/

namespace State

/-- Change one coil record. -/
def modCoil (s : State) (k : CoilId) (f : CoilRecord → CoilRecord) : State := { s with coils := s.coils.set k (f s.coils[k]) }
/-- Change one leg's out-of-service set. -/
def modLegOut (s : State) (l : LegId) (f : OutSet → OutSet) : State := { s with legOut := s.legOut.set l (f s.legOut[l]) }
/-- Change one pan record. -/
def modPan (s : State) (p : PanSlot) (f : PanRecord → PanRecord) : State := { s with pans := s.pans.set p (f s.pans[p]) }
/-- Change the presence part of one pan record. -/
def modPres (s : State) (p : PanSlot) (f : PresencePart → PresencePart) : State := s.modPan p fun r => { r with pres := f r.pres }
/-- Change the heat part of one pan record. -/
def modHeat (s : State) (p : PanSlot) (f : HeatPart → HeatPart) : State := s.modPan p fun r => { r with heat := f r.heat }
/-- Change one leg record of the Protection Unit. -/
def modLeg (s : State) (l : LegId) (f : LegRecord → LegRecord) : State :=
  { s with pu := { s.pu with legs := s.pu.legs.set l (f s.pu.legs[l]) } }
/-- Change one Board Port. -/
def modBoard (s : State) (b : BoardId) (f : BoardPort → BoardPort) : State := { s with boards := s.boards.set b (f s.boards[b]) }
/-- Change every pan record. -/
def modPans (s : State) (f : PanSlot → PanRecord → PanRecord) : State :=
  { s with pans := Vector.ofFn fun p => f p s.pans[p] }
/-- Change the posts that wait. -/
def modPosts (s : State) (f : Posts → Posts) : State := { s with posts := f s.posts }
/-- Change the Supply Monitor's items. -/
def modSup (s : State) (f : Supply → Supply) : State := { s with sup := f s.sup }
/-- Change the Table Store's items. -/
def modTs (s : State) (f : TableStore → TableStore) : State := { s with ts := f s.ts }
/-- Change the Pan Tracker's lists. -/
def modPt (s : State) (f : PanLists → PanLists) : State := { s with pt := f s.pt }
/-- Change the Heat Sequencer's lists. -/
def modHs (s : State) (f : HeatLists → HeatLists) : State := { s with hs := f s.hs }
/-- Change the Slot Scheduler's items. -/
def modSs (s : State) (f : Scheduler → Scheduler) : State := { s with ss := f s.ss }
/-- Change the Frame Engine's items. -/
def modFe (s : State) (f : FrameEngine → FrameEngine) : State := { s with fe := f s.fe }
/-- Change the Protection Unit's items. -/
def modPu (s : State) (f : Protection → Protection) : State := { s with pu := f s.pu }
/-- Change the Controller Port's items. -/
def modCp (s : State) (f : ControllerPort → ControllerPort) : State := { s with cp := f s.cp }
/-- The clock at a timed command: it does not run backwards (log 1). -/
def arrive (s : State) (t : Time) : State := { s with now := max s.now t }

end State

/-! ### Codes of causes (section 11.7) -/

/-- Section 11.7: notice kinds. -/
def NoticeKind.code : NoticeKind → Nat
  | .panPlaced => 1
  | .panReturned => 2
  | .panMoved => 3
  | .panLifted => 4
  | .panRetired => 5
  | .panSplit => 6
  | .tableFull => 7
  | .levelChanged => 8
  | .stepDone => 9
  | .programDone => 10
  | .heatRefused => 11
  | .legTripped => 12
  | .legLocked => 13
  | .coilHot => 14
  | .coilCool => 15
  | .boardOnline => 16
  | .boardOffline => 17
  | .mainsLost => 18
  | .mainsBack => 19
  | .hobHalted => 20

/-- Section 11.7: fault kinds. -/
def FaultKind.code : FaultKind → Nat
  | .boardTrip => 1
  | .overshoot => 2
  | .noReport => 3
  | .coilHot => 4
  | .boardLost => 5
  | .mainsLost => 6
  | .silence => 7
  | .mains => 8
  | .supply => 9
  | .noBoards => 10
  | .legLock => 11

/-- R130: the fault kind of a trip cause. -/
def TripCause.kind : TripCause → FaultKind
  | .boardTrip => .boardTrip
  | .overshoot => .overshoot
  | .noReport => .noReport

/-- R135: the fault kind of a halt cause. -/
def HaltCause.kind : HaltCause → FaultKind
  | .silence => .silence
  | .mains => .mains
  | .supply => .supply
  | .noBoards => .noBoards

/-- Section 11.7: mains loss causes. -/
def LossCause.code : LossCause → Nat
  | .outOfWindow => 0
  | .noCrossing => 1

/-- Section 11.7: board causes. -/
def BoardCause.code : BoardCause → Nat
  | .noIdent => 0
  | .identFail => 1
  | .typeMismatch => 2
  | .missedSlots => 3
  | .hold => 4
  | .restarted => 5

/-- Why a LIFTED record is retired (R46). -/
inductive Reason where
  | grace | evicted
  deriving DecidableEq, Repr

/-- Section 11.7: retirement reasons. -/
def Reason.code : Reason → Nat
  | .grace => 0
  | .evicted => 1

/-- Why a heat request is refused (section 11.7). -/
inductive HeatReason where
  | staleHandle | badLevel | notPlaced | panLifted | hobNotRunning | unsuitable | notPaused | notPausable | queueFull
  deriving DecidableEq, Repr

/-- Section 11.7: heat refusal reasons. -/
def HeatReason.code : HeatReason → Nat
  | .staleHandle => 1
  | .badLevel => 2
  | .notPlaced => 3
  | .panLifted => 4
  | .hobNotRunning => 5
  | .unsuitable => 6
  | .notPaused => 7
  | .notPausable => 8
  | .queueFull => 9

/-! ### Notices -/

/-- R164: a kind is booked. -/
def booked (s : State) (kind : NoticeKind) : Bool := s.cp.mask.getLsbD (kind.code - 1)

/-- R164: a block queues a notice. -/
def queueNotice (s : State) (kind : NoticeKind) (subject : Byte) (first second : Nat) : State :=
  if booked s kind then
    if s.cp.notices.length < 32 then
      s.modCp fun cp =>
        { cp with
          notices := cp.notices ++
            [⟨kind, subject, BitVec.ofNat 16 first, BitVec.ofNat 16 second, s.fe.frameCount, cp.gap⟩]
          gap := false }
    else s.modCp fun cp => { cp with gap := true }
  else s

/-- R50, R171: a notice about a pan that gives its centroid as reported. -/
def noticeCentroid (s : State) (kind : NoticeKind) (p : PanSlot) : State :=
  queueNotice s kind (s.handleOf p) (orient s.ts.work s.pans[p].pres.x s.pans[p].pres.y).1
    (orient s.ts.work s.pans[p].pres.x s.pans[p].pres.y).2

/-- R53, R71: HEAT REFUSED. -/
def refuseHeat (s : State) (handle : Byte) (reason : HeatReason) (level : Nat) : State :=
  queueNotice s .heatRefused (handle &&& 0x7F#8) reason.code level

/-! ### Posts (log 2) -/

/-- R73: an event on which the Budget Allocator recomputes. -/
def postTrigger (s : State) (e : Trigger) : State := s.modPosts fun q => { q with triggers := q.triggers ++ [e] }
/-- R92: a rebuild request of the Budget Allocator or the Pan Tracker. -/
def postRebuild (s : State) : State := s.modPosts fun q => { q with rebuilds := q.rebuilds + 1 }
/-- R11: a member release of that coil waits. -/
def CoilEvent.releases (k : CoilId) : CoilEvent → Bool
  | .memberRelease c .. => c == k
  | .becameSensed .. | .released .. | .materialChanged .. => false
/-- R11: the release of that coil was measured again; a FIRING measurement makes its release notice due (log 15). -/
def CoilEvent.again (k : CoilId) (firing : Bool) : CoilEvent → CoilEvent
  | .memberRelease c p m f frames seconds => .memberRelease c p m (f || (firing && c == k)) frames seconds
  | .becameSensed c m => .becameSensed c m
  | .released c m => .released c m
  | .materialChanged c p m => .materialChanged c p m
/-- R11: the Pan Tracker has taken a frame-end. -/
def CoilEvent.afterFrameEnd : CoilEvent → CoilEvent
  | .memberRelease c p m f frames seconds => .memberRelease c p m f (frames - 1) seconds
  | .becameSensed c m => .becameSensed c m
  | .released c m => .released c m
  | .materialChanged c p m => .materialChanged c p m
/-- R11: the Pan Tracker has taken a one-second event. -/
def CoilEvent.afterSecond : CoilEvent → CoilEvent
  | .memberRelease c p m f frames seconds => .memberRelease c p m f frames (seconds - 1)
  | .becameSensed c m => .becameSensed c m
  | .released c m => .released c m
  | .materialChanged c p m => .materialChanged c p m
/-- R11, R20: a member release joins the coil-change events behind what the Pan Tracker has yet to take; one that waits already for the
coil stands for it too (log 15). -/
def postMemberRelease (s : State) (k : CoilId) (p : Option PanSlot) (m : Material) (firing : Bool) : State :=
  s.modPosts fun q =>
    { q with
      coilEvents :=
        if q.coilEvents.any (·.releases k) then q.coilEvents.map (·.again k firing)
        else q.coilEvents ++ [.memberRelease k p m firing q.ptFrameEnds.length q.ptSeconds] }
/-- R11: the Pan Tracker takes the first frame-end. -/
def popFrameEnd (s : State) : State :=
  s.modPosts fun q => { q with ptFrameEnds := q.ptFrameEnds.tail, coilEvents := q.coilEvents.map (·.afterFrameEnd) }
/-- R11: the Pan Tracker takes a one-second event. -/
def popSecond (s : State) : State :=
  s.modPosts fun q => { q with ptSeconds := q.ptSeconds - 1, coilEvents := q.coilEvents.map (·.afterSecond) }
/-- The head of the coil-change events has been taken. -/
def popCoil (s : State) : State := s.modPosts fun q => { q with coilEvents := q.coilEvents.tail }
/-- R20: a coil-change event. -/
def postCoilEvent (s : State) (e : CoilEvent) : State := s.modPosts fun q => { q with coilEvents := q.coilEvents ++ [e] }
/-- Section 3.6: a post of the Pan Tracker to the Heat Sequencer. -/
def postPan (s : State) (e : PanPost) : State := s.modPosts fun q => { q with pans := q.pans ++ [e] }
/-- R124: a post of the Frame Engine to the Heat Sequencer. -/
def postHob (s : State) (e : HobPost) : State := s.modPosts fun q => { q with hob := q.hob ++ [e] }
/-- R103, R104: a post of the Frame Engine to the Slot Scheduler. -/
def postScheduler (s : State) (e : SchedulerPost) : State := s.modPosts fun q => { q with scheduler := q.scheduler ++ [e] }
/-- R117: a claim on the hob state. -/
def postHobClaim (s : State) (e : HobClaim) : State := s.modPosts fun q => { q with hobClaims := q.hobClaims ++ [e] }
/-- R11, R10: a release notice. -/
def postRelease (s : State) (k : CoilId) : State := s.modPosts fun q => { q with releases := q.releases ++ [k] }
/-- R121: an off-now request of the Protection Unit. -/
def postOffNow (s : State) (l : LegId) : State := s.modPosts fun q => { q with offNows := q.offNows ++ [l] }
/-- R135: a halt cause. -/
def postHaltCause (s : State) (e : HaltCause) : State := s.modPosts fun q => { q with haltCauses := q.haltCauses ++ [e] }
/-- R117: the hob has entered HALTED. -/
def postHalted (s : State) (e : HaltCause) : State := s.modPosts fun q => { q with halted := q.halted ++ [e] }
/-- R110: a mains loss. -/
def postLoss (s : State) (e : LossCause) : State := s.modPosts fun q => { q with losses := q.losses ++ [e] }
/-- R16, R17: a claim of the Protection Unit on the Coil Monitor. -/
def postCoilClaim (s : State) (e : CoilClaim) : State := s.modPosts fun q => { q with cmClaims := q.cmClaims ++ [e] }
/-- R17, R141, R146: a post of a Board Port to the Coil Monitor. -/
def postCmBoard (s : State) (b : BoardId) (e : BoardPost) : State := s.modPosts fun q => { q with cmBoards := q.cmBoards ++ [(b, e)] }
/-- R133, R141: a post of a Board Port to the Protection Unit. -/
def postPuBoard (s : State) (b : BoardId) (e : BoardPost) : State := s.modPosts fun q => { q with puBoards := q.puBoards ++ [(b, e)] }

/-- R30, R35, R36, R42, R48: a membership change and a rebuild request. -/
def postMembership (s : State) (p : PanSlot) : State := postRebuild (postTrigger s (.membership p))

/-- R84: the derate of some board is not what it was. -/
def derateChanged (before after : State) : Bool := allBoards.any fun b => derate before b != derate after b

/-! ### Orders (R156, R157) -/

/-- R157: the order in progress is decided: its status waits to be sent. -/
def endOrder (s : State) (condition : Condition) (sense : SenseRecord) : State :=
  match s.cp.order with
  | none => s
  | some o =>
    s.modCp fun cp =>
      { cp with
        state := .status
        aborting := false
        credit := 0
        pendingCredit := 0
        dataIn := []
        sense := if condition = .check then sense else cp.sense
        statuses := cp.statuses ++ [⟨o.tag, condition, sense.key, true⟩] }

/-- R157: the order ends GOOD. -/
def endGood (s : State) : State := endOrder s .good ⟨.noSense, 0, 0⟩
/-- R157: the order ends CHECK with its sense key, field index and detail. -/
def endCheck (s : State) (key : SenseKey) (field detail : Nat) : State := endOrder s .check ⟨key, field, detail⟩

/-- R157: a BUSY or NOT READY status; without a free place it is not queued. -/
def answerStatus (s : State) (tag : Byte) (condition : Condition) : State :=
  if (s.cp.statuses.filter fun c => !c.own).length < 3 then
    s.modCp fun cp => { cp with statuses := cp.statuses ++ [⟨tag, condition, .noSense, false⟩] }
  else s

/-- R159: the order's reply, read as the order is taken. -/
def reply (s : State) (cells : List Payload) : State := s.modCp fun cp => { cp with state := .dataIn, dataIn := cells }

/-- A reply some of whose bytes are free values (log 9). -/
def openReply (s : State) (cells : List Payload) : State := reply { s with draws := s.draws + 1 } cells

/-- R158: entry to DATA-OUT, with the first grant. -/
def enterDataOut (s : State) (expected : Nat) (job : OrderJob) : State :=
  s.modCp fun cp =>
    { cp with
      state := .dataOut
      order := cp.order.map fun o => { o with expected := expected, taken := 0, job := job }
      credit := cp.credit + min cp.window expected
      pendingCredit := cp.pendingCredit + min cp.window expected }

/-- R156: the order goes to COMPLETING. -/
def enterCompleting (s : State) : State := s.modCp fun cp => { cp with state := .completing, aborting := false }

/-- R155, R162: a valid cell restarts the silence timer if it runs. -/
def hearCell (s : State) (t : Time) : State :=
  (s.arrive t).modCp fun cp => { cp with silence := cp.silence.map fun _ => max s.now t }

/-- R156: the order is taken; every order but FETCH SENSE clears the sense record first. -/
def openOrder (s : State) (tag : Byte) (code : Nat) : State :=
  s.modCp fun cp =>
    { cp with order := some ⟨code, tag, 0, 0, .plain⟩, sense := if code = 5 then cp.sense else ⟨.noSense, 0, 0⟩ }

/-- R156: an ORDER cell other than RESET HUB is taken, and judged by its rule, or answered. -/
def takeOrder (s : State) (t : Time) (tag : Byte) (code : Nat) (judge : State → State) : State :=
  if (hearCell s t).sup.hub ≠ .ready ∧ code ≠ 1 then answerStatus (hearCell s t) tag .notReady
  else if (hearCell s t).cp.order.isSome then answerStatus (hearCell s t) tag .busy
  else judge (openOrder (hearCell s t) tag code)

/-! ### Off-now (R121, R147) -/

/-- R121, R147: an off-now naming local legs, merged with one that waits; a board that is not ONLINE and a silent link get none. -/
def sendOffNow (s : State) (b : BoardId) (legs : Vector Bool 4) : State :=
  if s.boards[b].state = .online ∧ s.sup.hub = .ready then
    s.modBoard b fun port =>
      { port with txOffNow := some (Vector.ofFn fun i => legs[i] || (port.txOffNow.getD (Vector.replicate 4 false))[i]) }
  else s

/-- R121: an off-now naming one global leg. -/
def offNowLeg (s : State) (l : LegId) : State := sendOffNow s (legBoard l) (Vector.ofFn fun i => decide (i = legLocal l))

/-- R110, R116, R117: an off-now naming all four legs to every ONLINE board. -/
def offNowAll (s : State) : State := allBoards.foldl (fun s b => sendOffNow s b (Vector.replicate 4 true)) s

/-! ### Legs and faults (R126, R137, R138) -/

/-- R126: a change of leg state, with its posts. -/
def changeLeg (s : State) (l : LegId) (f : LegRecord → LegRecord) : State :=
  let before := s.pu.legs[l].state
  let after := (f s.pu.legs[l]).state
  if before = .ready ∧ after ≠ .ready then
    postTrigger (postCoilClaim (s.modLeg l fun r => { f r with overshoot := false }) (.legOut l)) (.legState l)
  else if before ≠ .ready ∧ after = .ready then
    postTrigger (postCoilClaim (s.modLeg l f) (.legIn l)) (.legState l)
  else s.modLeg l f

/-- R138: a kind joins the trap set. -/
def trap (s : State) (kind : FaultKind) : State :=
  s.modPu fun pu => { pu with traps := pu.traps ||| (1#11 <<< (kind.code - 1)) }

/-- R137: an event is captured when the first-fault record is empty. -/
def capture (s : State) (kind : FaultKind) (board : Option BoardId) (leg : Option LegId) (coil : Option CoilId) (value : Nat) : State :=
  match s.pu.firstFault with
  | some _ => s
  | none =>
    s.modPu fun pu =>
      { pu with
        firstFault := some
          { kind := kind
            board := board
            leg := leg
            coil := coil
            handle := do
              let k ← coil
              let p ← s.coils[k].owner
              if s.coils[k].occupancy = .member then some (p, s.pans[p].pres.gen) else none
            frame := s.fe.frameCount
            slot := s.fe.slotIndex
            value := value } }

/-- R137, R138: a protective event; while the hob is HALTED it leaves no record. -/
def protective (s : State) (kind : FaultKind) (board : Option BoardId) (leg : Option LegId) (coil : Option CoilId) (value : Nat) :
    State :=
  if s.fe.hob = .halted then s else capture (trap s kind) kind board leg coil value

end Sys2Proof.Machine
end

