-- ==== Sys2Proof/Machine/BudgetAllocator.lean ====
section
/-! DEFINITION. The Budget Allocator (spec/04_power_allocation.md): capacity and demand, the grant, the effective level, LEVEL CHANGED,
the rebuild request, and the derating buckets. -/

namespace Sys2Proof.Machine

/-- R75: the eligible members of a pan, each with its coil limit. -/
def eligibleMembers (s : State) (p : PanSlot) : List (CoilId × Nat) :=
  (s.pans[p].pres.members.filter (eligible s)).map fun k => (k, coilLimit s k)

/-- R76: the capacity on one phase. -/
def phaseCapacity (s : State) (ph : Phase) (es : List (CoilId × Nat)) : Nat :=
  ((es.filter fun e => s.ts.work.phaseOf (coilBoard e.1) == ph).map (·.2)).sum

/-- What the grant reads of a pan (R76). -/
structure Claim where
  k1 : Nat
  k2 : Nat
  d : Nat
  deriving DecidableEq, Repr

/-- R76: K = K1 + K2. -/
def Claim.k (c : Claim) : Nat := c.k1 + c.k2

/-- R76: capacity and demand of a heating pan. -/
def claimOf (s : State) (p : PanSlot) : Claim :=
  let k1 := phaseCapacity s .l1 (eligibleMembers s p)
  let k2 := phaseCapacity s .l2 (eligibleMembers s p)
  ⟨k1, k2, min s.ts.work.t4[s.pans[p].heat.level].target (k1 + k2)⟩

/-- The three remainders of the grant (R77). -/
structure Remainders where
  m1 : Nat
  m2 : Nat
  mh : Nat
  deriving DecidableEq, Repr

/-- R77, step 1: floor(Mj × K / Kj) bounds the grant where Kj is above 0. -/
def phaseTerm (m k kj bound : Nat) : Nat := if kj = 0 then bound else min bound (m * k / kj)

/-- R77, step 1: the grant of one pan. -/
def grantOf (r : Remainders) (c : Claim) : Nat := phaseTerm r.m2 c.k c.k2 (phaseTerm r.m1 c.k c.k1 (min c.d r.mh))

/-- R77, steps 2 and 3: the remainders after a grant. -/
def Remainders.after (r : Remainders) (c : Claim) (g : Nat) : Remainders :=
  ⟨r.m1 - g * c.k1 / c.k, r.m2 - g * c.k2 / c.k, r.mh - g⟩

/-- R77: the grants down a list, head first. -/
def grants (claim : PanSlot → Claim) : Remainders → List PanSlot → List (PanSlot × Nat)
  | _, [] => []
  | r, p :: rest => (p, grantOf r (claim p)) :: grants claim (r.after (claim p) (grantOf r (claim p))) rest

/-- R77: the remainders start at the limits of working T6. -/
def limitsOf (t : Tables) : Remainders := ⟨t.phaseLimit .l1, t.phaseLimit .l2, t.hobLimit⟩

/-- R77: the grants of a recompute. -/
def allGrants (s : State) : List (PanSlot × Nat) := grants (claimOf s) (limitsOf s.ts.work) s.hs.requests

/-- R77: the allocation of a pan; a pan that is not granted has 0. -/
def grantTo (gs : List (PanSlot × Nat)) (p : PanSlot) : Nat :=
  match gs.find? fun e => e.1 == p with
  | some e => e.2
  | none => 0

/-- R79: the largest level up to `l` whose target is at most the grant. -/
def effectiveLevel (t : Tables) (g : Nat) (l : Level) : Level :=
  ((List.finRange 16).filter fun i => decide (i ≤ l ∧ t.t4[i].target ≤ g)).getLast?.getD 0

/-- R72, R76, R79: the allocation part of a pan after a recompute, its notice basis the new pair (R80). -/
def allocOf (s : State) (gs : List (PanSlot × Nat)) (p : PanSlot) : AllocPart :=
  if s.pans[p].heat.state.heating then
    { k := (claimOf s p).k
      k1 := (claimOf s p).k1
      k2 := (claimOf s p).k2
      d := (claimOf s p).d
      g := grantTo gs p
      effective := effectiveLevel s.ts.work (grantTo gs p) s.pans[p].heat.level
      basis := some (s.pans[p].heat.level, effectiveLevel s.ts.work (grantTo gs p) s.pans[p].heat.level) }
  else .zero

/-- R80: the pair differs from the basis, and one of the two shows a shortfall. -/
def levelChanged (basis pair : Level × Level) : Bool :=
  basis != pair && (decide (basis.2 < basis.1) || decide (pair.2 < pair.1))

/-- R80: LEVEL CHANGED for a pan whose pair is judged against its former basis. -/
def noticeLevel (before : State) (s : State) (p : PanSlot) : State :=
  match s.pans[p].alloc.basis with
  | none => s
  | some pair =>
    if levelChanged (before.pans[p].alloc.basis.getD (pair.1, pair.1)) pair then
      queueNotice s .levelChanged (s.handleOf p) pair.1 pair.2
    else s

/-- R75, R81, R82: the figures kept for the snapshot. -/
def figuresOf (s : State) : Figures :=
  { order := s.hs.requests
    eligible := Vector.ofFn fun p => if s.hs.requests.contains p then eligibleMembers s p else []
    limit1 := s.ts.work.phaseLimit .l1
    limit2 := s.ts.work.phaseLimit .l2
    limitHob := s.ts.work.hobLimit }

/-- R81: the recompute changed something the snapshot takes. -/
def figuresChanged (before after : State) : Bool :=
  before.ba.figures != after.ba.figures || allPans.any fun p => before.pans[p].alloc.g != after.pans[p].alloc.g

/-- R73: a recompute, taken whole: figures, then the notices of R80, then the rebuild request of R81. -/
def recompute (s : State) : State :=
  let t := s.modPans fun p r => { r with alloc := allocOf s (allGrants s) p }
  let t := { t with ba := { t.ba with figures := figuresOf s } }
  let u := s.hs.requests.foldl (noticeLevel s) t
  if figuresChanged s t then postRebuild u else u

/-- R84, R85: the Budget Allocator recomputes on a derating change at once, in the event that makes it (log 46). -/
def takeDerating (before after : State) : State := if derateChanged before after then recompute after else after

/-- R83: a heatsink temperature moves the board's bucket; a new derate is a derating change (R84). -/
def takeHeatsink (s : State) (b : BoardId) (temp : Int) : State :=
  takeDerating s
    { s with ba := { s.ba with derating := s.ba.derating.set b { s.ba.derating[b] with bucket := bucketAfter s.ba.derating[b].bucket temp } } }

/-- R85: SET DERATE is judged. -/
def judgeDerate (s : State) (board value : Byte) : State :=
  if h : board.toNat < 4 then
    if 128 < value.toNat ∧ value ≠ 0xFF#8 then endCheck s .badField 2 0
    else
      endGood (takeDerating s
        { s with ba := { s.ba with derating := s.ba.derating.set board.toNat
                                     { s.ba.derating[board.toNat] with manual := if value = 0xFF#8 then none else some value.toNat } } })
  else endCheck s .badField 1 0

end Sys2Proof.Machine
end

