-- ==== Sys2Proof/Machine/CoilMonitor.lean ====
section
/-! DEFINITION. The Coil Monitor (spec/01_coil_sensing.md): what a report measures, coverage, occupancy, the availability flags, and
the claims on the coil table. -/

namespace Sys2Proof.Machine

/-- R6: the range mode after a PROBE measurement. -/
def rangeAfter (mode : RangeMode) (fine : Nat) : RangeMode :=
  match mode with
  | .fine => if fine < 3584 then .fine else .coarse
  | .coarse => if fine < 3072 then .fine else .coarse

/-- R6, R7: the range mode after a measurement. -/
def measuredRange (mode : LegMode) (range : RangeMode) (fine : Nat) : RangeMode :=
  if mode = .firing then range else rangeAfter range fine

/-- R6, R7: the reading V. -/
def measuredV (mode : LegMode) (range : RangeMode) (fine coarse : Nat) : Nat :=
  if mode = .firing then coarse * 8
  else match rangeAfter range fine with
    | .fine => fine
    | .coarse => coarse * 8

/-- R8: coverage from V and the references of the class. -/
def coverageOf (empty full v : Nat) : Nat :=
  if v ≤ empty then 0 else if full ≤ v then 200 else 200 * (v - empty) / (full - empty)

/-- R4: the coil a report measures, or none where the report is not used. -/
def usedCoil (s : State) (r : Report) : Option CoilId :=
  match r.selectedCoil with
  | none => none
  | some k =>
    if r.mode ≠ .idle ∧ s.coils[k].occupancy ≠ .absent ∧ s.ts.work.t1[k].cls.val ≤ 2 ∧ s.coils[k].disabled = false ∧
        outOfService s (coilLeg k) = false then some k
    else none

/-- R9 to R11: what a measurement makes of a coil. -/
inductive Verdict where
  | stays
  | run (n : Nat)
  | sensed
  | released
  | memberReleased
  deriving DecidableEq, Repr

/-- R9 to R11: the classification of a coil by its new coverage. -/
def classify (s : State) (k : CoilId) (coverage : Nat) : Verdict :=
  match s.coils[k].occupancy with
  | .absent => .stays
  | .vacant =>
    if (classEntry s k).detect ≤ coverage then
      if s.ts.work.confirmCount ≤ s.coils[k].confirm + 1 then .sensed else .run (s.coils[k].confirm + 1)
    else .run 0
  | .sensed => if coverage < (classEntry s k).release then .released else .stays
  | .member => if coverage < (classEntry s k).release then .memberReleased else .stays

/-- R5, steps 1 to 5: the coil record after a measurement. A member release changes the occupancy in its own step (R11). -/
def measured (r : Report) (coverage : Nat) (range : RangeMode) (fire : Nat) (v : Verdict) (old : CoilRecord) : CoilRecord :=
  { old with
    coverage := coverage
    range := range
    material := r.material
    temp := r.temp
    unobserved := false
    fireMet := decide (fire ≤ coverage)
    occupancy := match v with
      | .sensed => .sensed
      | .released => .vacant
      | .stays | .run _ | .memberReleased => old.occupancy
    confirm := match v with
      | .run n => n
      | .sensed | .released => 0
      | .stays | .memberReleased => old.confirm }

/-- R19: a member's crossing of FIRE, or its becoming AVAILABLE, is an eligibility change. -/
def measuredEligibility (old new : CoilRecord) : Bool :=
  new.occupancy == .member && (old.fireMet != new.fireMet || old.available != new.available)

/-- R5, step 6: the events due. -/
def postMeasured (s : State) (k : CoilId) (r : Report) (v : Verdict) (old : CoilRecord) : State :=
  match v with
  | .sensed => postCoilEvent s (.becameSensed k r.material)
  | .released =>
    if r.mode = .firing then postRelease (postCoilEvent s (.released k r.material)) k
    else postCoilEvent s (.released k r.material)
  | .memberReleased => postMemberRelease s k old.owner r.material (r.mode == .firing)
  | .stays | .run _ =>
    let s := if old.occupancy = .member ∧ old.material ≠ r.material then
      postCoilEvent s (.materialChanged k old.owner r.material) else s
    if measuredEligibility old s.coils[k] then postTrigger s (.eligibility k old.owner) else s

/-- R5: a measurement of a coil, taken whole. -/
def takeMeasurement (s : State) (k : CoilId) (r : Report) : State :=
  let old := s.coils[k]
  let e := classEntry s k
  let coverage := coverageOf e.empty e.full (measuredV r.mode old.range r.fine r.coarse)
  let v := classify s k coverage
  postMeasured (s.modCoil k (measured r coverage (measuredRange r.mode old.range r.fine) e.fire v)) k r v old

/-- R5, R20: the Coil Monitor takes a report; a member release that waits does not delay it. -/
def takeReport (s : State) (r : Report) : State :=
  match usedCoil s r with
  | none => s
  | some k => takeMeasurement s k r

/-! ### Availability flags (R16 to R19) -/

/-- R19: a change of a coil's flags, with the eligibility change of a member. -/
def changeFlags (s : State) (k : CoilId) (f : CoilRecord → CoilRecord) : State :=
  if s.coils[k].occupancy = .member ∧ s.coils[k].available ≠ (f s.coils[k]).available then
    postTrigger (s.modCoil k f) (.eligibility k s.coils[k].owner)
  else s.modCoil k f

/-- R16: a hot or a cool claim; one naming an ABSENT coil is ignored. -/
def claimHot (s : State) (k : CoilId) (hot : Bool) : State :=
  if s.coils[k].occupancy = .absent then s else changeFlags s k fun r => { r with hot := hot }

/-- R17: a coil of a leg that goes out of service. -/
def loseSight (s : State) (k : CoilId) : State :=
  if s.coils[k].occupancy = .absent then s else changeFlags s k fun r => { r with unobserved := true, confirm := 0 }

/-- R17: BOARD or LEG is added to a leg's out-of-service set. -/
def legOutBy (s : State) (l : LegId) (f : OutSet → OutSet) : State :=
  if outOfService s l = false ∧ outOfService (s.modLegOut l f) l then (legCoils l).foldl loseSight (s.modLegOut l f)
  else s.modLegOut l f

/-- R17: a board out. -/
def coilsBoardOut (s : State) (b : BoardId) : State :=
  (boardLegs b).foldl (fun s l => legOutBy s l fun o => { o with board := true }) s
/-- R17: a board in. -/
def coilsBoardIn (s : State) (b : BoardId) : State :=
  (boardLegs b).foldl (fun s l => s.modLegOut l fun o => { o with board := false }) s
/-- R17: a leg out. -/
def coilsLegOut (s : State) (l : LegId) : State := legOutBy s l fun o => { o with leg := true }
/-- R17: a leg in. -/
def coilsLegIn (s : State) (l : LegId) : State := s.modLegOut l fun o => { o with leg := false }

/-! ### The Pan Tracker's claims (R12) -/

/-- R12: a join claim makes a SENSED coil, or a member of another pan, MEMBER of the pan; it is refused for a VACANT or ABSENT coil. -/
def joinClaim (s : State) (k : CoilId) (p : PanSlot) : State :=
  if s.coils[k].occupancy = .sensed ∨ s.coils[k].occupancy = .member then
    s.modCoil k fun r => { r with occupancy := .member, owner := some p }
  else s

/-- R12: an unown claim makes a member SENSED and unowned. -/
def unownClaim (s : State) (k : CoilId) : State :=
  if s.coils[k].occupancy = .member then s.modCoil k fun r => { r with occupancy := .sensed, owner := none } else s

/-- R11: the Coil Monitor's part of a member release. -/
def vacate (s : State) (k : CoilId) : State := s.modCoil k fun r => { r with occupancy := .vacant, confirm := 0, owner := none }

/-- R1: the coil becomes ABSENT with reset values, and leaves the hot set (R134). -/
def removeCoil (s : State) (k : CoilId) : State :=
  (s.modCoil k fun _ => .reset).modPu fun pu => { pu with hot := pu.hot.set k false }

end Sys2Proof.Machine
end

