-- ==== Sys2Proof/Machine/ProtectionUnit.lean ====
section
/-! DEFINITION. The Protection Unit (spec/07_protection_and_faults.md): trips, cooldowns and retry windows, board loss, coil
temperature, halt causes, the first-fault record and the trap set. -/

namespace Sys2Proof.Machine

/-! ### Trips (R130) -/

/-- R130, step 1: the retry window is closed or has run its length. -/
def windowOver (s : State) (l : LegId) : Bool :=
  match s.pu.legs[l].windowStart with
  | none => true
  | some w => decide (s.ts.work.retryWindow ≤ (s.fe.frameCount - w).toNat)

/-- R130, step 1: the trip count after this trip. -/
def tripCount (s : State) (l : LegId) : Nat := if windowOver s l then 1 else s.pu.legs[l].trips + 1

/-- R130, steps 1 to 3: the leg record after a trip. -/
def tripped (s : State) (l : LegId) (r : LegRecord) : LegRecord :=
  { r with
    trips := tripCount s l
    windowStart := if windowOver s l then some s.fe.frameCount else r.windowStart
    state := if tripCount s l < 3 then .tripped else .locked
    cooldown := if tripCount s l < 3 then some s.ts.work.cooldown else none }

/-- R130: a trip; on a leg that is not READY it is none (R127). -/
def trip (s : State) (l : LegId) (cause : TripCause) (coil : Option CoilId) (value : Nat) : State :=
  if s.pu.legs[l].state ≠ .ready then s
  else
    let n := tripCount s l
    let leg := BitVec.ofNat 8 l.val
    let t := postOffNow (changeLeg s l (tripped s l)) l
    let t := queueNotice t .legTripped leg cause.kind.code n
    let t := if n < 3 then t else queueNotice t .legLocked leg n 0
    let t := protective t cause.kind (some (legBoard l)) (some l) coil value
    if n < 3 ∨ s.fe.hob = .halted then t else trap t .legLock

/-! ### Reports (R127, R128, R134) -/

/-- R127: the coil a report names. -/
def namedCoil (s : State) (r : Report) : Option CoilId :=
  match r.selectedCoil with
  | none => none
  | some k => if r.mode ≠ .idle ∧ s.coils[k].occupancy ≠ .absent then some k else none

/-- R127, R150: the setpoint handed with a report, 0 where the leg was given no firing. -/
def LegDrive.setpoint : LegDrive → Nat
  | .fire _ sp _ => sp
  | .none | .probe _ => 0

/-- R137: the coil of the firing the drive cell gave a leg. -/
def LegDrive.firedCoil (l : LegId) : LegDrive → Option CoilId
  | .fire sel _ _ => some (legCoil l sel)
  | .none | .probe _ => Option.none

/-- R137: the coil a trip by report is captured with (log 28). -/
def faultCoil (s : State) (r : Report) (d : LegDrive) : Option CoilId := (namedCoil s r).or (d.firedCoil r.globalLeg)

/-- R128: the overshoot test of a FIRING report on a READY leg. -/
def testOvershoot (s : State) (r : Report) (d : LegDrive) : State :=
  if s.pu.legs[r.globalLeg].state ≠ .ready then s
  else if r.delivered ≤ d.setpoint + s.ts.work.overshootMargin then s.modLeg r.globalLeg fun g => { g with overshoot := false }
  else if s.pu.legs[r.globalLeg].overshoot then trip s r.globalLeg .overshoot (faultCoil s r d) r.delivered
  else s.modLeg r.globalLeg fun g => { g with overshoot := true }

/-- R134: a coil becomes hot; COIL HOT carries the reported temperature, also of a report that R4 does not use (R15, log 50). -/
def coilHot (s : State) (k : CoilId) (r : Report) : State :=
  let t := s.modPu fun pu => { pu with hot := pu.hot.set k true }
  let t := queueNotice (postCoilClaim t (.hot k)) .coilHot (BitVec.ofNat 8 k.val) r.temp s.ts.work.hotLimit
  let t := if r.mode = .firing then postOffNow t (coilLeg k) else t
  protective t .coilHot (some (coilBoard k)) (some (coilLeg k)) (some k) r.temp

/-- R134: a coil has cooled; COIL COOL carries the reported temperature, also of a report that R4 does not use (R15, log 50). -/
def coilCool (s : State) (k : CoilId) (r : Report) : State :=
  let t := s.modPu fun pu => { pu with hot := pu.hot.set k false }
  queueNotice (postCoilClaim t (.cool k)) .coilCool (BitVec.ofNat 8 k.val) r.temp s.ts.work.coolLimit

/-- R134: the temperature of a report that names a coil. -/
def judgeTemperature (s : State) (k : CoilId) (r : Report) : State :=
  if s.pu.hot[k] then if r.temp ≤ s.ts.work.coolLimit then coilCool s k r else s
  else if s.ts.work.hotLimit ≤ r.temp then coilHot s k r else s

/-- R127: a report, with the drive its slot record shows for the leg. -/
def protectReport (s : State) (r : Report) (d : LegDrive) : State :=
  let t := if r.trip then trip s r.globalLeg .boardTrip (faultCoil s r d) r.delivered else s
  let t := if r.mode = .firing then testOvershoot t r d else t
  match namedCoil s r with
  | some k => judgeTemperature t k r
  | none => t

/-! ### Frame ends (R131, R132) -/

/-- R132: one frame of cooldown; also of a cooldown begun in a frame later than the one whose end is taken (log 47). -/
def coolTick (r : LegRecord) : LegRecord := if r.state = .tripped then { r with cooldown := r.cooldown.map (· - 1) } else r

/-- R132: a TRIPPED leg's cooldown has run out. -/
def cooldownOver (s : State) (l : LegId) : Bool := s.pu.legs[l].state == .tripped && s.pu.legs[l].cooldown == some 0

/-- R131: the window closes at the end of the frame with this count. A window opened in a frame later than that one, its frame-end still
waiting, is judged by the rule's difference modulo 65536, which closes it at once (log 47). -/
def windowCloses (s : State) (frame : BitVec 16) (l : LegId) : Bool :=
  match s.pu.legs[l].windowStart with
  | none => false
  | some w => decide (s.ts.work.retryWindow - 1 ≤ (frame - w).toNat)

/-- R131, R132: a frame-end; the cooldowns and windows that ended are taken as its tail (log 3). -/
def protectFrameEnd (s : State) (frame : BitVec 16) : State :=
  let t := s.modPu fun pu => { pu with legs := Vector.ofFn fun l => coolTick pu.legs[l] }
  t.modPu fun pu =>
    { pu with cooldownDue := allLegs.filter (cooldownOver t), windowDue := allLegs.filter (windowCloses t frame) }

/-- R132: cooldown expiry of the leg at the head of the tail. -/
def expireCooldown (s : State) : State :=
  match s.pu.cooldownDue with
  | [] => s
  | l :: rest =>
    let t := s.modPu fun pu => { pu with cooldownDue := rest }
    if cooldownOver s l then changeLeg t l fun r => { r with state := .ready, cooldown := none } else t

/-- R131: the trip count of a LOCKED leg is cleared by CLEAR FAULT only. -/
def closeWindow (r : LegRecord) : LegRecord :=
  { r with windowStart := none, trips := if r.state = .locked then r.trips else 0 }

/-- R131: the window at the head of the tail closes. -/
def expireWindow (s : State) : State :=
  match s.pu.windowDue with
  | [] => s
  | l :: rest => (s.modPu fun pu => { pu with windowDue := rest }).modLeg l closeWindow

/-! ### Boards (R133, R141) -/

/-- R133: a leg at a board out. -/
def legBoardOut (s : State) (l : LegId) : State :=
  match s.pu.legs[l].state with
  | .ready | .tripped => changeLeg s l fun r => { r with state := .offline, cooldown := none, overshoot := false }
  | .locked | .offline => s

/-- R133: a leg at a board in. -/
def legBoardIn (s : State) (l : LegId) : State :=
  match s.pu.legs[l].state with
  | .offline => changeLeg s l fun r => { r with state := .ready }
  | .ready | .tripped | .locked => s

/-- R133: a board out on the board's four legs. -/
def legsOut (s : State) (b : BoardId) : State := (boardLegs b).foldl legBoardOut s
/-- R133: a board in on the board's four legs. -/
def legsIn (s : State) (b : BoardId) : State := (boardLegs b).foldl legBoardIn s

/-- R133: a board out is a protective event; its value tells FAILED from OFFLINE (R137). -/
def protectBoardOut (s : State) (b : BoardId) (failed : Bool) : State :=
  protective (legsOut s b) .boardLost (some b) none none (if failed then 1 else 0)

/-! ### Halts and faults (R135, R136, R139) -/

/-- R135: a halt cause. -/
def takeHaltCause (s : State) (c : HaltCause) : State :=
  match s.fe.hob with
  | .running => postHobClaim s (.halt c)
  | .stopped => protective s c.kind none none none 0
  | .halted => s

/-- R136: the hob has entered HALTED. -/
def takeHalted (s : State) (c : HaltCause) : State :=
  queueNotice (trap (capture s c.kind none none none 0) c.kind) .hobHalted 0 c.kind.code 0

/-- R137: a mains loss is a protective event. -/
def takeLoss (s : State) (c : LossCause) : State := protective s .mainsLost none none none c.code

/-- R139, step 2. -/
def clearTrips (r : LegRecord) : LegRecord := { r with trips := 0, windowStart := none }

/-- R139, step 3. -/
def unlockLeg (s : State) (l : LegId) : State :=
  if s.pu.legs[l].state = .locked then
    changeLeg s l fun r => { r with state := if s.boards[legBoard l].state = .online then .ready else .offline }
  else s

/-- R139: CLEAR FAULT. -/
def clearFault (s : State) : State :=
  let t := s.modPu fun pu => { pu with firstFault := none, traps := 0, legs := Vector.ofFn fun l => clearTrips pu.legs[l] }
  postHobClaim (allLegs.foldl unlockLeg t) .clear

end Sys2Proof.Machine
end

