-- ==== Sys2Proof/Machine/BoardPorts.lean ====
section
/-! DEFINITION. The Board Ports (spec/08_board_links.md): configuration, census, the entry to ONLINE and the leaving of service, sense
reports and the judgement of slots. -/

namespace Sys2Proof.Machine

/-! ### Census (R141, R143) -/

/-- R143: a census begins; its times are set when the IDENT REQUEST is sent. -/
def beginCensus (port : BoardPort) : BoardPort := { port with state := .waiting, txIdent := true, deadline := none }

/-- R143: the IDENT REQUEST is sent. -/
def censusSent (port : BoardPort) (now : Time) : BoardPort :=
  { port with txIdent := false, requestTime := some now, deadline := some (now + 500000) }

/-- R143: a PENDING moves the deadline, to 3000 ms after the request at most; before the request is sent there is no such bound (log 26). -/
def movedDeadline (port : BoardPort) (now : Time) : Time :=
  match port.requestTime with
  | none => now + 500000
  | some r => if port.txIdent then now + 500000 else min (now + 500000) (r + 3000000)

/-- R141: the board's port is closed. The rule does not name the expected slot serial; the model makes it none (log 43). -/
def unconfigure (port : BoardPort) : BoardPort :=
  { port with
    state := .unconfigured
    deadline := none
    slot := none
    serial := none
    txOffNow := none
    txDrive := none
    txIdent := false }

/-- R141: the removal posts of a board that was ONLINE. -/
def postRemoval (s : State) (b : BoardId) : State :=
  postTrigger (postPuBoard (postCmBoard s b (.out false)) b .removal) (.boardState b)

/-- R141: a Board Port takes the configured field at a change of the structural-valid flag. -/
def takeConfiguration (valid : Bool) (s : State) (b : BoardId) : State :=
  if valid && s.ts.work.t0[b].configured then
    if s.boards[b].state = .unconfigured then s.modBoard b beginCensus else s
  else if s.boards[b].state = .unconfigured then s
  else if s.boards[b].state = .online then postRemoval (s.modBoard b unconfigure) b
  else s.modBoard b unconfigure

/-- R141: the Board Ports at a change of the structural-valid flag. -/
def takeBoards (s : State) (valid : Bool) : State := allBoards.foldl (takeConfiguration valid) s

/-! ### ONLINE, OFFLINE, FAILED (R144 to R146) -/

/-- R145: the port of a board that enters ONLINE. -/
def onlinePort (port : BoardPort) : BoardPort :=
  { port with
    state := .online
    slot := none
    serial := none
    missed := 0
    holdRun := 0
    noReport := Vector.replicate 4 0
    lastFiring := Vector.replicate 4 none
    deadline := none
    txIdent := false }

/-- R145: a board enters ONLINE. -/
def boardOnline (s : State) (b : BoardId) (unsolicited : Bool) : State :=
  let t := postTrigger (postPuBoard (postCmBoard (s.modBoard b onlinePort) b .into) b .into) (.boardState b)
  queueNotice t .boardOnline (BitVec.ofNat 8 b.val) (if s.ts.work.phaseOf b = .l1 then 1 else 2) (if unsolicited then 1 else 0)

/-- R146, step 1: the port of a board taken out of service; an off-now that waits is still sent. -/
def closedPort (failed : Bool) (port : BoardPort) : BoardPort :=
  { port with
    state := if failed then .failed else .offline
    deadline := none
    slot := none
    serial := none
    txDrive := none
    txIdent := false }

/-- R146: a board is taken out of service. -/
def boardLeaves (s : State) (b : BoardId) (failed : Bool) (cause : BoardCause) : State :=
  let online := s.boards[b].state = .online
  let t := s.modBoard b (closedPort failed)
  let t := queueNotice t .boardOffline (BitVec.ofNat 8 b.val) cause.code (if failed then 1 else 0)
  let t := postPuBoard (postCmBoard t b (.out failed)) b (.out failed)
  let t := if online then postTrigger t (.boardState b) else t
  if online ∧ s.fe.hob = .running ∧ someBoardOnline t = false then postHaltCause t .noBoards else t

/-- R144: an IDENT is judged on the board state and its content. -/
def judgeIdent (s : State) (b : BoardId) (cell : IdentCell) : State :=
  match s.boards[b].state with
  | .unconfigured => s
  | .waiting =>
    if typeMismatch cell then boardLeaves s b true .typeMismatch
    else if cell.diagnosis = 1 then boardOnline s b false
    else if cell.diagnosis = 0 then s.modBoard b fun port => { port with deadline := some (movedDeadline port s.now) }
    else boardLeaves s b true .identFail
  | .online =>
    if typeMismatch cell then boardLeaves s b true .typeMismatch
    else if cell.diagnosis = 1 then s
    else if cell.diagnosis = 0 then boardLeaves s b false .restarted
    else boardLeaves s b true .identFail
  | .offline =>
    if typeMismatch cell then boardLeaves s b true .typeMismatch
    else if cell.diagnosis = 1 then boardOnline s b true
    else if cell.diagnosis = 0 then s
    else boardLeaves s b true .identFail
  | .failed => if typeMismatch cell = false ∧ cell.diagnosis = 1 then boardOnline s b true else s

/-- R143: the census deadline passes. -/
def censusExpires (s : State) (b : BoardId) : State :=
  match s.boards[b].state, s.boards[b].deadline with
  | .waiting, some d => if d ≤ s.now then boardLeaves s b false .noIdent else s
  | _, _ => s

/-! ### Sense reports (R149, R150) -/

/-- R149: the cell is valid: the record is open, the echo is the expected serial, the leg has not reported. -/
def senseValid (s : State) (b : BoardId) (cell : SenseCell) : Bool :=
  match s.boards[b].slot with
  | none => false
  | some r => s.boards[b].serial == some cell.serial && !r.reported[(Report.ofCell b cell).leg]

/-- R149: the slot record takes a valid cell. -/
def recordSense (s : State) (b : BoardId) (cell : SenseCell) : State :=
  s.modBoard b fun port =>
    { port with
      heatsink := heatsinkOf cell.heatsink
      slot := port.slot.map fun r =>
        { r with reported := r.reported.set (Report.ofCell b cell).leg true, hold := r.hold || cell.hold } }

/-- R150: the drive the slot record shows for a leg. -/
def recordedDrive (s : State) (b : BoardId) (l : LocalLeg) : LegDrive :=
  match s.boards[b].slot with
  | none => .none
  | some r => r.drive[l]

/-- R149, R150: a SENSE cell; the Coil Monitor, the Protection Unit and the Budget Allocator take a valid report in turn (log 37). -/
def takeSense (s : State) (b : BoardId) (cell : SenseCell) : State :=
  if s.sup.hub = .ready ∧ s.boards[b].state = .online ∧ senseValid s b cell then
    let r := Report.ofCell b cell
    takeHeatsink (protectReport (takeReport (recordSense s b cell) r) r (recordedDrive s b r.leg)) b (heatsinkOf cell.heatsink)
  else s

/-! ### The judgement of a slot (R148, R149, R151, R152) -/

/-- R151: the leg was fired in the slot and returned no valid report. -/
def silentLeg (r : SlotRecord) (l : LocalLeg) : Bool :=
  match r.drive[l] with
  | .fire .. => !r.reported[l]
  | .none | .probe _ => false

/-- R151: the leg's run reaches 2 at this judgement. -/
def noReportDue (port : BoardPort) (r : SlotRecord) (l : LocalLeg) : Bool := silentLeg r l && decide (1 ≤ port.noReport[l])

/-- R151: the no-report runs after the judgement. -/
def noReportRuns (port : BoardPort) (r : SlotRecord) : Vector Nat 4 :=
  Vector.ofFn fun l => if silentLeg r l && !noReportDue port r l then port.noReport[l] + 1 else 0

/-- R129, R151: NO REPORT for a leg, with the leg's last firing. -/
def tripSilent (port : BoardPort) (b : BoardId) (s : State) (l : LocalLeg) : State :=
  trip s (legAt b l) .noReport (port.lastFiring[l].map (·.1)) ((port.lastFiring[l].map (·.2)).getD 0)

/-- R149: all four legs have reported. -/
def slotComplete (r : SlotRecord) : Bool := four.all fun l => r.reported[l]

/-- R149 to R152: the Board Port judges the slot that has ended. Where one slot brings both the third missed slot and the 51st held slot
the rules do not order the two causes; the model takes MISSED SLOTS (log 42). -/
def judgeSlot (s : State) (b : BoardId) (r : SlotRecord) : State :=
  let port := s.boards[b]
  let t := (four.filter (noReportDue port r)).foldl (tripSilent port b) s
  let t := t.modBoard b fun q =>
    { q with
      noReport := noReportRuns port r
      missed := if slotComplete r then 0 else q.missed + 1
      holdRun := if r.hold then q.holdRun + 1 else 0 }
  if 3 ≤ t.boards[b].missed then boardLeaves t b false .missedSlots
  else if 51 ≤ t.boards[b].holdRun then boardLeaves t b false .hold
  else t

/-- R148: the legs for which the judgement posted NO REPORT lose a firing of the new cell. -/
def clearSilent (port : BoardPort) (old : Option SlotRecord) (cell : DriveCell) : DriveCell :=
  match old with
  | none => cell
  | some r =>
    { cell with
      legs := Vector.ofFn fun l =>
        match cell.legs[l] with
        | .fire sel sp sync => if noReportDue port r l then .none else .fire sel sp sync
        | .none => .none
        | .probe sel => .probe sel }

/-- R148: the leg's last firing becomes the firing of the cell. -/
def lastFirings (b : BoardId) (cell : DriveCell) (old : Vector (Option (CoilId × Nat)) 4) : Vector (Option (CoilId × Nat)) 4 :=
  Vector.ofFn fun l =>
    match cell.legs[l] with
    | .fire sel sp _ => some (coilAt b l sel, sp)
    | .none | .probe _ => old[l]

/-- R148: a new slot record is opened and the cell joins the transmit queue. -/
def openSlot (b : BoardId) (cell : DriveCell) (port : BoardPort) : BoardPort :=
  { port with
    serial := some cell.serial
    slot := some ⟨cell.legs, Vector.replicate 4 false, false⟩
    lastFiring := lastFirings b cell port.lastFiring
    txDrive := some cell }

/-- R148: a Board Port takes the drive cell of a slot start. -/
def takeDrive (s : State) (b : BoardId) (cell : DriveCell) : State :=
  let port := s.boards[b]
  let t := match port.slot with
    | none => s
    | some r => judgeSlot s b r
  if t.boards[b].state = .online then t.modBoard b (openSlot b (clearSilent port port.slot cell)) else t

/-! ### Supply (R153) -/

/-- R153: the port at the change to SUPPLY LOW. The missed-slot, hold and no-report runs are kept (log 53). -/
def quietPort (port : BoardPort) : BoardPort :=
  { port with
    txOffNow := none
    txDrive := none
    txIdent := false
    slot := none
    serial := none
    deadline := if port.state = .waiting then none else port.deadline }

/-- R153: a census begins afresh for a WAITING board on the return to READY. -/
def resumeCensus (port : BoardPort) : BoardPort := if port.state = .waiting then beginCensus port else port

end Sys2Proof.Machine
end

