-- ==== Sys2Proof/Machine/HeatSequencer.lean ====
section
/-! DEFINITION. The Heat Sequencer (spec/03_heat_contexts_and_programs.md): heat contexts, the request order list, heat cells, program
stores and steps. -/

namespace Sys2Proof.Machine

/-! ### The request order list and heat changes (R52, R71) -/

/-- R52: move to head. -/
def moveToHead (s : State) (p : PanSlot) : State := s.modHs fun l => { l with requests := p :: l.requests.filter (· ≠ p) }
/-- R52: remove. -/
def removeRequest (s : State) (p : PanSlot) : State := s.modHs fun l => { l with requests := l.requests.filter (· ≠ p) }

/-- R71: the heat state, the requested level and the program position of a context. -/
def contextView (s : State) (p : PanSlot) : HeatState × Level × Fin 8 :=
  (s.pans[p].heat.state, s.pans[p].heat.level, s.pans[p].heat.position)

/-- R71: the contexts that changed, ascending. -/
def contextsChanged (before after : State) : List PanSlot := allPans.filter fun p => contextView before p != contextView after p

/-- R52, R71: an event about one pan posts a heat change naming it when its context or the list changed. -/
def postHeatChange (before after : State) (p : PanSlot) : State :=
  if contextsChanged before after = [] ∧ before.hs.requests = after.hs.requests then after else postTrigger after (.heatChange [p])

/-- R71: an event that changes several contexts posts one heat change naming all of them. -/
def postHeatChanges (before after : State) : State :=
  if contextsChanged before after = [] ∧ before.hs.requests = after.hs.requests then after
  else postTrigger after (.heatChange (contextsChanged before after))

/-- R51: entry to IDLE; the pan is not in the list. -/
def toIdle (s : State) (p : PanSlot) : State := removeRequest (s.modHeat p fun _ => .idle) p

/-- The prior mode a heating context leaves (R51). -/
def priorOf : HeatState → PriorMode
  | .program => .program
  | .idle | .level | .paused | .suspended | .stopped => .level

/-- R51: entry to PAUSED or SUSPENDED from a heating context. -/
def hold (s : State) (p : PanSlot) (state : HeatState) : State :=
  removeRequest (s.modHeat p fun h => { h with state := state, prior := some (priorOf h.state) }) p

/-- R56, R66: back to the prior mode with its held values; moved to head. -/
def resumeContext (s : State) (p : PanSlot) : State :=
  moveToHead (s.modHeat p fun h =>
    { h with state := (if h.prior = some .program then .program else .level), prior := none }) p

/-! ### Heat cells (R53 to R56) -/

/-- R54: SET LEVEL, after the handle check. -/
def applySetLevel (s : State) (cell : HeatCell) : State :=
  let p := handleSlot cell.handle
  let pan := s.pans[p].pres
  if h : 16 ≤ cell.level.toNat then refuseHeat s cell.handle .badLevel cell.level.toNat
  else if s.fe.hob ≠ .running then refuseHeat s cell.handle .hobNotRunning cell.level.toNat
  else if pan.presence = .forming then refuseHeat s cell.handle .notPlaced cell.level.toNat
  else if pan.presence = .lifted ∧ cell.level.toNat = 0 then toIdle s p
  else if pan.presence = .lifted then refuseHeat s cell.handle .panLifted cell.level.toNat
  else if pan.material = .unsuitable ∧ cell.level.toNat ≠ 0 then refuseHeat s cell.handle .unsuitable cell.level.toNat
  else if cell.level.toNat = 0 then toIdle s p
  else moveToHead (s.modHeat p fun _ => { HeatPart.idle with state := .level, level := ⟨cell.level.toNat, by omega⟩ }) p

/-- R55: PAUSE, after the handle check. -/
def applyPause (s : State) (cell : HeatCell) : State :=
  let p := handleSlot cell.handle
  match s.pans[p].heat.state with
  | .level | .program => hold s p .paused
  | .suspended => s.modHeat p fun h => { h with state := .paused }
  | .idle | .paused | .stopped => refuseHeat s cell.handle .notPausable 0

/-- R56: RESUME, after the handle check. -/
def applyResume (s : State) (cell : HeatCell) : State :=
  let p := handleSlot cell.handle
  if s.pans[p].heat.state ≠ .paused then refuseHeat s cell.handle .notPaused 0
  else if s.pans[p].pres.presence = .lifted then refuseHeat s cell.handle .panLifted 0
  else if s.fe.hob ≠ .running then refuseHeat s cell.handle .hobNotRunning 0
  else if s.pans[p].pres.material = .unsuitable then refuseHeat s cell.handle .unsuitable 0
  else resumeContext s p

/-- R53: the level a refusal shows: that of a SET LEVEL cell, 0 for PAUSE and RESUME. -/
def HeatCell.shown (cell : HeatCell) : Nat := if cell.action = .setLevel then cell.level.toNat else 0

/-- R53: a heat cell is taken whole. -/
def applyHeat (s : State) (cell : HeatCell) : State :=
  if handleCurrent s cell.handle then
    match cell.action with
    | .setLevel => postHeatChange s (applySetLevel s cell) (handleSlot cell.handle)
    | .pause => postHeatChange s (applyPause s cell) (handleSlot cell.handle)
    | .resume => postHeatChange s (applyResume s cell) (handleSlot cell.handle)
  else refuseHeat s cell.handle .staleHandle cell.shown

/-- R53: the Heat Sequencer takes the head of the heat cell queue, when it is a cell of the action named. -/
def takeHeatCell (s : State) (action : HeatAction) : State :=
  match s.cp.heatQueue with
  | [] => s
  | cell :: rest =>
    if cell.action = action then applyHeat (s.modCp fun cp => { cp with heatQueue := rest }) cell else s

/-! ### Steps (R61 to R63) -/

/-- R61: a step begins. -/
def beginStep (s : State) (p : PanSlot) (i : Fin 8) (step : ProgramStep) : State :=
  s.modHeat p fun h =>
    { h with position := i, level := step.level, remaining := step.duration, timed := decide (step.duration ≠ 0) }

/-- R63: STEP DONE. -/
def stepDone (s : State) (p : PanSlot) (ended current : Fin 8) : State := queueNotice s .stepDone (s.handleOf p) ended current

/-- R63: the program ends. -/
def programDone (s : State) (p : PanSlot) : State :=
  queueNotice (toIdle s p) .programDone (s.handleOf p) s.pans[p].heat.position 0

/-- R63: the end of a timed step. At a position the store no longer holds (a shorter program was loaded while the context was SUSPENDED)
no row of R63 applies and nothing changes (log 39). -/
def endStep (s : State) (p : PanSlot) : State :=
  let h := s.pans[p].heat
  match s.pans[p].program[h.position.val]? with
  | none => s
  | some step =>
    match step.action with
    | .next =>
      match s.pans[p].program[h.position.val + 1]? with
      | some following => stepDone (beginStep s p (h.position + 1) following) p h.position (h.position + 1)
      | none => programDone s p
    | .hold => stepDone (s.modHeat p fun h => { h with timed := false }) p h.position h.position
    | .off => programDone s p

/-- R62: the step of a context counts. -/
def stepCounts (s : State) (p : PanSlot) : Bool :=
  s.pans[p].heat.state == .program && s.pans[p].heat.timed && s.pans[p].pres.presence.standing && s.fe.hob == .running &&
    s.fe.lock == .locked

/-- R62: a one-second event; the steps that reached 0 end as its tail (log 3). -/
def stepTick (s : State) : State :=
  let t := s.modPans fun p r => if stepCounts s p then { r with heat := { r.heat with remaining := r.heat.remaining - 1 } } else r
  t.modHs fun l => { l with stepDue := allPans.filter fun p => stepCounts s p && t.pans[p].heat.remaining == 0 }

/-- R62: the current step is timed and has run out. -/
def stepOver (s : State) (p : PanSlot) : Bool :=
  s.pans[p].heat.state == .program && s.pans[p].heat.timed && s.pans[p].heat.remaining == 0

/-- R63, R71: a step that is over ends, and the context is named in the heat change of the one-second event if it changed. -/
def endDueStep (s : State) (p : PanSlot) : State :=
  if stepOver s p then
    (endStep s p).modHs fun l => { l with stepChanged := l.stepChanged ++ contextsChanged s (endStep s p) }
  else s

/-- R71: at the end of the tail the contexts whose steps ended are posted in one heat change. -/
def postStepChanges (s : State) : State :=
  match s.hs.stepDue, s.hs.stepChanged with
  | [], p :: rest => postTrigger (s.modHs fun l => { l with stepChanged := [] }) (.heatChange (p :: rest))
  | _, _ => s

/-- R63: the step at the head of the tail ends. -/
def expireStep (s : State) : State :=
  match s.hs.stepDue with
  | [] => s
  | p :: rest => postStepChanges (endDueStep (s.modHs fun l => { l with stepDue := rest }) p)

/-! ### Posts of the Pan Tracker and the Frame Engine (R65 to R70) -/

/-- R65: a lift. -/
def heatLifted (s : State) (p : PanSlot) : State :=
  if s.pans[p].heat.state.heating then postHeatChange s (hold s p .suspended) p else s

/-- R66: a return. A context that SET LEVEL, RESUME or RUN PROGRAM has put in LEVEL or PROGRAM since the return's frame-end, for which the
rule has no row, stays as it is, and the pan keeps its place in the list (log 58). -/
def heatReturned (s : State) (p : PanSlot) : State :=
  if s.pans[p].heat.state = .suspended then
    if s.pans[p].pres.material = .unsuitable then
      postHeatChange s (refuseHeat (toIdle s p) (s.handleOf p) .unsuitable s.pans[p].heat.level) p
    else postHeatChange s (resumeContext s p) p
  else s

/-- R67: a retirement. -/
def heatRetired (s : State) (p : PanSlot) : State :=
  postHeatChange s ((toIdle s p).modPan p fun r => { r with program := [] }) p

/-- R68: a material change. -/
def heatMaterial (s : State) (p : PanSlot) (m : Material) : State :=
  if s.pans[p].heat.state.heating ∧ m = .unsuitable then
    postHeatChange s (refuseHeat (toIdle s p) (s.handleOf p) .unsuitable s.pans[p].heat.level) p
  else s

/-- R65 to R68: a post of the Pan Tracker is taken. -/
def takePanPost (s : State) : PanPost → State
  | .lift p => heatLifted s p
  | .back p => heatReturned s p
  | .retirement p => heatRetired s p
  | .material p m => heatMaterial s p m

/-- The posts of the Pan Tracker that wait are taken, in their order. -/
def finishPans (s : State) : State := s.posts.pans.foldl takePanPost (s.modPosts fun q => { q with pans := [] })

/-- R28, R51, R67: a FREE slot has an IDLE context and an empty store before a pan is founded in it; where its retirement still waits, the
posts of the Pan Tracker are taken first (log 55). -/
def clearContext (s : State) (p : PanSlot) : State :=
  heatRetired (if .retirement p ∈ s.posts.pans then finishPans s else s) p

/-- R69: a context at a hob halt. -/
def haltHeat (h : HeatPart) : HeatPart := if h.state = .idle then h else { h with state := .stopped, prior := none }
/-- R70: a context at STOP HOB. -/
def stopHeat (h : HeatPart) : HeatPart := if h.state = .stopped then h else .idle
/-- R70: a context at START HOB. -/
def startHeat (h : HeatPart) : HeatPart := if h.state = .stopped then .idle else h

/-- Every context changes, and the list is emptied where `clear`. -/
def changeContexts (s : State) (f : HeatPart → HeatPart) (clear : Bool) : State :=
  (s.modPans fun _ r => { r with heat := f r.heat }).modHs fun l => { l with requests := if clear then [] else l.requests }

/-- R69: a hob halt. -/
def heatHalted (s : State) : State := postHeatChanges s (changeContexts s haltHeat true)
/-- R70: STOP HOB. -/
def heatStopped (s : State) : State := postHeatChanges s (changeContexts s stopHeat true)
/-- R70: START HOB. -/
def heatStarted (s : State) : State := postHeatChanges s (changeContexts s startHeat false)

/-- R69, R70: a post of the Frame Engine is taken. -/
def takeHobPost (s : State) : HobPost → State
  | .halt => heatHalted s
  | .stop => heatStopped s
  | .start => heatStarted s

/-- The posts of the Frame Engine that wait are taken, in their order. -/
def finishHob (s : State) : State := s.posts.hob.foldl takeHobPost (s.modPosts fun q => { q with hob := [] })

/-- R104: the build of START HOB begins with every context IDLE: what the Frame Engine has posted is taken before its request (log 49). -/
def finishStart (s : State) : State := if s.fe.hob = .running then finishHob s else s

/-! ### Program orders (R58 to R60) -/

/-- R58: LOAD PROGRAM is judged. -/
def judgeLoad (s : State) (handle count : Byte) : State :=
  let r := s.pans[handleSlot handle]
  if count.toNat = 0 ∨ 8 < count.toNat then endCheck s .badField 2 0
  else if handleCurrent s handle = false then endCheck s .staleHandle 1 0
  else if r.pres.presence.standing = false then endCheck s .notPermitted 0 3
  else if r.heat.state = .program ∨ (r.heat.state = .paused ∧ r.heat.prior = some .program) then endCheck s .notPermitted 0 4
  else enterDataOut (s.modHs fun l => { l with held := [] }) count.toNat (.program handle)

/-- R59: the last step has been taken. -/
def finishLoad (s : State) (handle : Byte) : State :=
  if handleCurrent s handle then
    endGood ((s.modPan (handleSlot handle) fun r => { r with program := s.hs.held }).modHs fun l => { l with held := [] })
  else endCheck (s.modHs fun l => { l with held := [] }) .staleHandle 1 0

/-- R60, R61: RUN PROGRAM is judged. -/
def judgeRun (s : State) (handle : Byte) : State :=
  let p := handleSlot handle
  if handleCurrent s handle = false then endCheck s .staleHandle 1 0
  else
    match s.pans[p].program with
    | [] => endCheck s .notPermitted 0 2
    | step :: _ =>
      if s.fe.hob ≠ .running then endCheck s .notPermitted 0 3
      else if s.pans[p].pres.presence.standing = false then endCheck s .notPermitted 0 4
      else if s.pans[p].pres.material = .unsuitable then endCheck s .notPermitted 0 5
      else
        endGood (postTrigger (moveToHead (beginStep (s.modHeat p fun h => { h with state := .program, prior := none }) p 0 step) p)
          (.heatChange [p]))

end Sys2Proof.Machine
end

