-- ==== Sys2Proof/Machine/SlotScheduler.lean ====
section
/-! DEFINITION. The Slot Scheduler (spec/05_slot_programs.md): the banks, the snapshot, placement, CHECK, offer, swap notice and
discard. -/

namespace Sys2Proof.Machine

/-! ### Banks (R89, R90) -/

/-- A slot program bank. -/
abbrev Bank := List (List Firing)

/-- R90: the bank that is not active. -/
def standbyId (s : State) : BankId := if s.fe.activeBank = .a then .b else .a
/-- R90: a bank by its name. -/
def bankOf (s : State) : BankId → Bank
  | .a => s.ss.bankA
  | .b => s.ss.bankB
/-- R89: the standby bank is written. -/
def setStandby (s : State) (bank : Bank) : State :=
  s.modSs fun c =>
    match standbyId s with
    | .a => { c with bankA := bank }
    | .b => { c with bankB := bank }
/-- R118: the active bank's list for a slot index. -/
def activeList (s : State) (i : Nat) : List Firing := (bankOf s s.fe.activeBank).getD i []

/-! ### The snapshot (R93) -/

/-- R93: what the snapshot takes for a listed pan. -/
def snapPan (s : State) (p : PanSlot) : SnapPan :=
  { pan := p
    g := s.pans[p].alloc.g
    eligible := s.ba.figures.eligible[p]
    floor := s.ts.work.t4[s.pans[p].heat.level].floor
    ceiling := s.ts.work.t4[s.pans[p].heat.level].ceiling }

/-- R93: the snapshot, taken whole. -/
def snapshotOf (s : State) : Snapshot :=
  { f := s.fe.f
    pans := s.ba.figures.order.map (snapPan s)
    limit1 := s.ba.figures.limit1
    limit2 := s.ba.figures.limit2
    limitHob := s.ba.figures.limitHob
    phases := Vector.ofFn fun b => s.ts.work.phaseOf b
    neighbours := s.ba.figures.order.flatMap fun p => s.ba.figures.eligible[p].map fun e => (e.1, s.ts.work.t2[e.1]) }

/-- R93: GATHER starts; with the hob not RUNNING the build does not proceed. -/
def startGather (s : State) : State :=
  if s.fe.hob = .running then
    s.modSs fun c => { c with stage := .gather, rerun := false, snapshot := some (snapshotOf s), cursors := none, results := none }
  else s.modSs fun c => { c with stage := .idle, rerun := false, snapshot := none, cursors := none, results := none }

/-- R92: a rebuild request is taken. -/
def takeRebuild (s : State) : State :=
  if s.fe.hob ≠ .running then s
  else if s.ss.stage = .idle then startGather s
  else s.modSs fun c => { c with rerun := true }

/-! ### Placement (R94 to R97) -/

/-- R94: the setpoint of a pan. -/
def setpointOf (p : SnapPan) : Nat :=
  (p.eligible.map (·.2)).foldl min (min (max (p.g / p.eligible.length) p.floor) p.ceiling) / 10 * 10

/-- R94: the firing count of a pan. -/
def firingCount (f : Nat) (p : SnapPan) : Nat :=
  if p.g = 0 ∨ p.eligible = [] ∨ setpointOf p = 0 then 0
  else min (p.g * f / setpointOf p) (f * p.eligible.length)

/-- R95: the cursors at the start of a pan. -/
def startCursors (f : Nat) (p : SnapPan) : List Nat := (List.range p.eligible.length).map fun m => (p.pan.val * 3 + m) % f

/-- R96: either one's snapshot entry lists the other. -/
def snapAdjacent (n : Snapshot) (j k : CoilId) : Bool :=
  n.neighbours.any fun e => (e.1 == j && e.2.contains k) || (e.1 == k && e.2.contains j)

/-- The sum of the setpoints of some firings. -/
def setpoints (fs : List Firing) : Nat := (fs.map (·.setpoint)).sum

/-- R96: the limit of a phase in the snapshot. -/
def Snapshot.limit (n : Snapshot) : Phase → Nat
  | .l1 => n.limit1
  | .l2 => n.limit2

/-- R96: the tests of one slot for a firing. -/
def slotFits (n : Snapshot) (slot : List Firing) (k : CoilId) (p : PanSlot) (sp : Nat) : Bool :=
  let ph := n.phases[coilBoard k]
  (slot.all fun x => coilLeg x.coil != coilLeg k) && (slot.all fun x => x.coil != k) &&
    (slot.all fun x => x.pan == p || !snapAdjacent n x.coil k) &&
    decide (setpoints (slot.filter fun x => n.phases[coilBoard x.coil] == ph) + sp ≤ n.limit ph) &&
    decide (setpoints slot + sp ≤ n.limitHob)

/-- R96: the first active slot from the cursor that passes, with the wrap. -/
def findSlot (n : Snapshot) (bank : Bank) (k : CoilId) (p : PanSlot) (sp cursor : Nat) : Option Nat :=
  ((List.range n.f).map fun i => (cursor + i) % n.f).find? fun i => slotFits n (bank.getD i []) k p sp

/-- What PLACE has made so far of a pan: the bank, the cursors, the firings placed. -/
structure Dealing where
  bank : Bank
  cursors : List Nat
  placed : Nat
  deriving DecidableEq, Repr

/-- R95, R96: one firing is dealt, to the member whose turn it is, and placed or dropped. -/
def dealOne (n : Snapshot) (p : SnapPan) (d : Dealing) (turn : Nat) : Dealing :=
  let m := turn % p.eligible.length
  match p.eligible[m]? with
  | none => d
  | some e =>
    match findSlot n d.bank e.1 p.pan (setpointOf p) (d.cursors.getD m 0) with
    | none => d
    | some i =>
      { bank := d.bank.set i (d.bank.getD i [] ++ [⟨e.1, p.pan, setpointOf p⟩])
        cursors := d.cursors.set m ((i + 1) % n.f)
        placed := d.placed + 1 }

/-- R95, R97: the firings of one pan are dealt. -/
def dealPan (n : Snapshot) (bank : Bank) (p : SnapPan) : Dealing :=
  (List.range (firingCount n.f p)).foldl (dealOne n p) ⟨bank, startCursors n.f p, 0⟩

/-- R94, R97: the pans of the snapshot, head first. -/
def placeAll (n : Snapshot) : Bank × List BuildResult → List SnapPan → Bank × List BuildResult
  | acc, [] => acc
  | acc, p :: rest =>
    placeAll n
      ((dealPan n acc.1 p).bank,
        acc.2 ++ [⟨p.pan, setpointOf p, (dealPan n acc.1 p).placed, firingCount n.f p - (dealPan n acc.1 p).placed⟩]) rest

/-- R93, R94: the snapshot is complete; PLACE begins with an empty standby bank and the cursors of the first pan (log 33). -/
def snapshotComplete (s : State) : State :=
  match s.ss.stage, s.ss.snapshot with
  | .gather, some n =>
    (setStandby s (emptyBank n.f)).modSs fun c =>
      { c with stage := .place, cursors := some ((n.pans.head?.map (startCursors n.f)).getD []) }
  | _, _ => s

/-- R94 to R97: the last pan is placed. -/
def placeComplete (s : State) : State :=
  match s.ss.stage, s.ss.snapshot with
  | .place, some n =>
    (setStandby s (placeAll n (emptyBank n.f, []) n.pans).1).modSs fun c =>
      { c with stage := .check, cursors := none, results := some (placeAll n (emptyBank n.f, []) n.pans).2 }
  | _, _ => s

/-! ### CHECK and offer (R98 to R101) -/

/-- R103: the discard of a halt or stop has been posted and not yet taken. -/
abbrev DiscardWaits (s : State) : Prop := SchedulerPost.discard ∈ s.posts.scheduler

/-- No two entries of a list are related. -/
def pairwise {α : Type} (r : α → α → Bool) : List α → Bool
  | [] => true
  | a :: rest => rest.all (r a) && pairwise r rest

/-- R98: one active slot passes CHECK against the state at CHECK. -/
def slotChecks (s : State) (slot : List Firing) : Bool :=
  pairwise (fun x y => coilLeg x.coil != coilLeg y.coil) slot && pairwise (fun x y => x.coil != y.coil) slot &&
    pairwise (fun x y => x.pan == y.pan || !adjacent s x.coil y.coil) slot &&
    ([Phase.l1, .l2].all fun ph =>
      decide (setpoints (slot.filter fun x => s.ts.work.phaseOf (coilBoard x.coil) == ph) ≤ s.ts.work.phaseLimit ph)) &&
    decide (setpoints slot ≤ s.ts.work.hobLimit)

/-- R98: the standby bank passes as a whole. -/
def bankChecks (s : State) : Bool := (bankOf s (standbyId s)).all (slotChecks s)

/-- R97: floor(placed × s / F). -/
def scheduledPower (f : Nat) (r : BuildResult) : Nat := r.placed * r.setpoint / f

/-- R100: the schedule parts of an offer. -/
def schedulePan (f : Nat) (rs : List BuildResult) (p : PanSlot) (r : PanRecord) : PanRecord :=
  match rs.find? fun e => e.pan == p with
  | some e => { r with scheduled := scheduledPower f e, dropped := e.dropped }
  | none => { r with scheduled := 0, dropped := 0 }

/-- R100: the bank is offered. -/
def offerBank (s : State) : State :=
  let f := (s.ss.snapshot.map (·.f)).getD s.fe.f
  let t := s.modPans (schedulePan f (s.ss.results.getD []))
  (t.modSs fun c => { c with stage := .ready, snapshot := none, cursors := none, results := none }).modPosts fun q =>
    { q with offers := q.offers + 1 }

/-- R99: the build is thrown away. -/
def dropBuild (s : State) : State :=
  (setStandby s (emptyBank s.fe.f)).modSs fun c => { c with snapshot := none, cursors := none, results := none }

/-- R99: the end of CHECK. R103, R104: while the discard of a halt or stop waits nothing is offered, START HOB taken meanwhile or not
(log 40). -/
def endOfCheck (s : State) : State :=
  if s.ss.stage ≠ .check then s
  else if s.fe.hob ≠ .running ∨ DiscardWaits s then (dropBuild s).modSs fun c => { c with stage := .idle }
  else if bankChecks s = false then startGather (dropBuild s)
  else if s.ss.rerun ∧ s.ss.restarts < 3 then startGather ((dropBuild s).modSs fun c => { c with restarts := c.restarts + 1 })
  else offerBank s

/-- R101: a swap notice. -/
def takeSwapNotice (s : State) : State :=
  if s.ss.stage ≠ .ready then s
  else if s.ss.rerun then startGather (s.modSs fun c => { c with restarts := 0 })
  else s.modSs fun c => { c with stage := .idle, restarts := 0 }

/-- R103: the discard. An offer that still waits is of a bank that it empties, and brings no swap (R114); a swap notice that still waits is of
a swap before the halt or stop, finds no stage READY and is ignored (R101; log 40). -/
def takeDiscard (s : State) : State :=
  ((s.modPans fun _ r => { r with scheduled := 0, dropped := 0 }).modSs fun _ =>
    ⟨emptyBank s.fe.f, emptyBank s.fe.f, .idle, false, 0, none, none, none⟩).modPosts fun q => { q with offers := 0, swaps := 0 }

/-- The Frame Engine's posts behind the last discard. -/
def behindDiscards (es : List SchedulerPost) : List SchedulerPost := (es.reverse.takeWhile (· ≠ .discard)).reverse

/-- R90: the return to READY finds the banks empty: a discard that still waits is taken before it. The requests in front of it find the hob
not RUNNING and are ignored (R92; log 45). -/
def finishDiscard (s : State) : State :=
  if DiscardWaits s then takeDiscard (s.modPosts fun q => { q with scheduler := behindDiscards q.scheduler }) else s

end Sys2Proof.Machine
end

