-- ==== Sys2Proof/Machine/FrameEngine.lean ====
section
/-! DEFINITION. The Frame Engine (spec/06_the_frame_engine.md): mains lock, slots and frames, emission, probing, the hob states, the
time base. -/

namespace Sys2Proof.Machine

/-! ### Energies (R110, R113) -/

/-- R108, R110, R116, R117: the emitted energies and every delivered field are cleared. -/
def clearEnergies (s : State) : State :=
  (s.modFe fun fe => { fe with emitted := Vector.replicate 8 0 }).modPans fun _ r => { r with delivered := 0 }

/-- R110, step 1: the frame in progress is cut. -/
def cutFrame (s : State) : State := (clearEnergies s).modFe fun fe => { fe with frameOpen := false }

/-- R108: F, Q and the nominal frequency are latched. -/
def latch (s : State) : State :=
  (cutFrame s).modFe fun fe =>
    { fe with f := s.ts.work.frameActive, q := s.ts.work.frameQuiet, freq := s.ts.work.nominalHz }

/-! ### Loss of lock and entry to LOCKED (R109, R110) -/

/-- R110: a loss of lock. -/
def loseLock (s : State) (cause : LossCause) : State :=
  let t := queueNotice (offNowAll (cutFrame s)) .mainsLost 0 cause.code s.fe.serial.toNat
  (postLoss t cause).modFe fun fe =>
    { fe with unlockTimer := if fe.hob = .running then some s.now else fe.unlockTimer, lastLoss := some s.now }

/-- R124: whole milliseconds since the last loss, at most 65535, or 0 without one. -/
def unlockedFor (s : State) : Nat :=
  match s.fe.lastLoss with
  | none => 0
  | some t => min ((s.now - t) / 1000) 65535

/-- R109, R111: the mains becomes LOCKED. -/
def enterLocked (s : State) : State :=
  queueNotice (s.modFe fun fe => { fe with lock := .locked, lockCount := 0, unlockTimer := none }) .mainsBack 0 s.fe.freq (unlockedFor s)

/-! ### Emission (R118) -/

/-- R118: what is kept so far in a slot. -/
structure Emission where
  kept : List Firing
  emitted : Vector Nat 8
  deriving DecidableEq, Repr

/-- R118: the tests of a firing. -/
def keeps (s : State) (e : Emission) (x : Firing) : Bool :=
  let ph := s.ts.work.phaseOf (coilBoard x.coil)
  s.boards[coilBoard x.coil].state == .online && !boardHeld s (coilBoard x.coil) &&
    s.coils[x.coil].occupancy == .member && s.coils[x.coil].owner == some x.pan &&
    s.pans[x.pan].pres.presence.standing && s.pans[x.pan].heat.state.heating && eligible s x.coil &&
    decide (e.emitted[x.pan] + x.setpoint ≤ s.pans[x.pan].alloc.g * s.fe.f) &&
    decide (setpoints (e.kept.filter fun y => s.ts.work.phaseOf (coilBoard y.coil) == ph) + x.setpoint ≤ s.ts.work.phaseLimit ph) &&
    decide (setpoints e.kept + x.setpoint ≤ s.ts.work.hobLimit)

/-- R118: a firing is kept or dropped. -/
def emitOne (s : State) (e : Emission) (x : Firing) : Emission :=
  if keeps s e x then ⟨e.kept ++ [x], e.emitted.set x.pan (e.emitted[x.pan] + x.setpoint)⟩ else e

/-- R118: the emission of an active slot; until the first swap every firing is dropped. -/
def emission (s : State) : Emission :=
  if s.fe.hob = .running ∧ s.fe.awaiting = false then (activeList s s.fe.slotIndex).foldl (emitOne s) ⟨[], s.fe.emitted⟩
  else ⟨[], s.fe.emitted⟩

/-! ### Probes (R120) -/

/-- R120: a coil may be probed. -/
def probeCandidate (s : State) (k : CoilId) : Bool := s.coils[k].occupancy != .absent && !s.coils[k].disabled

/-- R120: the probe selector of a leg. -/
def probeSelector (s : State) (l : LegId) : Option Selector :=
  if s.pu.legs[l].state = .ready ∧ s.boards[legBoard l].state = .online ∧ boardHeld s (legBoard l) = false then
    (four.map fun i => s.fe.probe[l] + i).find? fun sel => probeCandidate s (legCoil l sel)
  else none

/-- R120: the probe positions after a quiet slot start. -/
def probePositions (s : State) : Vector Selector 16 :=
  Vector.ofFn fun l =>
    match probeSelector s l with
    | some sel => sel + 1
    | none => s.fe.probe[l]

/-! ### Drive cells (R119) -/

/-- R112: the slot is active. -/
def activeSlot (s : State) : Bool := decide (s.fe.slotIndex < s.fe.f)

/-- R119: the slot kind of a board's drive cell. -/
def driveKind (s : State) (b : BoardId) : SlotKind :=
  if boardHeld s b then .idle else if activeSlot s then (if s.fe.hob = .running then .active else .idle) else .quiet

/-- R119: what a drive cell gives a leg. -/
def driveLeg (s : State) (kept : List Firing) (b : BoardId) (l : LocalLeg) : LegDrive :=
  match driveKind s b with
  | .idle => .none
  | .active =>
    match kept.find? fun x => coilLeg x.coil == legAt b l with
    | some x => .fire (coilSelector x.coil) x.setpoint x.pan
    | none => .none
  | .quiet =>
    match probeSelector s (legAt b l) with
    | some sel => .probe sel
    | none => .none

/-- R119: the drive cell of a board. -/
def driveCell (s : State) (kept : List Firing) (b : BoardId) : DriveCell :=
  ⟨s.fe.serial, driveKind s b, Vector.ofFn (driveLeg s kept b)⟩

/-! ### Slot starts (R112, R113) -/

/-- R113: a frame end. -/
def frameEnd (s : State) : State :=
  let t := s.modPans fun p r => { r with delivered := s.fe.emitted[p] / s.fe.f }
  (t.modFe fun fe => { fe with emitted := Vector.replicate 8 0 }).modPosts fun q =>
    { q with ptFrameEnds := q.ptFrameEnds ++ [s.fe.frameCount], puFrameEnds := q.puFrameEnds ++ [s.fe.frameCount] }

/-- R113: a pending swap is made. -/
def swapBanks (s : State) : State :=
  if s.fe.swapPending then
    (s.modFe fun fe =>
      { fe with activeBank := if fe.activeBank = .a then .b else .a, swapPending := false, awaiting := false }).modPosts fun q =>
        { q with swaps := q.swaps + 1 }
  else s

/-- R112, R113: slot 0 of a new frame. -/
def frameStart (s : State) : State :=
  swapBanks (s.modFe fun fe => { fe with frameOpen := true, slotIndex := 0, serial := fe.serial + 1, frameCount := fe.frameCount + 1 })

/-- R112: which slot begins. -/
def beginSlot (s : State) : State :=
  if s.fe.frameOpen = false then frameStart s
  else if s.fe.slotIndex + 1 < s.fe.f + s.fe.q then
    s.modFe fun fe => { fe with slotIndex := fe.slotIndex + 1, serial := fe.serial + 1 }
  else frameStart (frameEnd s)

/-- R118 to R120, R148: the slot is emitted: every ONLINE board is given its drive cell. In which order the boards are given theirs, and
so judge their ended slots, the rules leave open; the model goes in ascending board number (log 41). -/
def emitSlot (s : State) : State :=
  let e := if activeSlot s then emission s else ⟨[], s.fe.emitted⟩
  let t := s.modFe fun fe =>
    { fe with emitted := e.emitted, probe := if activeSlot s then fe.probe else probePositions s }
  (allBoards.filter fun b => s.boards[b].state == .online).foldl (fun t b => takeDrive t b (driveCell s e.kept b)) t

/-- R112: a slot start, taken only while the hub is READY. -/
def slotStart (s : State) : State := if s.sup.hub = .ready then emitSlot (beginSlot s) else s

/-! ### The zero-crossing line (R109) -/

/-- R109: the time since the last crossing taken puts this one in window. -/
def crossingInWindow (s : State) : Bool :=
  match s.fe.lastCrossing with
  | none => false
  | some t => inWindow s.fe.freq (s.now - t)

/-- R109: the lock state at a crossing. -/
def judgeCrossing (s : State) (good : Bool) : State :=
  match s.fe.lock with
  | .unlocked => s.modFe fun fe => { fe with lock := .locking, lockCount := 1 }
  | .locking =>
    if good then
      if s.fe.lockCount < 7 then s.modFe fun fe => { fe with lockCount := fe.lockCount + 1 } else slotStart (enterLocked s)
    else s.modFe fun fe => { fe with lockCount := 1 }
  | .locked =>
    if good then slotStart s
    else (loseLock s .outOfWindow).modFe fun fe => { fe with lock := .locking, lockCount := 1 }

/-- R109: a zero-crossing; it becomes the last crossing time whatever its outcome. -/
def crossing (s : State) (t : Time) : State :=
  judgeCrossing ((s.arrive t).modFe fun fe => { fe with lastCrossing := some (max s.now t) }) (crossingInWindow (s.arrive t))

/-- R109: the mains is silent. -/
def judgeSilence (s : State) : State :=
  match s.fe.lastCrossing with
  | none => s
  | some t =>
    if silent s.fe.freq (s.now - t) then
      match s.fe.lock with
      | .unlocked => s
      | .locking => s.modFe fun fe => { fe with lock := .unlocked, lockCount := 0 }
      | .locked => (loseLock s .noCrossing).modFe fun fe => { fe with lock := .unlocked, lockCount := 0 }
    else s

/-- R111: the unlock timer passes 2000 ms. -/
def judgeUnlock (s : State) : State :=
  match s.fe.unlockTimer with
  | none => s
  | some t => if 2000000 ≤ s.now - t then (postHaltCause s .mains).modFe fun fe => { fe with unlockTimer := none } else s

/-- R123: a whole second of the time base. -/
def second (s : State) : State :=
  (s.modFe fun fe => { fe with seconds := fe.seconds + 1 }).modPosts fun q =>
    { q with ptSeconds := q.ptSeconds + 1, hsSeconds := q.hsSeconds + 1 }

/-! ### Hob states (R114 to R117) -/

/-- R114: an offer. R103, R114: one made before a discard that still waits brings no swap, START HOB taken meanwhile or not (log 40). -/
def takeOffer (s : State) : State :=
  if s.fe.hob = .running ∧ ¬ DiscardWaits s then s.modFe fun fe => { fe with swapPending := true } else s

/-- R162: the Controller Port's silence timer follows the hob state. -/
def followHob (s : State) : State :=
  s.modCp fun cp => { cp with silence := if s.fe.hob = .running then some s.now else none }

/-- R87, R104: START HOB finds the halt or stop before it taken by the Heat Sequencer, and the recompute on the emptied list made where the
last one still lists pans. The rebuild requests that wait, that recompute's own and any other, find the hob not RUNNING and are ignored
(R92; log 49). -/
def finishStop (s : State) : State :=
  let t := finishHob s
  (if t.ba.figures.order = [] then t else recompute t).modPosts fun q => { q with rebuilds := 0 }

/-- R115: START HOB is judged. -/
def judgeStart (s : State) : State :=
  if s.fe.hob ≠ .stopped then endCheck s .notPermitted 0 1
  else if s.ts.service then endCheck s .notPermitted 0 2
  else if s.ts.valid = false then endCheck s .tableInvalid 0 3
  else if someBoardOnline s = false then endCheck s .notPermitted 0 4
  else
    let t := (latch (finishStop s)).modFe fun fe =>
      { fe with hob := .running, awaiting := true, unlockTimer := if fe.lock = .locked then fe.unlockTimer else some s.now }
    endGood (followHob (postScheduler (postHob t .start) .rebuild))

/-- R116, R117: the hob leaves RUNNING. -/
def leaveRunning (s : State) (hob : HobState) (post : HobPost) : State :=
  let t := s.modFe fun fe => { fe with hob := hob, unlockTimer := none, swapPending := false }
  followHob (postHob (postScheduler (clearEnergies (offNowAll t)) .discard) post)

/-- R116: STOP HOB is judged; the rule has no table of conditions, so the detail of its refusal is a free value (log 12). -/
def judgeStop (s : State) : State :=
  if s.fe.hob = .running then endGood (leaveRunning s .stopped .stop)
  else endCheck { s with draws := s.draws + 1 } .notPermitted 0 (Config.stopHobDetail s.draws)

/-- R117: a halt. -/
def takeHalt (s : State) (c : HaltCause) : State :=
  if s.fe.hob = .running then postHalted (leaveRunning s .halted .halt) c else s

/-- R117: a clear-halt claim. -/
def takeClearHalt (s : State) : State := if s.fe.hob = .halted then s.modFe fun fe => { fe with hob := .stopped } else s

end Sys2Proof.Machine
end

