-- ==== Sys2Proof/Machine/Formats.lean ====
section
/-! DEFINITION. The cells the hub sends (spec/11_cell_formats.md sections 11.2 to 11.7) and the reply cells of its orders. -/

namespace Sys2Proof.Machine

/-! ### Fields -/

/-- R178: a 16-bit field, most significant byte first. -/
def bytes16 (v : BitVec 16) : List Byte := [v.extractLsb' 8 8, v.extractLsb' 0 8]
/-- A 16-bit field of a number. -/
def field16 (n : Nat) : List Byte := bytes16 (BitVec.ofNat 16 n)
/-- A one-byte field of a number. -/
def byte (n : Nat) : Byte := BitVec.ofNat 8 n
/-- R178: a power field, rounded down to 10 W. -/
def power16 (w : Nat) : List Byte := field16 (w / 10)
/-- R178: 0xFF means none or absent. -/
def orNone (n : Option Nat) : Byte := (n.map byte).getD 0xFF#8
/-- A flag as a bit of a byte. -/
def flag (b : Bool) (i : Nat) : Byte := if b then 1#8 <<< i else 0
/-- R178: a heatsink temperature is carried as its value plus 40. -/
def heatsinkByte (t : Int) : Byte := BitVec.ofInt 8 (t + 40)

/-! ### Codes (section 11.7) -/

/-- Section 11.7. -/
def HubState.code : HubState → Nat
  | .dormant => 0
  | .recalling => 1
  | .ready => 2
  | .supplyLow => 3
/-- Section 11.7. -/
def HobState.code : HobState → Nat
  | .stopped => 0
  | .running => 1
  | .halted => 2
/-- Section 11.7. -/
def LockState.code : LockState → Nat
  | .unlocked => 0
  | .locking => 1
  | .locked => 2
/-- Section 11.7. -/
def BoardState.code : BoardState → Nat
  | .unconfigured => 0
  | .waiting => 1
  | .online => 2
  | .offline => 3
  | .failed => 4
/-- Section 11.7. -/
def LegState.code : LegState → Nat
  | .ready => 0
  | .tripped => 1
  | .locked => 2
  | .offline => 3
/-- Section 11.7. -/
def Occupancy.code : Occupancy → Nat
  | .absent => 0
  | .vacant => 1
  | .sensed => 2
  | .member => 3
/-- Section 11.7. -/
def RangeMode.code : RangeMode → Nat
  | .fine => 0
  | .coarse => 1
/-- Section 11.7. -/
def Material.code : Material → Nat
  | .none => 0
  | .ferritic => 1
  | .layered => 2
  | .unsuitable => 3
/-- Section 11.7. -/
def Presence.code : Presence → Nat
  | .free => 0
  | .forming => 1
  | .placed => 2
  | .moving => 3
  | .lifted => 4
/-- Section 11.7. -/
def HeatState.code : HeatState → Nat
  | .idle => 0
  | .level => 1
  | .program => 2
  | .paused => 3
  | .suspended => 4
  | .stopped => 5
/-- Section 11.5, READ PAN 3. -/
def priorCode : Option PriorMode → Nat
  | none => 0
  | some .level => 1
  | some .program => 2
/-- Section 11.7. -/
def SenseKey.code : SenseKey → Nat
  | .noSense => 0
  | .illegalOrder => 1
  | .badField => 2
  | .staleHandle => 3
  | .notPermitted => 4
  | .tableInvalid => 5
  | .dataOverrun => 6
  | .aborted => 7
/-- Section 11.2. -/
def Condition.code : Condition → Nat
  | .good => 0
  | .check => 1
  | .busy => 2
  | .notReady => 3
/-- Section 11.4. -/
def EndAction.code : EndAction → Nat
  | .next => 0
  | .hold => 1
  | .off => 2
/-- Section 11.6. -/
def SlotKind.code : SlotKind → Nat
  | .idle => 0
  | .active => 1
  | .quiet => 2
/-- Section 11.4. -/
def phaseCode : Phase → Nat
  | .l1 => 1
  | .l2 => 2

/-! ### Cells to the appliance controller (section 11.2) -/

/-- Section 11.2: STATUS. -/
def statusCell (c : StatusCell) : Cell := mkCell 0x11 c.tag (payload [byte c.condition.code, byte c.key.code])
/-- Section 11.2: CREDIT. -/
def creditCell (tag : Byte) (n : Nat) : Cell := mkCell 0x12 tag (payload [byte n])
/-- Section 11.2: DATA. -/
def dataCell (tag : Byte) (p : Payload) : Cell := mkCell 0x13 tag p
/-- Section 11.2: NOTICE. -/
def noticeCell (n : Notice) : Cell :=
  mkCell 0x14 n.subject (payload
    (byte n.kind.code :: flag n.gap 0 :: (bytes16 n.first ++ bytes16 n.second ++ bytes16 n.stamp)))

/-! ### Cells to the boards (section 11.6) -/

/-- Section 11.6: OFF NOW. -/
def offNowCell (legs : Vector Bool 4) : Cell :=
  mkCell 0x22 0 (payload [flag legs[0] 0 ||| flag legs[1] 1 ||| flag legs[2] 2 ||| flag legs[3] 3])
/-- Section 11.6: IDENT REQUEST. -/
def identRequestCell : Cell := mkCell 0x23 0 (payload [])

/-- Section 11.6: the two bytes of a leg in a DRIVE cell. The bits of an absent selector and of an absent sync group have no value in the
spec: free values (log 9). A leg with no firing, in an IDLE or a QUIET cell too, has setpoint 0 and no sync group (log 48). -/
def legBytes (draw : Nat) (l : LocalLeg) (d : LegDrive) : List Byte :=
  let open8 := Config.absentByte draw (3 + 2 * l.val)
  match d with
  | .none => [(open8 &&& 0xCE#8) ||| 0x30#8, 0]
  | .fire sel sp sync =>
    [(byte sel.val <<< 6) ||| (byte sync.val <<< 1) ||| (byte (sp / 10 / 256) &&& 1#8), byte (sp / 10)]
  | .probe sel => [(byte sel.val <<< 6) ||| (open8 &&& 0x0E#8) ||| 0x10#8, 0]

/-- Section 11.6: DRIVE. -/
def driveCellBytes (draw : Nat) (d : DriveCell) : Cell :=
  mkCell 0x21 d.serial (payload (byte d.kind.code :: four.flatMap fun l => legBytes draw l d.legs[l]))

/-! ### Entries (section 11.4) -/

/-- Section 11.4: a table entry in a DATA cell. The coil-index places of a T2 entry beyond its count have no value in the spec: free
values (log 9). -/
def entryPayload (draw : Nat) (w : Tables) (t : Fin 7) (i : Nat) : Payload :=
  match t with
  | 0 => payload (match w.t0[i]? with
    | some e => [flag e.configured 0, byte (phaseCode e.phase)]
    | none => [])
  | 1 => payload (match w.t1[i]? with
    | some e => flag e.present 0 :: (field16 e.x ++ field16 e.y ++ [byte e.cls])
    | none => [])
  | 2 => payload (match w.t2[i]? with
    | some e => byte e.length :: (e.map (fun k => byte k) ++ (List.range (11 - e.length)).map fun j => Config.absentByte draw (1000 + 16 * i + j))
    | none => [])
  | 3 => payload (match w.t3[i]? with
    | some e => power16 e.rated ++ field16 e.empty ++ field16 e.full ++ [byte e.detect, byte e.release, byte e.fire]
    | none => [])
  | 4 => payload (match w.t4[i]? with
    | some e => power16 e.target ++ power16 e.floor ++ power16 e.ceiling
    | none => [])
  | 5 => payload (match w.t5[i]? with
    | some e => [byte e]
    | none => [])
  | 6 => payload (match w.t6[i]? with
    | some e => if isPowerParameter i then power16 e else field16 e
    | none => [])

/-! ### Replies (section 11.5) -/

/-- R166: IDENTIFY HUB 1. -/
def identify1 (s : State) : Payload :=
  payload (field16 Config.partCode ++
    [byte Config.dieRevision, byte s.sup.hub.code, byte s.fe.hob.code, flag s.ts.service 0 ||| flag s.ts.valid 1,
      (List.finRange 7).foldl (fun v t => v ||| flag s.ts.marks[t] t.val) 0, byte s.fe.lock.code, byte s.fe.f, byte s.fe.q,
      byte s.fe.freq])

/-- R166: the five bytes of a board. -/
def identifyBoard (s : State) (b : BoardId) : List Byte :=
  [byte s.boards[b].state.code, heatsinkByte s.boards[b].heatsink, flag s.ba.derating[b].manual.isSome 0,
    byte s.ba.derating[b].bucket, byte (derate s b)]

/-- R166: the reply of IDENTIFY HUB. -/
def identifyReply (s : State) : List Payload :=
  [identify1 s, payload (identifyBoard s 0 ++ identifyBoard s 1), payload (identifyBoard s 2 ++ identifyBoard s 3)]

/-- R161: the agreed window. -/
def agreedWindow (proposal : Byte) : Nat := max 1 (min proposal.toNat 4)
/-- R161: the agreed timeout. -/
def agreedTimeout (proposal : BitVec 16) : Nat := min (max proposal.toNat 50) 2000 / 10 * 10

/-- R161: the reply of SET PACE. -/
def paceReply (window timeout : Nat) : List Payload := [payload (byte window :: field16 timeout)]

/-- R157: the reply of FETCH SENSE. -/
def senseReply (r : SenseRecord) : List Payload := [payload (byte r.key.code :: (field16 r.field ++ [byte r.detail]))]

/-- R167: the reply of READ COIL. -/
def coilReply (s : State) (k : CoilId) : List Payload :=
  let r := s.coils[k]
  [payload
    [byte k, byte r.occupancy.code, orNone (r.owner.map (·.val)), byte r.coverage, byte r.range.code, byte r.confirm,
      byte r.material.code, flag r.hot 0 ||| flag r.disabled 1 ||| flag r.unobserved 2, byte r.temp,
      byte s.pu.legs[coilLeg k].state.code]]

/-- A centroid coordinate pair as reported (R171). -/
def orientedBytes (s : State) (x y : Nat) : List Byte := field16 (orient s.ts.work x y).1 ++ field16 (orient s.ts.work x y).2

/-- R167: READ PAN 1. -/
def pan1 (s : State) (p : PanSlot) : Payload :=
  let r := s.pans[p].pres
  payload ([s.handleOf p, byte r.presence.code, byte r.material.code, byte r.members.length,
    (byte r.settle <<< 4) ||| flag r.changed 0, byte (r.grace.getD 0)] ++ orientedBytes s r.x r.y ++ field16 r.area)

/-- R167: READ PAN 2. -/
def pan2 (s : State) (p : PanSlot) : Payload := Vector.ofFn fun i => orNone (s.pans[p].pres.members[i.val]?.map (·.val))

/-- R167: READ PAN 3; of an absent signature the values are free (log 9). -/
def pan3 (s : State) (p : PanSlot) : Payload :=
  let h := s.pans[p].heat
  payload ((match s.pans[p].pres.signature with
    | some g => 1#8 :: (orientedBytes s g.x g.y ++ field16 g.area ++ [byte g.material.code])
    | none => 0#8 :: (List.range 7).map fun i => Config.absentByte s.draws (300 + i)) ++
    [byte h.state.code, byte (priorCode h.prior), byte h.level, byte h.position])

/-- R167: READ PAN 4. -/
def pan4 (s : State) (p : PanSlot) : Payload :=
  let h := s.pans[p].heat
  let a := s.pans[p].alloc
  payload ([(byte a.effective <<< 4) ||| flag h.timed 0] ++ field16 h.remaining ++
    [orNone (if s.hs.requests.contains p then some (s.hs.requests.idxOf p) else none)] ++ power16 a.k1 ++ power16 a.k2 ++
    power16 a.d ++ power16 a.g)

/-- R167: READ PAN 5; of an absent basis and an absent lifted-at the values are free (log 9). -/
def pan5 (s : State) (p : PanSlot) : Payload :=
  let r := s.pans[p]
  payload ((match r.alloc.basis with
    | some b => [1#8, (byte b.1 <<< 4) ||| byte b.2]
    | none => [0#8, Config.absentByte s.draws 501]) ++ power16 r.scheduled ++ field16 r.dropped ++ power16 r.delivered ++
    (match r.pres.liftedAt with
      | some t => bytes16 t
      | none => [Config.absentByte s.draws 508, Config.absentByte s.draws 509]))

/-- R167: a step of the program store. -/
def stepPayload (i : Nat) (st : ProgramStep) : Payload :=
  payload (byte st.level :: (field16 st.duration ++ [byte st.action.code, byte i]))

/-- R167: the reply of READ PAN. -/
def panReply (s : State) (p : PanSlot) : List Payload :=
  [pan1 s p, pan2 s p, pan3 s p, pan4 s p, pan5 s p] ++ s.pans[p].program.mapIdx stepPayload

/-- R137: the fault kinds whose value is a power, carried in 10 W (log 21). -/
def FaultKind.valueIsPower : FaultKind → Bool
  | .boardTrip | .overshoot | .noReport => true
  | .coilHot | .boardLost | .mainsLost | .silence | .mains | .supply | .noBoards | .legLock => false

/-- R140: READ FAULT 1; of an empty record the frame count, slot index and value are free (log 9). -/
def fault1 (s : State) : Payload :=
  payload (match s.pu.firstFault with
    | some r =>
      bytes16 (BitVec.ofNat 4 r.kind.code ++ 0#1 ++ s.pu.traps) ++
        [(byte ((r.board.map (·.val)).getD 7) <<< 5) ||| byte ((r.leg.map (·.val)).getD 31), orNone (r.coil.map (·.val)),
          (r.handle.map fun h => handleByte h.1 h.2).getD 0xFF#8] ++
        bytes16 r.frame ++ [byte r.slot] ++ (if r.kind.valueIsPower then power16 r.value else field16 r.value) ++
        bytes16 s.fe.frameCount
    | none =>
      bytes16 (0#4 ++ 0#1 ++ s.pu.traps) ++ [0xFF#8, 0xFF#8, 0xFF#8] ++
        ((List.range 5).map fun i => Config.absentByte s.draws (105 + i)) ++ bytes16 s.fe.frameCount)

/-- R140: the three bytes of a leg; of a closed window the offset is free (log 9). -/
def faultLeg (s : State) (l : LegId) : List Byte :=
  let r := s.pu.legs[l]
  let first := (byte r.state.code <<< 6) ||| byte (r.cooldown.getD 0)
  match r.windowStart with
  | some w =>
    let off := min (s.fe.frameCount - w).toNat 1023
    [first, (byte r.trips <<< 6) ||| 0x20#8 ||| byte (off / 256), byte off]
  | none => [first, (byte r.trips <<< 6) ||| (Config.absentByte s.draws (200 + 2 * l.val) &&& 0x03#8), Config.absentByte s.draws (201 + 2 * l.val)]

/-- R140: READ FAULT 2 to 5. -/
def faultLegs (s : State) (b : BoardId) : Payload := payload ((boardLegs b).flatMap (faultLeg s))

/-- R140: the reply of READ FAULT. -/
def faultReply (s : State) : List Payload := fault1 s :: allBoards.map (faultLegs s)

/-- R170: the reply of READ TABLE: `count` entries from the start index, wrapping from the last to entry 0. -/
def tableReply (s : State) (t : Fin 7) (start count : Nat) : List Payload :=
  (List.range count).map fun i => entryPayload s.draws s.ts.work t ((start + i) % (lastEntry t + 1))

end Sys2Proof.Machine
end

