-- ==== Sys2Proof/Machine/PanTracker.lean ====
section
/-! DEFINITION. The Pan Tracker (spec/02_the_pan_table.md): grouping, the orphan list, releases and splits, settling, lift, grace and
return, and its part in a change of the structural-valid flag. -/

namespace Sys2Proof.Machine

/-! ### Figures of a pan (R24) -/

/-- R24: the sum of the members' coverage. -/
def areaOf (s : State) (ms : List CoilId) : Nat := (ms.map fun k => s.coils[k].coverage).sum

/-- R24: a centroid coordinate. -/
def centroidOf (s : State) (ms : List CoilId) (coord : T1Entry → Nat) : Nat :=
  if areaOf s ms = 0 then (ms.map fun k => coord s.ts.work.t1[k]).sum / ms.length
  else (ms.map fun k => s.coils[k].coverage * coord s.ts.work.t1[k]).sum / areaOf s ms

/-- R24: how many members hold a material. -/
def holders (s : State) (ms : List CoilId) (m : Material) : Nat := (ms.filter fun k => s.coils[k].material == m).length

/-- R24: the material held by the most members, in the order UNSUITABLE, LAYERED, FERRITIC, NONE among equals. -/
def materialOfPan (s : State) (ms : List CoilId) : Material :=
  [Material.layered, .ferritic, .none].foldl (fun best m => if holders s ms best < holders s ms m then m else best) .unsuitable

/-- R24: the centroid, area and material of a pan with members are computed; a new material of a PLACED or MOVING pan is posted. -/
def refigure (s : State) (p : PanSlot) : State :=
  let ms := s.pans[p].pres.members
  if ms = [] then s
  else
    let m := materialOfPan s ms
    let t := s.modPres p fun r =>
      { r with x := centroidOf s ms (·.x), y := centroidOf s ms (·.y), area := areaOf s ms, material := m }
    if s.pans[p].pres.presence.standing ∧ s.pans[p].pres.material ≠ m then postPan t (.material p m) else t

/-! ### The examination queue and the orphan list (R26, R31, R32) -/

/-- R26: coils enter the examination queue at its tail, each unless already queued. -/
def enqueue (s : State) (ks : List CoilId) : State :=
  s.modPt fun l => { l with examQueue := ks.foldl (fun q k => if q.contains k then q else q ++ [k]) l.examQueue }

/-- R26: the SENSED unowned neighbours of a coil enter the queue. -/
def enqueueAround (s : State) (k : CoilId) : State := enqueue s ((neighbours s k).filter (waiting s))

/-- R21: a coil's place in an ascending list. -/
def insertCoil (k : CoilId) : List CoilId → List CoilId
  | [] => [k]
  | j :: rest => if k < j then k :: j :: rest else if k = j then j :: rest else j :: insertCoil k rest

/-- R32: a coil leaves the orphan list. -/
def leaveOrphans (s : State) (k : CoilId) : State := s.modPt fun l => { l with orphans := l.orphans.filter (· ≠ k) }
/-- R26: a coil is taken out of the examination queue. -/
def leaveQueue (s : State) (k : CoilId) : State := s.modPt fun l => { l with examQueue := l.examQueue.filter (· ≠ k) }

/-- R31: a coil that found no pan slot; the first of an episode queues TABLE FULL. -/
def addOrphan (s : State) (k : CoilId) : State :=
  let t := s.modPt fun l => { l with orphans := insertCoil k l.orphans }
  if s.pt.orphans = [] then queueNotice t .tableFull (BitVec.ofNat 8 k.val) 0 0 else t

/-! ### Founding, joining, eviction (R27 to R30, R46) -/

/-- R28: the lowest-numbered FREE pan slot. -/
def firstFree (s : State) : Option PanSlot := allPans.find? fun p => s.pans[p].pres.presence == .free

/-- R46: a LIFTED record is retired. -/
def retire (s : State) (p : PanSlot) (reason : Reason) : State :=
  let t := (s.modPres p fun r => .freed r.gen).modPt fun l => { l with liftOrder := l.liftOrder.filter (· ≠ p) }
  queueNotice (postPan t (.retirement p)) .panRetired (s.handleOf p) reason.code 0

/-- R28, R72: the FREE slot a pan is founded in: its context IDLE, its store empty, its allocation 0 without a basis; where the recompute on
the change that brought that about still waits, it is made first (log 55). -/
def readySlot (s : State) (p : PanSlot) : State :=
  if (clearContext s p).pans[p].alloc = .zero then clearContext s p else recompute (clearContext s p)

/-- R28: a coil founds a pan in a slot. -/
def foundAt (s : State) (k : CoilId) (p : PanSlot) : State :=
  let t := (joinClaim (readySlot s p) k p).modPres p fun r =>
    { PresencePart.freed (r.gen + 1) with presence := .forming, members := [k], changed := true }
  enqueueAround (refigure t p) k

/-- R28, R29, R31: a coil must found a pan. -/
def found (s : State) (k : CoilId) : State :=
  match firstFree s with
  | some p => foundAt s k p
  | none =>
    match s.pt.liftOrder with
    | p :: _ => foundAt (retire s p .evicted) k p
    | [] => addOrphan s k

/-- R30: a coil joins a pan. -/
def joinPan (s : State) (k : CoilId) (p : PanSlot) : State :=
  let t := (joinClaim s k p).modPres p fun r =>
    { r with
      members := insertCoil k r.members
      settle := 0
      changed := true
      presence := if r.presence = .placed then .moving else r.presence }
  let u := refigure t p
  enqueueAround (if s.pans[p].pres.presence.standing then postMembership u p else u) k

/-- R27: how many neighbours of a coil are members of a pan. -/
def neighbourCount (s : State) (k : CoilId) (p : PanSlot) : Nat :=
  ((neighbours s k).filter fun j => s.coils[j].occupancy == .member && s.coils[j].owner == some p).length

/-- R27: the highest count over the pans. -/
def bestCount (s : State) (k : CoilId) : Nat := allPans.foldl (fun n p => max n (neighbourCount s k p)) 0

/-- R27: the pans that share the highest count. -/
def leaders (s : State) (k : CoilId) : List PanSlot := allPans.filter fun p => neighbourCount s k p == bestCount s k

/-- R27: a coil is examined. -/
def examine (s : State) (k : CoilId) : State :=
  if waiting s k = false then s
  else if bestCount s k = 0 then
    if s.pt.orphans.contains k then s else found s k
  else
    match leaders s k with
    | [p] => if s.pans[p].pres.members.length < 12 then joinPan (leaveOrphans s k) k p else leaveOrphans s k
    | _ => leaveOrphans s k

/-- R26: the queue is taken from its head until it is empty; at most `n` coils. -/
def drain : Nat → State → State
  | 0, s => s
  | n + 1, s =>
    match s.pt.examQueue with
    | [] => s
    | k :: rest => drain n (examine (s.modPt fun l => { l with examQueue := rest }) k)

/-- R26: the examination queue is emptied. Each coil gains an owner at most once and then brings in at most 64 coils (log 25). -/
def emptyQueue (s : State) : State := drain 4225 s

/-- R33: orphans are served while a FREE slot remains; at most `n`. -/
def serve : Nat → State → State
  | 0, s => s
  | n + 1, s =>
    match s.pt.orphans, firstFree s with
    | k :: _, some _ => serve n (emptyQueue (examine (leaveOrphans s k) k))
    | _, _ => s

/-- R33: orphan service; each service takes one coil from the list (log 25). -/
def serveOrphans (s : State) : State := serve 64 s

/-! ### Releases and splits (R34 to R37) -/

/-- R36: the members of `ms` in or next to `seen`. -/
def spread (s : State) (ms seen : List CoilId) : List CoilId := ms.filter fun j => seen.contains j || seen.any (adjacent s j)

/-- R36: the connected component of a member. -/
def component (s : State) (ms : List CoilId) (k : CoilId) : List CoilId := (spread s ms)^[ms.length] [k]

/-- R36: the connected components of a member list, by lowest coil. -/
def components (s : State) : Nat → List CoilId → List (List CoilId)
  | 0, _ => []
  | _ + 1, [] => []
  | n + 1, k :: rest =>
    component s (k :: rest) k :: components s n ((k :: rest).filter fun j => !(component s (k :: rest) k).contains j)

/-- R36: the component with the largest sum of coverage; among equals the one with the lowest coil. -/
def keptComponent (s : State) : List (List CoilId) → List CoilId
  | [] => []
  | c :: rest => rest.foldl (fun best d => if areaOf s best < areaOf s d then d else best) c

/-- R44: a PLACED or MOVING pan is lifted; a grace of 0 retires it at once. -/
def liftPan (s : State) (p : PanSlot) : State :=
  let t := (s.modPres p fun r =>
    { r with presence := .lifted, liftedAt := some s.fe.seconds, grace := some s.ts.work.grace }).modPt
      fun l => { l with liftOrder := l.liftOrder ++ [p] }
  let u := postMembership (postPan (queueNotice t .panLifted (s.handleOf p) s.ts.work.grace 0) (.lift p)) p
  if s.ts.work.grace = 0 then retire u p .grace else u

/-- R35: a pan loses its last member. -/
def endPresence (s : State) (p : PanSlot) : State :=
  match s.pans[p].pres.presence with
  | .forming => s.modPres p fun r => .freed r.gen
  | .placed | .moving => liftPan s p
  | .free | .lifted => s

/-- R36, R37: a pan that keeps members after a release keeps one component and sheds the others. -/
def splitCheck (s : State) (p : PanSlot) (released : CoilId) : State :=
  let ms := s.pans[p].pres.members
  let kept := keptComponent s (components s 12 ms)
  let shed := ms.filter fun k => !kept.contains k
  let standing := s.pans[p].pres.presence.standing
  let t := refigure (shed.foldl unownClaim (s.modPres p fun r =>
    { r with
      members := kept
      settle := 0
      changed := true
      presence := if r.presence = .placed then .moving else r.presence })) p
  let u := if standing then postMembership t p else t
  let v := if standing ∧ shed ≠ [] then queueNotice u .panSplit (s.handleOf p) shed.length kept.length else u
  let around := allCoils.filter fun j => waiting v j && kept.any fun k => (neighbours v k).contains j
  shed.foldl enqueueAround (enqueue (enqueueAround (enqueue v shed) released) around)

/-- R11, R35 to R37: a member leaves its pan; the examinations and the orphan service that follow are made by the caller. -/
def dropMember (s : State) (k : CoilId) (p : PanSlot) : State :=
  let t := (vacate s k).modPres p fun r => { r with members := r.members.filter (· ≠ k) }
  if t.pans[p].pres.members = [] then enqueueAround (endPresence t p) k else splitCheck t p k

/-- R33: the pan slots that are FREE. -/
def freeCount (s : State) : Nat := (allPans.filter fun p => s.pans[p].pres.presence == .free).length

/-- R11: a member release, with its examinations and, where a slot became FREE, the orphan service. -/
def releaseMember (s : State) (k : CoilId) (p : PanSlot) : State :=
  if freeCount s < freeCount (dropMember s k p) then serveOrphans (emptyQueue (dropMember s k p)) else emptyQueue (dropMember s k p)

/-- R34: a coil that is VACANT or ABSENT is withdrawn from the orphan list and the queue. -/
def withdraw (s : State) (k : CoilId) : State :=
  if s.coils[k].occupancy = .vacant ∨ s.coils[k].occupancy = .absent then leaveQueue (leaveOrphans s k) k else s

/-- R34: the release of a SENSED coil is taken. -/
def takeSensedRelease (s : State) (k : CoilId) : State := emptyQueue (enqueueAround (withdraw s k) k)

/-- R26, R39: a becoming-SENSED is taken; the coil is examined if it still waits. -/
def takeBecameSensed (s : State) (k : CoilId) : State := emptyQueue (enqueueAround (enqueue s [k]) k)

/-- R11: the step that the Coil Monitor and the Pan Tracker take together. A coil that a split has unowned since is released as R10
releases a SENSED coil, if its coverage still lies below RELEASE; one that is VACANT or ABSENT by now is not released (log 15). -/
def takeMemberRelease (s : State) (k : CoilId) (m : Material) (firing : Bool) : State :=
  match s.coils[k].occupancy, s.coils[k].owner with
  | .member, some p => if firing then postRelease (releaseMember s k p) k else releaseMember s k p
  | .sensed, _ =>
    if (classEntry s k).release ≤ s.coils[k].coverage then s
    else if firing then postRelease (postCoilEvent (vacate s k) (.released k m)) k
    else postCoilEvent (vacate s k) (.released k m)
  | _, _ => s

/-! ### Settling and return (R40 to R43, R47, R48) -/

/-- R43: the pan becomes PLACED with its settled signature. -/
def place (s : State) (p : PanSlot) : State :=
  s.modPres p fun r => { r with presence := .placed, signature := some ⟨r.x, r.y, r.area, r.material⟩ }

/-- The difference of two numbers, without sign. -/
def gap (a b : Nat) : Nat := (a - b) + (b - a)

/-- R47: a LIFTED record matches a settling pan. -/
def returnMatches (t : Tables) (lifted pan : PresencePart) : Bool :=
  match lifted.signature with
  | none => false
  | some g =>
    g.material == pan.material && decide (100 * gap g.area pan.area ≤ t.areaTolerance * g.area) &&
      decide (max (gap g.x pan.x) (gap g.y pan.y) ≤ t.returnRadius)

/-- R48: the matching record latest in the lift order. -/
def returnWinner (s : State) (p : PanSlot) : Option PanSlot :=
  (s.pt.liftOrder.filter fun w => returnMatches s.ts.work s.pans[w].pres s.pans[p].pres).getLast?

/-- R48: the lifted record takes up the settling pan. -/
def returnPan (s : State) (w p : PanSlot) : State :=
  let pan := s.pans[p].pres
  let t := pan.members.foldl (fun s k => joinClaim s k w) s
  let t := t.modPres w fun r =>
    { r with
      presence := .placed
      members := pan.members
      settle := pan.settle
      changed := false
      x := pan.x
      y := pan.y
      area := pan.area
      material := pan.material
      signature := some ⟨pan.x, pan.y, pan.area, pan.material⟩
      liftedAt := none
      grace := none }
  let t := t.modPt fun l => { l with liftOrder := l.liftOrder.filter (· ≠ w) }
  let t := t.modPres p fun r => .freed r.gen
  let t := postMembership (postPan (noticeCentroid t .panReturned w) (.back w)) w
  serveOrphans (emptyQueue (pan.members.foldl enqueueAround t))

/-- R41, R42: a pan settles. -/
def settle (s : State) (p : PanSlot) : State :=
  if s.pans[p].pres.presence = .moving then noticeCentroid (place s p) .panMoved p
  else
    match returnWinner s p with
    | some w => returnPan s w p
    | none => postMembership (noticeCentroid (place s p) .panPlaced p) p

/-- R40: a FORMING or MOVING pan at a frame-end. -/
def settleCount (s : State) (p : PanSlot) : State :=
  let r := s.pans[p].pres
  if r.presence = .forming ∨ r.presence = .moving then
    if r.changed then s.modPres p fun r => { r with changed := false }
    else
      let t := s.modPres p fun r => { r with settle := r.settle + 1 }
      if s.ts.work.settleFrames ≤ r.settle + 1 then settle t p else t
  else s

/-- R40: a frame-end event. -/
def panFrameEnd (s : State) : State := allPans.foldl settleCount (allPans.foldl refigure s)

/-! ### Grace (R45, R46) -/

/-- R45: one second of grace of a record. -/
def graceTick (r : PresencePart) : PresencePart :=
  if r.presence = .lifted then { r with grace := r.grace.map (· - 1) } else r

/-- R45: a LIFTED record whose grace remaining is 0. -/
def graceOver (s : State) (p : PanSlot) : Bool := s.pans[p].pres.presence == .lifted && s.pans[p].pres.grace == some 0

/-- R45: a one-second event; the records whose grace reached 0 are retired as its tail (log 3). -/
def panSecond (s : State) : State :=
  let t := s.modPans fun _ r => { r with pres := graceTick r.pres }
  t.modPt fun l => { l with graceDue := allPans.filter (graceOver t) }

/-- R46: the record at the head of the tail is retired with reason GRACE, with orphan service. -/
def expireGrace (s : State) : State :=
  match s.pt.graceDue with
  | [] => s
  | p :: rest =>
    let t := s.modPt fun l => { l with graceDue := rest }
    if graceOver s p then serveOrphans (retire t p .grace) else t

/-! ### What waits for the Pan Tracker (R11, R20) -/

/-- R20: a coil-change event is taken. -/
def takeCoilEvent (s : State) : CoilEvent → State
  | .becameSensed k _ => takeBecameSensed s k
  | .released k _ => takeSensedRelease s k
  | .materialChanged _ (some p) _ => refigure s p
  | .materialChanged _ none _ => s
  | .memberRelease k _ m firing _ _ => takeMemberRelease s k m firing

/-- R20: the first coil-change event is taken. -/
def takeNextCoilEvent (s : State) : State :=
  match s.posts.coilEvents with
  | [] => s
  | e :: _ => takeCoilEvent (popCoil s) e

/-- R40: the first frame-end is taken. -/
def takeNextFrameEnd (s : State) : State :=
  match s.posts.ptFrameEnds with
  | [] => s
  | _ :: _ => panFrameEnd (popFrameEnd s)

/-- R45: a one-second event is taken. -/
def takeNextSecond (s : State) : State := if s.posts.ptSeconds = 0 then s else panSecond (popSecond s)

/-- R45: a one-second event is taken with its tail. -/
def takeWholeSecond (s : State) : State := expireGrace^[(takeNextSecond s).pt.graceDue.length] (takeNextSecond s)

/-- R11, R20: everything posted to the Pan Tracker is taken: the frame-ends, the one-second events, then the coil-change events in their
order, a release that a waiting member release turns into (log 15) among them (log 56). -/
def finishTracker (s : State) : State :=
  let s := takeNextFrameEnd^[s.posts.ptFrameEnds.length] s
  let s := takeWholeSecond^[s.posts.ptSeconds] s
  takeNextCoilEvent^[2 * s.posts.coilEvents.length] s

/-! ### Changes of the structural-valid flag (R1, R39) -/

/-- R1: the structural-valid flag's becoming `valid`, with these tables, releases a member. -/
def releasesMember (s : State) (work : Tables) (valid : Bool) : Bool :=
  allCoils.any fun k => s.coils[k].occupancy == .member && !(valid && work.t1[k].present)

/-- R11, R20: a release caused by R1 is taken when the Pan Tracker has taken every event posted to it before (log 56). -/
def finishReleases (s : State) (work : Tables) (valid : Bool) : State := if releasesMember s work valid then finishTracker s else s

/-- R1: the coil loses its presence. -/
def losesPresence (s : State) (valid : Bool) (k : CoilId) : Bool :=
  s.coils[k].occupancy != .absent && !(valid && s.ts.work.t1[k].present)

/-- R1, R39: a member that loses its presence is released. -/
def forceRelease (s : State) (k : CoilId) : State :=
  match s.coils[k].occupancy, s.coils[k].owner with
  | .member, some p => dropMember s k p
  | _, _ => s

/-- R1: an ABSENT coil that T1 marks present becomes VACANT with reset values. -/
def addCoil (s : State) (k : CoilId) : State :=
  if s.coils[k].occupancy = .absent ∧ s.ts.work.t1[k].present then
    s.modCoil k fun _ => { CoilRecord.reset with occupancy := .vacant }
  else s

/-- R1, R32, R39: the Coil Monitor and the Pan Tracker at an event that sets or clears the structural-valid flag. -/
def takePresence (s : State) (valid : Bool) : State :=
  let lost := allCoils.filter (losesPresence s valid)
  let t := lost.foldl forceRelease s
  let t := lost.foldl (fun s k => leaveQueue (leaveOrphans (removeCoil s k) k) k) t
  let t := if valid then allCoils.foldl addCoil t else t
  let t := t.modPt fun l => { l with orphans := l.orphans.filter fun k => t.coils[k].occupancy == .sensed }
  serveOrphans (emptyQueue t)

end Sys2Proof.Machine
end

