-- ==== Sys2Proof/Machine/TableStore.lean ====
section
/-! DEFINITION. The Table Store (spec/10_tables_stored_settings_and_start_up.md sections 10.1 to 10.5): writes and reads, service mode,
commit and recall. -/

namespace Sys2Proof.Machine

/-- A table number of an order cell. -/
def tableOf (b : Byte) : Option (Fin 7) := if h : b.toNat < 7 then some ⟨b.toNat, h⟩ else none

/-! ### WRITE TABLE and READ TABLE (R169, R170) -/

/-- R169: WRITE TABLE is judged. -/
def judgeWrite (s : State) (table start count : Byte) : State :=
  match tableOf table with
  | none => endCheck s .badField 1 0
  | some t =>
    if lastEntry t < start.toNat ∨ start.toNat < firstWritable t then endCheck s .badField 2 0
    else if count.toNat = 0 ∨ writableCount t < count.toNat then endCheck s .badField 3 0
    else if structural t ∧ s.ts.service = false then endCheck s .notPermitted 0 4
    else enterDataOut s count.toNat (.table t start.toNat)

/-- R73, R74, R78, R84: the recompute on a written entry of T4, on a limit, and on an entry of T5 that changes a derate, taken at the write
(log 46). -/
def entryTaken (before after : State) (t : Fin 7) (i : Nat) : State :=
  if t = 4 ∨ (t = 6 ∧ (i = 5 ∨ i = 6 ∨ i = 7)) then recompute after else takeDerating before after

/-- R170: READ TABLE is judged. -/
def judgeRead (s : State) (table start count : Byte) : State :=
  match tableOf table with
  | none => endCheck s .badField 1 0
  | some t =>
    if lastEntry t < start.toNat then endCheck s .badField 2 0
    else if count.toNat = 0 ∨ lastEntry t + 1 < count.toNat then endCheck s .badField 3 0
    else openReply s (tableReply s t start.toNat count.toNat)

/-! ### Service mode (R172, R173) -/

/-- R172, row 1. -/
def lacksReturn (t : Tables) (k : CoilId) : Bool := t.t2[k].any fun j => !t.t2[j].contains k
/-- R172, row 2. -/
def listsItself (t : Tables) (k : CoilId) : Bool := t.t2[k].contains k
/-- R172, row 3. -/
def listsMissing (t : Tables) (k : CoilId) : Bool := t.t2[k].any fun j => !t.t1[j].present
/-- R172, row 4. -/
def listTooLong (t : Tables) (k : CoilId) : Bool := decide (6 < t.t2[k].length)
/-- R172, row 5. -/
def classTooHigh (t : Tables) (k : CoilId) : Bool := t.t1[k].present && decide (2 < t.t1[k].cls.val)
/-- R172, row 6. -/
def boardMissing (t : Tables) (k : CoilId) : Bool := t.t1[k].present && !t.t0[coilBoard k].configured
/-- R172, row 7. -/
def referencesWrong (t : Tables) (c : Fin 3) : Bool := !decide (t.t3[c].empty < t.t3[c].full)
/-- R172, row 8. -/
def thresholdsWrong (t : Tables) (c : Fin 3) : Bool :=
  !decide (t.t3[c].release < t.t3[c].detect ∧ t.t3[c].detect ≤ t.t3[c].fire ∧ t.t3[c].fire ≤ 200)

/-- R172: the row and the first entry that fails it. -/
def failing {n : Nat} (row : Nat) (bad : Fin n → Bool) : Option (Nat × Nat) := ((List.finRange n).find? bad).map fun i => (row, i.val)

/-- R172: the first failure of the working structural tables, as row and entry. -/
def validate (t : Tables) : Option (Nat × Nat) :=
  failing 1 (lacksReturn t) <|> failing 2 (listsItself t) <|> failing 3 (listsMissing t) <|> failing 4 (listTooLong t) <|>
    failing 5 (classTooHigh t) <|> failing 6 (boardMissing t) <|> failing 7 (referencesWrong t) <|> failing 8 (thresholdsWrong t)

/-- R1, R39, R141: the Table Store sets or clears the structural-valid flag by `f`, and the blocks take it. What was posted to the Pan Tracker
before a release of R1 is taken before the change (R20; log 56). -/
def takeStructure (s : State) (f : TableStore → TableStore) : State :=
  let t := (finishReleases s (f s.ts).work (f s.ts).valid).modTs f
  takeBoards (takePresence t (f s.ts).valid) (f s.ts).valid

/-- R172: SERVICE ENTER is judged. -/
def judgeEnter (s : State) : State :=
  if s.sup.strap = false then endCheck s .notPermitted 0 1
  else if s.fe.hob = .running then endCheck s .notPermitted 0 2
  else endGood (s.modTs fun ts => { ts with service := true })

/-- R172: SERVICE EXIT is judged. -/
def judgeExit (s : State) : State :=
  if s.ts.service = false then endCheck s .notPermitted 0 1
  else
    match validate s.ts.work with
    | some e => endCheck s .tableInvalid e.2 e.1
    | none => endGood (takeStructure s fun ts => { ts with service := false, valid := true })

/-- R173: the strap is released. In SUPPLY LOW, too, the exit is taken at once and coils, pans and boards follow it, where R153 has no board
change state and R23 and R176 the pan table and the other states kept (log 57). -/
def forcedExit (s : State) : State :=
  if s.ts.service then takeStructure s fun ts => { ts with service := false, valid := (validate ts.work).isNone } else s

/-! ### Commit (R174) -/

/-- R174: the rows of each table. -/
def rowsOf : Fin 7 → Nat
  | 0 => 1
  | 1 => 16
  | 2 => 32
  | 3 => 3
  | 4 => 8
  | 5 => 2
  | 6 => 3

/-- Log 18: the entries a row holds. -/
def entriesPerRow : Fin 7 → Nat
  | 0 => 4
  | 1 => 4
  | 2 => 2
  | 3 => 1
  | 4 => 2
  | 5 => 16
  | 6 => 8

/-- The entries of one row come from `src`, the others stay. -/
def mergeRow {α : Type} {n : Nat} (per row : Nat) (src dst : Vector α n) : Vector α n :=
  Vector.ofFn fun i => if i.val / per = row then src[i] else dst[i]

/-- R174: one row of a table of the store. -/
def copyRow (src dst : Tables) (t : Fin 7) (row : Nat) : Tables :=
  match t with
  | 0 => { dst with t0 := mergeRow (entriesPerRow 0) row src.t0 dst.t0 }
  | 1 => { dst with t1 := mergeRow (entriesPerRow 1) row src.t1 dst.t1 }
  | 2 => { dst with t2 := mergeRow (entriesPerRow 2) row src.t2 dst.t2 }
  | 3 => { dst with t3 := mergeRow (entriesPerRow 3) row src.t3 dst.t3 }
  | 4 => { dst with t4 := mergeRow (entriesPerRow 4) row src.t4 dst.t4 }
  | 5 => { dst with t5 := mergeRow (entriesPerRow 5) row src.t5 dst.t5 }
  | 6 => { dst with t6 := mergeRow (entriesPerRow 6) row src.t6 dst.t6 }

/-- R174: a table's mark. -/
def TableStore.setMark (ts : TableStore) (t : Fin 7) (v : Bool) : TableStore := { ts with marks := ts.marks.set t v }

/-- R174: the current row finishes. -/
def TableStore.finishRow (ts : TableStore) : TableStore :=
  match ts.commit with
  | none => ts
  | some c => { ts with kept := copyRow ts.work ts.kept c.table c.row }

/-- R174: a commit begins with T0, its mark clear. -/
def beginCommit (ts : TableStore) : TableStore := { ts.setMark 0 false with commit := some ⟨0, 0⟩ }

/-- R174: COMMIT TABLES is judged. -/
def judgeCommit (s : State) : State :=
  if s.ts.service then endCheck s .notPermitted 0 1
  else if s.ts.valid = false then endCheck s .tableInvalid 0 2
  else enterCompleting (s.modTs beginCommit)

/-- R174: the store after a row is written, and whether the commit has ended. -/
def TableStore.nextRow (ts : TableStore) (c : CommitPos) : TableStore × Bool :=
  if c.row + 1 < rowsOf c.table then ({ ts.finishRow with commit := some ⟨c.table, c.row + 1⟩ }, false)
  else if c.table = 6 then ({ ts.finishRow.setMark c.table true with commit := none }, true)
  else ({ (ts.finishRow.setMark c.table true).setMark (c.table + 1) false with commit := some ⟨c.table + 1, 0⟩ }, false)

/-- R174: a row of the store has been written; a commit that is stopped ends here, the mark of its table clear. -/
def rowWritten (s : State) : State :=
  match s.ts.commit with
  | none => s
  | some c =>
    if s.cp.aborting then endCheck (s.modTs fun ts => { ts.finishRow with commit := none }) .aborted 0 0
    else if (s.ts.nextRow c).2 then endGood (s.modTs fun ts => (ts.nextRow c).1)
    else s.modTs fun ts => (ts.nextRow c).1

/-! ### Recall (R175) -/

/-- R175: RECALL TABLES is judged. -/
def judgeRecall (s : State) : State :=
  if s.fe.hob = .running then endCheck s .notPermitted 0 1
  else if s.ts.service then endCheck s .notPermitted 0 2
  else enterCompleting (s.modTs fun ts => { ts with recalling := true })

/-- R175: the working tables a recall puts in place. -/
def recalledTables (ts : TableStore) : Tables :=
  { t0 := if ts.marks[0] then ts.kept.t0 else Config.t0Reset
    t1 := if ts.marks[1] then ts.kept.t1 else Config.t1Reset
    t2 := if ts.marks[2] then ts.kept.t2 else Config.t2Reset
    t3 := if ts.marks[3] then ts.kept.t3 else Config.t3Default
    t4 := if ts.marks[4] then ts.kept.t4 else Config.t4Default
    t5 := if ts.marks[5] then ts.kept.t5 else Config.t5Default
    t6 := if ts.marks[6] then ts.kept.t6 else Config.t6Default }

/-- R175: every structural mark is valid. -/
def structureMarked (ts : TableStore) : Bool := ts.marks[0] && ts.marks[1] && ts.marks[2] && ts.marks[3]

/-- R175: the Budget Allocator is told that a recall has completed, and of the derates that it changed (R84); both wait for RECOMPUTE
(log 46). -/
def postRecalled (before after : State) : State :=
  if derateChanged before after then postTrigger (postTrigger after .recalled) .derating else postTrigger after .recalled

/-- R175, R176: a recall completes. -/
def completeRecall (s : State) : State :=
  let t := takeStructure s fun ts => { ts with work := recalledTables ts, valid := structureMarked ts, recalling := false }
  let t := if s.sup.hub = .recalling then t.modSup fun u => { u with hub := .ready } else t
  let t := postRecalled s (latch t)
  if s.cp.state = .completing then if s.cp.aborting then endCheck t .aborted 0 0 else endGood t else t

end Sys2Proof.Machine
end

