-- ==== Sys2Proof/Machine/ControllerPort.lean ====
section
/-! DEFINITION. The Controller Port (spec/09_the_controller_link.md): data cells under credit, HEAT and ABORT cells, silence, and the
transmit arbiter. -/

namespace Sys2Proof.Machine

/-! ### DATA cells (R158, R59, R169) -/

/-- R158: the index of the entry or step the next DATA cell would write. -/
def nextIndex (o : Order) : Nat :=
  match o.job with
  | .table t start => entryIndex t start o.taken
  | .plain | .pace _ _ | .program _ => o.taken

/-- R158: an accepted entry lowers the credit count, and one more is granted while some are still to be granted. -/
def countEntry (s : State) (o : Order) : State :=
  s.modCp fun cp =>
    { cp with
      order := some { o with taken := o.taken + 1 }
      credit := if o.taken + cp.credit < o.expected then cp.credit else cp.credit - 1
      pendingCredit := if o.taken + cp.credit < o.expected then cp.pendingCredit + 1 else cp.pendingCredit }

/-- R59: the steps held are discarded when the order ends early. -/
def dropHeld (s : State) : State := s.modHs fun l => { l with held := [] }

/-- R59: a DATA cell of LOAD PROGRAM. -/
def takeStep (s : State) (o : Order) (handle : Byte) (p : Payload) : State :=
  match readStep p with
  | none => endCheck (dropHeld s) .badField o.taken 0
  | some st =>
    let t := countEntry (s.modHs fun l => { l with held := l.held ++ [st] }) o
    if o.taken + 1 < o.expected then t else finishLoad t handle

/-- R169: a DATA cell of WRITE TABLE. -/
def takeEntry (s : State) (o : Order) (t : Fin 7) (start : Nat) (p : Payload) : State :=
  if structural t ∧ s.ts.service = false then endCheck s .notPermitted (entryIndex t start o.taken) 4
  else
    match writeEntry s.ts.work t (entryIndex t start o.taken) p with
    | none => endCheck s .badField (entryIndex t start o.taken) 0
    | some w =>
      let u := entryTaken s (s.modTs fun ts => { ts with work := w }) t (entryIndex t start o.taken)
      let u := countEntry u o
      if o.taken + 1 < o.expected then u else endGood u

/-- R158: a DATA cell of the order in DATA-OUT. -/
def takeData (s : State) (o : Order) (p : Payload) : State :=
  if s.cp.credit = 0 then endCheck (dropHeld s) .dataOverrun (nextIndex o) 0
  else
    match o.job with
    | .program handle => takeStep s o handle p
    | .table t start => takeEntry s o t start p
    | .plain | .pace _ _ => s

/-- R155: a DATA cell is for the order in DATA-OUT that carries its tag. -/
def dispatchData (s : State) (tag : Byte) (p : Payload) : State :=
  match s.cp.order with
  | none => s
  | some o => if s.cp.state = .dataOut ∧ o.tag = tag then takeData s o p else s

/-! ### HEAT and ABORT cells (R155, R160, R163) -/

/-- Section 11.2: the action of a HEAT cell. -/
def heatActionOf (b : Byte) : Option HeatAction :=
  if b = 1 then some .setLevel else if b = 2 then some .pause else if b = 3 then some .resume else none

/-- R155, R163, R179: a HEAT cell. -/
def dispatchHeat (s : State) (handle action level : Byte) : State :=
  if s.sup.hub = .ready ∨ s.sup.hub = .supplyLow then
    match heatActionOf action with
    | none => s
    | some a =>
      if s.cp.heatQueue.length < 16 then s.modCp fun cp => { cp with heatQueue := cp.heatQueue ++ [⟨handle, a, level⟩] }
      else refuseHeat s handle .queueFull (HeatCell.shown ⟨handle, a, level⟩)
  else s

/-- R160: an ABORT cell. -/
def dispatchAbort (s : State) : State :=
  match s.cp.state with
  | .idle | .status => s
  | .dataOut => endCheck (dropHeld s) .aborted 0 0
  | .dataIn => endCheck s .aborted 0 0
  | .completing => s.modCp fun cp => { cp with aborting := true }

/-! ### Silence (R162) -/

/-- R162: the silence timer passes the silence timeout. -/
def judgeQuiet (s : State) : State :=
  match s.cp.silence with
  | none => s
  | some t =>
    if s.cp.timeout * 1000 ≤ s.now - t then (postHaltCause s .silence).modCp fun cp => { cp with silence := none } else s

/-! ### The transmit arbiter (R165) -/

/-- R161: the agreed values replace the pace when the status has been sent. -/
def ControllerPort.takePace (cp : ControllerPort) : ControllerPort :=
  match cp.order with
  | some ⟨_, _, _, _, .pace w t⟩ => { cp with window := w, timeout := t }
  | some ⟨_, _, _, _, .plain⟩ | some ⟨_, _, _, _, .program _⟩ | some ⟨_, _, _, _, .table _ _⟩ | none => cp

/-- R157: the status of the order in progress has been sent; R161: the agreed values hold after GOOD (log 34). -/
def ControllerPort.closeOrder (cp : ControllerPort) (condition : Condition) : ControllerPort :=
  { (if condition = .good then cp.takePace else cp) with state := .idle, order := none }

/-- The tag of the order in progress. -/
def orderTag (s : State) : Byte := (s.cp.order.map (·.tag)).getD 0

/-- A cell goes out on the controller link. -/
def sendUp (s : State) (cell : Cell) : State := { s with upLine := some cell }

/-- R159: a reply cell is sent; after the last the GOOD status is queued. -/
def sendReply (s : State) (p : Payload) (rest : List Payload) : State :=
  let t := (sendUp s (dataCell (orderTag s) p)).modCp fun cp => { cp with dataIn := rest }
  if rest = [] then endGood t else t

/-- R165: the transmitter is free and takes the first available. -/
def transmitUp (s : State) : State :=
  match s.cp.statuses with
  | c :: rest =>
    let t := (sendUp s (statusCell c)).modCp fun cp => { cp with statuses := rest }
    if c.own then t.modCp (·.closeOrder c.condition) else t
  | [] =>
    if s.cp.pendingCredit ≠ 0 then
      (sendUp s (creditCell (orderTag s) s.cp.pendingCredit)).modCp fun cp => { cp with pendingCredit := 0 }
    else
      match s.cp.dataIn with
      | p :: rest => sendReply s p rest
      | [] =>
        match s.cp.notices with
        | n :: rest => (sendUp s (noticeCell n)).modCp fun cp => { cp with notices := rest }
        | [] => s

/-! ### Transmission on the board links (R147) -/

/-- A cell goes out on a board link. -/
def sendDown (s : State) (b : BoardId) (cell : Cell) : State := { s with boardLines := s.boardLines.set b (some cell) }

/-- R147: the Board Port's transmitter is free: an off-now first, then a drive cell, then an IDENT REQUEST. -/
def transmitBoard (s : State) (b : BoardId) : State :=
  match s.boards[b].txOffNow with
  | some legs => (sendDown s b (offNowCell legs)).modBoard b fun port => { port with txOffNow := none }
  | none =>
    match s.boards[b].txDrive with
    | some d =>
      (sendDown { s with draws := s.draws + 1 } b (driveCellBytes s.draws d)).modBoard b fun port => { port with txDrive := none }
    | none =>
      if s.boards[b].txIdent then (sendDown s b identRequestCell).modBoard b fun port => censusSent port s.now else s

end Sys2Proof.Machine
end

