-- ==== Sys2Proof/Machine/SupplyMonitor.lean ====
section
/-! DEFINITION. The Supply Monitor (spec/10_tables_stored_settings_and_start_up.md section 10.6): the supply thresholds, the reset line
and the resets. -/

namespace Sys2Proof.Machine

/-! ### Resets (R176, R177) -/

/-- R168, R174: what a reset leaves of the Table Store: the store, its current row finished, and its marks. -/
def storeAfterReset (ts : TableStore) : TableStore :=
  { State.reset.ts with kept := ts.finishRow.kept, marks := ts.marks }

/-- R177: a reset: every block takes its reset values except the store and the seen-released flag; the supply, the pins and the queue of
commands are not the blocks' (log 36). -/
def resetBlocks (s : State) : State :=
  { State.reset with
    pending := s.pending
    now := s.now
    draws := s.draws
    upLine := s.upLine
    boardLines := s.boardLines
    sup := { s.sup with hub := .dormant }
    ts := storeAfterReset s.ts }

/-- R176: a DORMANT hub above V_op whose reset line is not asserted begins its recall. -/
def tryRecall (s : State) : State :=
  if s.sup.hub = .dormant ∧ s.sup.level = .aboveOp ∧ s.sup.resetLine = false then
    (s.modSup fun u => { u with hub := .recalling }).modTs fun ts => { ts with recalling := true }
  else s

/-- R166, R177: RESET HUB. -/
def resetHubNow (s : State) : State := tryRecall (resetBlocks s)

/-- R177: the reset line is asserted; with the flag set this is a reset. -/
def assertReset (s : State) : State :=
  let t := s.modSup fun u => { u with resetLine := true }
  if s.sup.seenReleased then resetBlocks t else t

/-- R177: the reset line is released and has been seen so. -/
def releaseReset (s : State) : State := tryRecall (s.modSup fun u => { u with resetLine := false, seenReleased := true })

/-! ### Thresholds (R176) -/

/-- R174, R176: what a fall below V_dig leaves of the Table Store; the row being written is a free value (log 10). -/
def storeAfterLoss (draw : Nat) (ts : TableStore) : TableStore :=
  { State.reset.ts with
    marks := ts.marks
    kept := match ts.commit with
      | none => ts.kept
      | some c => copyRow (Config.tornStore draw) ts.kept c.table c.row }

/-- R176: the supply falls below V_dig: all state is lost but the store (log 4). -/
def loseAll (s : State) : State :=
  if s.sup.level = .belowDig then s
  else
    { State.reset with
      pending := s.pending
      now := s.now
      draws := s.draws + 1
      upLine := s.upLine
      boardLines := s.boardLines
      sup := ⟨.belowDig, s.sup.resetLine, s.sup.strap, .dormant, false⟩
      ts := storeAfterLoss s.draws s.ts }

/-- R176: the supply rises above V_dig. -/
def riseDig (s : State) : State :=
  if s.sup.level = .belowDig then
    (resetBlocks s).modSup fun u => { u with level := .belowOp, seenReleased := false }
  else s

/-- The first halt among the claims that wait, and the claims behind it. -/
def firstHalt : List HobClaim → Option (HaltCause × List HobClaim)
  | [] => none
  | .halt c :: rest => some (c, rest)
  | .clear :: rest => firstHalt rest

/-- R135: the halt causes that wait are taken by the Protection Unit, in their order. -/
def finishCauses (s : State) : State := s.posts.haltCauses.foldl takeHaltCause (s.modPosts fun q => { q with haltCauses := [] })

/-- R117: the first halt that waits is taken by the Frame Engine; without one the cause is SUPPLY. -/
def takeFirstHalt (s : State) : State :=
  match firstHalt s.posts.hobClaims with
  | some (c, rest) => takeHalt (s.modPosts fun q => { q with hobClaims := rest }) c
  | none => takeHalt (s.modPosts fun q => { q with hobClaims := [] }) .supply

/-- R122, R135, R176: the halt cause of the fall to SUPPLY LOW has been taken before the hub is READY again: a hob that was RUNNING is HALTED,
its off-now not sent in SUPPLY LOW, and with a STOPPED one SUPPLY is a protective event (log 45). -/
def finishHalt (s : State) : State :=
  if s.fe.hob = .running then takeFirstHalt (finishCauses s) else finishCauses s

/-- R136, R138: the Protection Unit has been told that the hob entered HALTED before the hub is READY again (log 45). -/
def finishHalted (s : State) : State := s.posts.halted.foldl takeHalted (s.modPosts fun q => { q with halted := [] })

/-- R163: a heat cell taken in SUPPLY LOW meets a hob that is not RUNNING: the halt of the fall is taken before it (log 45). -/
def meetHalt (s : State) : State := if s.sup.hub = .supplyLow ∧ s.fe.hob = .running then finishHalt s else s

/-- R176, R177: the supply rises above V_op; a reset line that is not asserted then is seen released (log 6). A hub in SUPPLY LOW returns to
READY with the cause of its fall taken (R122, R135), an entry to HALTED recorded (R138) and its banks empty (R90; log 45). -/
def riseOp (s : State) : State :=
  if s.sup.level = .belowOp then
    let t := s.modSup fun u => { u with level := .aboveOp, seenReleased := u.seenReleased || !u.resetLine }
    if s.sup.hub = .supplyLow then
      { (finishDiscard (finishHalted (finishHalt t))).modSup (fun u => { u with hub := .ready }) with
        boards := Vector.ofFn fun b => resumeCensus t.boards[b] }
    else tryRecall t
  else s

/-- R122, R153: the off-now to all legs of each ONLINE board, the last traffic on its link. -/
def lastOffNow (s : State) : State :=
  { s with
    boardLines := Vector.ofFn fun b =>
      if s.boards[b].state = .online then some (offNowCell (Vector.replicate 4 true)) else s.boardLines[b]
    boards := Vector.ofFn fun b => quietPort s.boards[b] }

/-- R174, R175: a fall to SUPPLY LOW stops a commit after its row, and abandons a RECALL TABLES. -/
def stopStore (s : State) : State :=
  if s.ts.commit.isSome then s.modCp fun cp => { cp with aborting := true }
  else if s.ts.recalling then endCheck (s.modTs fun ts => { ts with recalling := false }) .aborted 0 0
  else s

/-- R176: READY becomes SUPPLY LOW. -/
def enterSupplyLow (s : State) : State :=
  stopStore (postHaltCause (cutFrame (lastOffNow (s.modSup fun u => { u with hub := .supplyLow }))) .supply)

/-- R176: the supply falls below V_op. -/
def fallOp (s : State) : State :=
  if s.sup.level = .aboveOp then
    let t := s.modSup fun u => { u with level := .belowOp }
    match s.sup.hub with
    | .ready => enterSupplyLow t
    | .recalling => (t.modSup fun u => { u with hub := .dormant }).modTs fun ts => { ts with recalling := false }
    | .dormant | .supplyLow => t
  else s

end Sys2Proof.Machine
end

