-- ==== Sys2Proof/Machine/Tail.lean ====
section
/-! DEFINITION. How a command is taken: the tails of the events before it are finished first (log 3), and below V_dig there is no state
for it to act on (log 4). -/

namespace Sys2Proof.Machine

/-- One tail after another; at most `n`. -/
def repeatTail (step : State → State) : Nat → State → State
  | 0, s => s
  | n + 1, s => repeatTail step n (step s)

/-- The work that events already taken have left: graces, steps, cooldowns and windows that ended (R45, R62, R131, R132). -/
def finishDue (s : State) : State :=
  let s := repeatTail expireGrace s.pt.graceDue.length s
  let s := repeatTail expireStep s.hs.stepDue.length s
  let s := repeatTail expireCooldown s.pu.cooldownDue.length s
  repeatTail expireWindow s.pu.windowDue.length s

/-- A command that acts on the state only while the supply is above V_dig, after the tails before it. -/
def run (s : State) (f : State → State) : Host.Outcome State Fault Refusal :=
  .next (if s.sup.level = .belowDig then s else f (finishDue s))

/-- A command that takes one step of a tail. -/
def runTail (s : State) (f : State → State) : Host.Outcome State Fault Refusal :=
  .next (if s.sup.level = .belowDig then s else f s)

/-- A command by which a block takes an event of the slots. None reaches it in SUPPLY LOW (R23, R125): what was posted before the fall waits
for the return to READY (log 52). -/
def runSlots (s : State) (f : State → State) : Host.Outcome State Fault Refusal :=
  run s fun s => if s.sup.hub = .supplyLow then s else f s

/-- A change of the supply or of a pin: it acts below V_dig too. -/
def runPin (s : State) (f : State → State) : Host.Outcome State Fault Refusal :=
  .next (f (if s.sup.level = .belowDig then s else finishDue s))

/-! ### The head of a channel -/

/-- The first post of a board. -/
def firstOf (b : BoardId) (l : List (BoardId × BoardPost)) : Option BoardPost := (l.find? fun e => e.1 == b).map (·.2)

/-- The posts without the first of a board. -/
def dropFirst (b : BoardId) : List (BoardId × BoardPost) → List (BoardId × BoardPost)
  | [] => []
  | e :: rest => if e.1 = b then rest else e :: dropFirst b rest

end Sys2Proof.Machine
end

