-- ==== Sys2Proof/Machine/CellCommands.lean ====
section
/-! DEFINITION. The other cells of the controller link, the cells of the boards, and the transmitters becoming free. -/

namespace Sys2Proof.Machine

/-- A received cell that is discarded before any block sees it (R155, R178, R180): nothing changes. -/
def execCellCheckFailed (_link : Link) (_cell : Cell) (s : State) : Host.Outcome State Fault Refusal := run s fun s => s
/-- DATA (R155, R158). -/
def execData (t : Time) (tag : Byte) (p : Payload) (s : State) : Host.Outcome State Fault Refusal :=
  run s fun s => dispatchData (hearCell s t) tag p
/-- HEAT (R155, R163). -/
def execHeat (t : Time) (handle action level : Byte) (s : State) : Host.Outcome State Fault Refusal :=
  run s fun s => dispatchHeat (hearCell s t) handle action level
/-- ABORT, whatever its tag (R160). -/
def execAbort (t : Time) (_tag : Byte) (s : State) : Host.Outcome State Fault Refusal := run s fun s => dispatchAbort (hearCell s t)
/-- KEEPALIVE (R155, R162). -/
def execKeepalive (t : Time) (s : State) : Host.Outcome State Fault Refusal := run s fun s => hearCell s t
/-- UPSTREAM_TRANSMIT (R165). -/
def execUpstreamTransmit (s : State) : Host.Outcome State Fault Refusal := run s transmitUp
/-- BOARD_TRANSMIT (R147); the links carry nothing while the hub is not READY (R153, R176). -/
def execBoardTransmit (b : BoardId) (t : Time) (s : State) : Host.Outcome State Fault Refusal :=
  run s fun s => if s.sup.hub = .ready then transmitBoard (s.arrive t) b else s.arrive t
/-- SENSE (R149, R150); a cell with an undefined value is discarded (R180). -/
def execSense (b : BoardId) (cell : SenseCell) (s : State) : Host.Outcome State Fault Refusal :=
  run s fun s => if cell.defined then takeSense s b cell else s
/-- IDENT (R144); a cell with an undefined diagnosis is discarded (R180), and so is every cell while the hub is not READY (R153). -/
def execIdent (b : BoardId) (t : Time) (cell : IdentCell) (s : State) : Host.Outcome State Fault Refusal :=
  run s fun s => if cell.defined ∧ s.sup.hub = .ready then judgeIdent (s.arrive t) b cell else s.arrive t

end Sys2Proof.Machine
end

