-- ==== Sys2Proof/Machine/OrderCommands.lean ====
section
/-! DEFINITION. The orders of the appliance controller (R156 and the rule that judges each). -/

namespace Sys2Proof.Machine

/-! ### Judgements of the orders whose rule belongs to the Controller Port or the Coil Monitor -/

/-- R157: FETCH SENSE. -/
def judgeFetch (s : State) : State := reply (s.modCp fun cp => { cp with sense := ⟨.noSense, 0, 0⟩ }) (senseReply s.cp.sense)

/-- R161: SET PACE; the agreed values wait in the order until its status is sent (log 34). -/
def judgePace (s : State) (window : Byte) (timeout : BitVec 16) : State :=
  reply
    (s.modCp fun cp =>
      { cp with order := cp.order.map fun o => { o with job := .pace (agreedWindow window) (agreedTimeout timeout) } })
    (paceReply (agreedWindow window) (agreedTimeout timeout))

/-- R164, R179: BOOK NOTICES; mask bits for kinds above 20 are ignored. -/
def judgeBook (s : State) (mask : BitVec 24) : State := endGood (s.modCp fun cp => { cp with mask := mask.extractLsb' 0 20 })

/-- R167: READ PAN. -/
def judgeReadPan (s : State) (slot : Byte) : State :=
  if h : slot.toNat < 8 then openReply s (panReply s ⟨slot.toNat, h⟩) else endCheck s .badField 1 0

/-- R167: READ COIL. -/
def judgeReadCoil (s : State) (coil : Byte) : State :=
  if h : coil.toNat < 64 then reply s (coilReply s ⟨coil.toNat, h⟩) else endCheck s .badField 1 0

/-- R18: DISABLE COIL and ENABLE COIL. -/
def judgeCoilOrder (s : State) (coil : Byte) (f : CoilRecord → CoilRecord) : State :=
  if h : coil.toNat < 64 then
    if s.coils[coil.toNat].occupancy = .absent then endCheck s .badField 1 0 else endGood (changeFlags s ⟨coil.toNat, h⟩ f)
  else endCheck s .badField 1 0

/-! ### The orders -/

/-- IDENTIFY HUB (R166). -/
def execIdentifyHub (t : Time) (tag : Byte) (s : State) : Host.Outcome State Fault Refusal :=
  run s fun s => takeOrder s t tag 1 fun s => reply s (identifyReply s)
/-- RESET HUB (R166, R177). -/
def execResetHub (t : Time) (_tag : Byte) (s : State) : Host.Outcome State Fault Refusal := run s fun s => resetHubNow (s.arrive t)
/-- SET PACE (R161). -/
def execSetPace (t : Time) (tag window : Byte) (timeout : BitVec 16) (s : State) : Host.Outcome State Fault Refusal :=
  run s fun s => takeOrder s t tag 3 fun s => judgePace s window timeout
/-- BOOK NOTICES (R164). -/
def execBookNotices (t : Time) (tag : Byte) (mask : BitVec 24) (s : State) : Host.Outcome State Fault Refusal :=
  run s fun s => takeOrder s t tag 4 fun s => judgeBook s mask
/-- FETCH SENSE (R157). -/
def execFetchSense (t : Time) (tag : Byte) (s : State) : Host.Outcome State Fault Refusal := run s fun s => takeOrder s t tag 5 judgeFetch
/-- START HOB (R115). -/
def execStartHob (t : Time) (tag : Byte) (s : State) : Host.Outcome State Fault Refusal := run s fun s => takeOrder s t tag 6 judgeStart
/-- STOP HOB (R116). -/
def execStopHob (t : Time) (tag : Byte) (s : State) : Host.Outcome State Fault Refusal := run s fun s => takeOrder s t tag 7 judgeStop
/-- CLEAR FAULT (R139). -/
def execClearFault (t : Time) (tag : Byte) (s : State) : Host.Outcome State Fault Refusal :=
  run s fun s => takeOrder s t tag 8 fun s => endGood (clearFault s)
/-- READ PAN (R167). -/
def execReadPan (t : Time) (tag slot : Byte) (s : State) : Host.Outcome State Fault Refusal :=
  run s fun s => takeOrder s t tag 9 fun s => judgeReadPan s slot
/-- READ COIL (R167). -/
def execReadCoil (t : Time) (tag coil : Byte) (s : State) : Host.Outcome State Fault Refusal :=
  run s fun s => takeOrder s t tag 10 fun s => judgeReadCoil s coil
/-- READ FAULT (R140). -/
def execReadFault (t : Time) (tag : Byte) (s : State) : Host.Outcome State Fault Refusal :=
  run s fun s => takeOrder s t tag 11 fun s => openReply s (faultReply s)
/-- LOAD PROGRAM (R58). -/
def execLoadProgram (t : Time) (tag handle count : Byte) (s : State) : Host.Outcome State Fault Refusal :=
  run s fun s => takeOrder s t tag 12 fun s => judgeLoad s handle count
/-- RUN PROGRAM (R60). -/
def execRunProgram (t : Time) (tag handle : Byte) (s : State) : Host.Outcome State Fault Refusal :=
  run s fun s => takeOrder s t tag 13 fun s => judgeRun s handle
/-- WRITE TABLE (R169). -/
def execWriteTable (t : Time) (tag table start count : Byte) (s : State) : Host.Outcome State Fault Refusal :=
  run s fun s => takeOrder s t tag 14 fun s => judgeWrite s table start count
/-- READ TABLE (R170). -/
def execReadTable (t : Time) (tag table start count : Byte) (s : State) : Host.Outcome State Fault Refusal :=
  run s fun s => takeOrder s t tag 15 fun s => judgeRead s table start count
/-- COMMIT TABLES (R174). -/
def execCommitTables (t : Time) (tag : Byte) (s : State) : Host.Outcome State Fault Refusal := run s fun s => takeOrder s t tag 16 judgeCommit
/-- RECALL TABLES (R175). -/
def execRecallTables (t : Time) (tag : Byte) (s : State) : Host.Outcome State Fault Refusal := run s fun s => takeOrder s t tag 17 judgeRecall
/-- SERVICE ENTER (R172); the strap's level comes with the command (log 7). -/
def execServiceEnter (t : Time) (tag : Byte) (strap : Bool) (s : State) : Host.Outcome State Fault Refusal :=
  run s fun s => takeOrder (s.modSup fun u => { u with strap := strap }) t tag 18 judgeEnter
/-- SERVICE EXIT (R172). -/
def execServiceExit (t : Time) (tag : Byte) (s : State) : Host.Outcome State Fault Refusal := run s fun s => takeOrder s t tag 19 judgeExit
/-- DISABLE COIL (R18). -/
def execDisableCoil (t : Time) (tag coil : Byte) (s : State) : Host.Outcome State Fault Refusal :=
  run s fun s => takeOrder s t tag 20 fun s => judgeCoilOrder s coil fun r => { r with disabled := true, confirm := 0 }
/-- ENABLE COIL (R18). -/
def execEnableCoil (t : Time) (tag coil : Byte) (s : State) : Host.Outcome State Fault Refusal :=
  run s fun s => takeOrder s t tag 21 fun s => judgeCoilOrder s coil fun r => { r with disabled := false }
/-- SET DERATE (R85). -/
def execSetDerate (t : Time) (tag board value : Byte) (s : State) : Host.Outcome State Fault Refusal :=
  run s fun s => takeOrder s t tag 22 fun s => judgeDerate s board value
/-- An order code that is not defined (R156, R179). -/
def execIllegalOrder (t : Time) (tag code : Byte) (s : State) : Host.Outcome State Fault Refusal :=
  run s fun s => takeOrder s t tag code.toNat fun s => endCheck s .illegalOrder 0 0

end Sys2Proof.Machine
end

