-- ==== Sys2Proof/Machine/PinCommands.lean ====
section
/-! DEFINITION. The commands of the supply, the reset line and the service strap (R173, R176, R177). -/

namespace Sys2Proof.Machine

/-- SUPPLY_RISE_ABOVE_V_DIG (R176). -/
def execSupplyRiseAboveVDig (s : State) : Host.Outcome State Fault Refusal := runPin s riseDig
/-- SUPPLY_FALL_BELOW_V_DIG (R176, R174). -/
def execSupplyFallBelowVDig (s : State) : Host.Outcome State Fault Refusal := runPin s loseAll
/-- SUPPLY_RISE_ABOVE_V_OP (R176, R153). -/
def execSupplyRiseAboveVOp (s : State) : Host.Outcome State Fault Refusal := runPin s riseOp
/-- SUPPLY_FALL_BELOW_V_OP (R176, R122, R153, R174, R175). -/
def execSupplyFallBelowVOp (s : State) : Host.Outcome State Fault Refusal := runPin s fallOp
/-- RESET_LINE_ASSERTION (R177). -/
def execResetLineAssertion (s : State) : Host.Outcome State Fault Refusal := runPin s assertReset
/-- RESET_LINE_RELEASE (R177). Below V_dig the flag stays clear (R176). -/
def execResetLineRelease (s : State) : Host.Outcome State Fault Refusal :=
  runPin s fun s => if s.sup.level = .belowDig then s.modSup fun u => { u with resetLine := false } else releaseReset s
/-- SERVICE_STRAP_RELEASE (R173). -/
def execServiceStrapRelease (s : State) : Host.Outcome State Fault Refusal :=
  runPin s fun s => forcedExit (s.modSup fun u => { u with strap := false })

end Sys2Proof.Machine
end

