-- ==== Sys2Proof/Machine/PostCommands.lean ====
section
/-! DEFINITION. The commands by which a block takes what another block posted to it: the head of the channel, when it is an event of the
kind the command names (log 2). -/

namespace Sys2Proof.Machine

/-! ### Heat Sequencer -/

/-- R53, R163: the head of the heat cell queue is taken, when it is a cell of the action named. -/
def takeHeadCell (s : State) (action : HeatAction) : State :=
  if s.cp.heatQueue.head?.map (·.action) = some action then takeHeatCell (meetHalt s) action else s

/-- SET LEVEL is taken from the heat cell queue (R53, R54). -/
def execSetLevel (s : State) : Host.Outcome State Fault Refusal := run s fun s => takeHeadCell s .setLevel
/-- PAUSE is taken from the heat cell queue (R53, R55). -/
def execPause (s : State) : Host.Outcome State Fault Refusal := run s fun s => takeHeadCell s .pause
/-- RESUME is taken from the heat cell queue (R53, R56). -/
def execResume (s : State) : Host.Outcome State Fault Refusal := run s fun s => takeHeadCell s .resume

/-- The head of the Pan Tracker's posts has been taken. -/
def popPan (s : State) : State := s.modPosts fun q => { q with pans := q.pans.tail }
/-- The head of the Frame Engine's posts to the Heat Sequencer has been taken. -/
def popHob (s : State) : State := s.modPosts fun q => { q with hob := q.hob.tail }

/-- HEAT_LIFT (R65). -/
def execHeatLift (s : State) : Host.Outcome State Fault Refusal :=
  run s fun s => match s.posts.pans with
    | .lift p :: _ => heatLifted (popPan s) p
    | _ => s
/-- HEAT_RETURN (R66). -/
def execHeatReturn (s : State) : Host.Outcome State Fault Refusal :=
  run s fun s => match s.posts.pans with
    | .back p :: _ => heatReturned (popPan s) p
    | _ => s
/-- HEAT_RETIREMENT (R67). -/
def execHeatRetirement (s : State) : Host.Outcome State Fault Refusal :=
  run s fun s => match s.posts.pans with
    | .retirement p :: _ => heatRetired (popPan s) p
    | _ => s
/-- HEAT_MATERIAL_CHANGE (R68). -/
def execHeatMaterialChange (s : State) : Host.Outcome State Fault Refusal :=
  run s fun s => match s.posts.pans with
    | .material p m :: _ => heatMaterial (popPan s) p m
    | _ => s
/-- HEAT_HOB_HALT (R69). -/
def execHeatHobHalt (s : State) : Host.Outcome State Fault Refusal :=
  run s fun s => match s.posts.hob with
    | .halt :: _ => heatHalted (popHob s)
    | _ => s
/-- HEAT_STOP_HOB (R70). -/
def execHeatStopHob (s : State) : Host.Outcome State Fault Refusal :=
  run s fun s => match s.posts.hob with
    | .stop :: _ => heatStopped (popHob s)
    | _ => s
/-- HEAT_START_HOB (R70). -/
def execHeatStartHob (s : State) : Host.Outcome State Fault Refusal :=
  run s fun s => match s.posts.hob with
    | .start :: _ => heatStarted (popHob s)
    | _ => s

/-! ### Pan Tracker -/

/-- MEMBER_RELEASE (R11): taken when the Pan Tracker has taken every event posted to it before; not in SUPPLY LOW (R23, log 52). -/
def execMemberRelease (s : State) : Host.Outcome State Fault Refusal :=
  runSlots s fun s => match s.posts.coilEvents with
    | .memberRelease k _ m firing 0 0 :: _ => takeMemberRelease (popCoil s) k m firing
    | _ => s
/-- BECAME_SENSED (R27), not in SUPPLY LOW (R23, log 52). -/
def execBecameSensed (s : State) : Host.Outcome State Fault Refusal :=
  runSlots s fun s => match s.posts.coilEvents with
    | .becameSensed k _ :: _ => takeBecameSensed (popCoil s) k
    | _ => s
/-- SENSED_RELEASED (R34), not in SUPPLY LOW (R23, log 52). -/
def execSensedReleased (s : State) : Host.Outcome State Fault Refusal :=
  runSlots s fun s => match s.posts.coilEvents with
    | .released k _ :: _ => takeSensedRelease (popCoil s) k
    | _ => s
/-- MATERIAL_CHANGED (R38), not in SUPPLY LOW (R23, log 52). -/
def execMaterialChanged (s : State) : Host.Outcome State Fault Refusal :=
  runSlots s fun s => match s.posts.coilEvents with
    | .materialChanged _ (some p) _ :: _ => refigure (popCoil s) p
    | .materialChanged _ none _ :: _ => popCoil s
    | _ => s

/-! ### Budget Allocator and Slot Scheduler -/

/-- RECOMPUTE (R73). -/
def execRecompute (s : State) : Host.Outcome State Fault Refusal :=
  run s fun s => match s.posts.triggers with
    | _ :: rest => recompute (s.modPosts fun q => { q with triggers := rest })
    | [] => s
/-- REBUILD_REQUEST (R92): the Frame Engine's request at the head of its channel, taken after what START HOB posted to the Heat Sequencer
(R104, log 49), or one of the other senders'. -/
def execRebuildRequest (s : State) : Host.Outcome State Fault Refusal :=
  run s fun s => match s.posts.scheduler with
    | .rebuild :: rest => takeRebuild (finishStart (s.modPosts fun q => { q with scheduler := rest }))
    | _ =>
      if s.posts.rebuilds = 0 then s else takeRebuild (s.modPosts fun q => { q with rebuilds := q.rebuilds - 1 })
/-- SNAPSHOT_COMPLETE (R93). -/
def execSnapshotComplete (s : State) : Host.Outcome State Fault Refusal := run s snapshotComplete
/-- PLACE_COMPLETE (R94 to R97). -/
def execPlaceComplete (s : State) : Host.Outcome State Fault Refusal := run s placeComplete
/-- END_OF_CHECK (R98 to R100). -/
def execEndOfCheck (s : State) : Host.Outcome State Fault Refusal := run s endOfCheck
/-- SWAP_NOTICE (R101). -/
def execSwapNotice (s : State) : Host.Outcome State Fault Refusal :=
  run s fun s => if s.posts.swaps = 0 then s else takeSwapNotice (s.modPosts fun q => { q with swaps := q.swaps - 1 })
/-- DISCARD (R103). -/
def execDiscard (s : State) : Host.Outcome State Fault Refusal :=
  run s fun s => match s.posts.scheduler with
    | .discard :: rest => takeDiscard (s.modPosts fun q => { q with scheduler := rest })
    | _ => s

/-! ### Frame Engine -/

/-- OFFER (R114). -/
def execOffer (s : State) : Host.Outcome State Fault Refusal :=
  run s fun s => if s.posts.offers = 0 then s else takeOffer (s.modPosts fun q => { q with offers := q.offers - 1 })
/-- HALT (R117). -/
def execHalt (s : State) : Host.Outcome State Fault Refusal :=
  run s fun s => match s.posts.hobClaims with
    | .halt c :: rest => takeHalt (s.modPosts fun q => { q with hobClaims := rest }) c
    | _ => s
/-- CLEAR_HALT (R117). A HALTED hob stands as it stood through SUPPLY LOW (R122, R176): a clear-halt waits for the return to READY
(log 51). -/
def execClearHalt (s : State) : Host.Outcome State Fault Refusal :=
  run s fun s => match s.posts.hobClaims with
    | .clear :: rest =>
      if s.sup.hub = .supplyLow ∧ s.fe.hob = .halted then s else takeClearHalt (s.modPosts fun q => { q with hobClaims := rest })
    | _ => s
/-- RELEASE_NOTICE (R121). -/
def execReleaseNotice (s : State) : Host.Outcome State Fault Refusal :=
  run s fun s => match s.posts.releases with
    | k :: rest => offNowLeg (s.modPosts fun q => { q with releases := rest }) (coilLeg k)
    | [] => s
/-- OFF_NOW_REQUEST (R121). -/
def execOffNowRequest (s : State) : Host.Outcome State Fault Refusal :=
  run s fun s => match s.posts.offNows with
    | l :: rest => offNowLeg (s.modPosts fun q => { q with offNows := rest }) l
    | [] => s

/-! ### Protection Unit -/

/-- HALT_CAUSE (R135). -/
def execHaltCause (s : State) : Host.Outcome State Fault Refusal :=
  run s fun s => match s.posts.haltCauses with
    | c :: rest => takeHaltCause (s.modPosts fun q => { q with haltCauses := rest }) c
    | [] => s
/-- HOB_ENTERED_HALTED (R136). -/
def execHobEnteredHalted (s : State) : Host.Outcome State Fault Refusal :=
  run s fun s => match s.posts.halted with
    | c :: rest => takeHalted (s.modPosts fun q => { q with halted := rest }) c
    | [] => s
/-- MAINS_LOSS_POST (R137). -/
def execMainsLossPost (s : State) : Host.Outcome State Fault Refusal :=
  run s fun s => match s.posts.losses with
    | c :: rest => takeLoss (s.modPosts fun q => { q with losses := rest }) c
    | [] => s

/-- The first post of a board to the Protection Unit has been taken. -/
def popPuBoard (s : State) (b : BoardId) : State := s.modPosts fun q => { q with puBoards := dropFirst b q.puBoards }
/-- The first post of a board to the Coil Monitor has been taken. -/
def popCmBoard (s : State) (b : BoardId) : State := s.modPosts fun q => { q with cmBoards := dropFirst b q.cmBoards }

/-- PROTECTION_BOARD_OUT (R133). -/
def execProtectionBoardOut (b : BoardId) (s : State) : Host.Outcome State Fault Refusal :=
  run s fun s => match firstOf b s.posts.puBoards with
    | some (.out failed) => protectBoardOut (popPuBoard s b) b failed
    | _ => s
/-- PROTECTION_BOARD_IN (R133). -/
def execProtectionBoardIn (b : BoardId) (s : State) : Host.Outcome State Fault Refusal :=
  run s fun s => match firstOf b s.posts.puBoards with
    | some .into => legsIn (popPuBoard s b) b
    | _ => s
/-- BOARD_REMOVAL (R141). -/
def execBoardRemoval (b : BoardId) (s : State) : Host.Outcome State Fault Refusal :=
  run s fun s => match firstOf b s.posts.puBoards with
    | some .removal => legsOut (popPuBoard s b) b
    | _ => s

/-! ### Coil Monitor -/

/-- The head of the Protection Unit's claims on the Coil Monitor has been taken. -/
def popClaim (s : State) : State := s.modPosts fun q => { q with cmClaims := q.cmClaims.tail }

/-- COIL_BOARD_OUT (R17). -/
def execCoilBoardOut (b : BoardId) (s : State) : Host.Outcome State Fault Refusal :=
  run s fun s => match firstOf b s.posts.cmBoards with
    | some (.out _) => coilsBoardOut (popCmBoard s b) b
    | _ => s
/-- COIL_BOARD_IN (R17). -/
def execCoilBoardIn (b : BoardId) (s : State) : Host.Outcome State Fault Refusal :=
  run s fun s => match firstOf b s.posts.cmBoards with
    | some .into => coilsBoardIn (popCmBoard s b) b
    | _ => s
/-- COIL_LEG_OUT (R17). -/
def execCoilLegOut (s : State) : Host.Outcome State Fault Refusal :=
  run s fun s => match s.posts.cmClaims with
    | .legOut l :: _ => coilsLegOut (popClaim s) l
    | _ => s
/-- COIL_LEG_IN (R17). -/
def execCoilLegIn (s : State) : Host.Outcome State Fault Refusal :=
  run s fun s => match s.posts.cmClaims with
    | .legIn l :: _ => coilsLegIn (popClaim s) l
    | _ => s
/-- HOT_CLAIM (R16). -/
def execHotClaim (s : State) : Host.Outcome State Fault Refusal :=
  run s fun s => match s.posts.cmClaims with
    | .hot k :: _ => claimHot (popClaim s) k true
    | _ => s
/-- COOL_CLAIM (R16). -/
def execCoolClaim (s : State) : Host.Outcome State Fault Refusal :=
  run s fun s => match s.posts.cmClaims with
    | .cool k :: _ => claimHot (popClaim s) k false
    | _ => s

end Sys2Proof.Machine
end

