-- ==== Sys2Proof/Machine/TimeCommands.lean ====
section
/-! DEFINITION. The commands of the zero-crossing line, the timers, the store's own progress, and the tails of events. -/

namespace Sys2Proof.Machine

/-- ZERO_CROSSING (R109). -/
def execZeroCrossing (t : Time) (s : State) : Host.Outcome State Fault Refusal := run s fun s => crossing s t
/-- MAINS_SILENCE (R109). -/
def execMainsSilence (t : Time) (s : State) : Host.Outcome State Fault Refusal := run s fun s => judgeSilence (s.arrive t)
/-- UNLOCK_TIMER_EXPIRY (R111). -/
def execUnlockTimerExpiry (t : Time) (s : State) : Host.Outcome State Fault Refusal := run s fun s => judgeUnlock (s.arrive t)
/-- TIME_BASE_SECOND (R123). -/
def execTimeBaseSecond (s : State) : Host.Outcome State Fault Refusal := run s second

/-- PAN_TRACKER_ONE_SECOND (R45). -/
def execPanTrackerOneSecond (s : State) : Host.Outcome State Fault Refusal :=
  run s takeNextSecond
/-- GRACE_EXPIRY (R46). -/
def execGraceExpiry (s : State) : Host.Outcome State Fault Refusal := runTail s expireGrace
/-- HEAT_STEP_TICK (R62). -/
def execHeatStepTick (s : State) : Host.Outcome State Fault Refusal :=
  run s fun s => if s.posts.hsSeconds = 0 then s else stepTick (s.modPosts fun q => { q with hsSeconds := q.hsSeconds - 1 })
/-- STEP_END (R63). -/
def execStepEnd (s : State) : Host.Outcome State Fault Refusal := runTail s expireStep
/-- PAN_TRACKER_FRAME_END (R40), not in SUPPLY LOW (R23, log 52). -/
def execPanTrackerFrameEnd (s : State) : Host.Outcome State Fault Refusal := runSlots s takeNextFrameEnd
/-- PROTECTION_FRAME_END (R131, R132), not in SUPPLY LOW (R125, log 52). -/
def execProtectionFrameEnd (s : State) : Host.Outcome State Fault Refusal :=
  runSlots s fun s =>
    match s.posts.puFrameEnds with
    | [] => s
    | frame :: rest => protectFrameEnd (s.modPosts fun q => { q with puFrameEnds := rest }) frame
/-- COOLDOWN_EXPIRY (R132). -/
def execCooldownExpiry (s : State) : Host.Outcome State Fault Refusal := runTail s expireCooldown
/-- RETRY_WINDOW_CLOSE (R131). -/
def execRetryWindowClose (s : State) : Host.Outcome State Fault Refusal := runTail s expireWindow
/-- CENSUS_DEADLINE_EXPIRY (R143). -/
def execCensusDeadlineExpiry (b : BoardId) (t : Time) (s : State) : Host.Outcome State Fault Refusal :=
  run s fun s => censusExpires (s.arrive t) b
/-- SILENCE_TIMER_EXPIRY (R162). -/
def execSilenceTimerExpiry (t : Time) (s : State) : Host.Outcome State Fault Refusal := run s fun s => judgeQuiet (s.arrive t)
/-- RECALL_COMPLETE (R175). -/
def execRecallComplete (s : State) : Host.Outcome State Fault Refusal := run s fun s => if s.ts.recalling then completeRecall s else s
/-- COMMIT_ROW_WRITTEN (R174). -/
def execCommitRowWritten (s : State) : Host.Outcome State Fault Refusal := run s rowWritten

end Sys2Proof.Machine
end

