-- ==== Sys2Proof/Machine/Dispatch.lean ====
section
/-! DEFINITION. The meaning of each command: one arm per row of spec/opcode_table.json. -/

namespace Sys2Proof.Machine

/-- What a command does to everything but the queue. -/
def exec (i : Instr) (s : State) : Host.Outcome State Fault Refusal :=
  match i with
  | .supplyRiseAboveVDig => Sys2Proof.Machine.execSupplyRiseAboveVDig s
  | .supplyFallBelowVDig => Sys2Proof.Machine.execSupplyFallBelowVDig s
  | .supplyRiseAboveVOp => Sys2Proof.Machine.execSupplyRiseAboveVOp s
  | .supplyFallBelowVOp => Sys2Proof.Machine.execSupplyFallBelowVOp s
  | .resetLineAssertion => Sys2Proof.Machine.execResetLineAssertion s
  | .resetLineRelease => Sys2Proof.Machine.execResetLineRelease s
  | .serviceStrapRelease => Sys2Proof.Machine.execServiceStrapRelease s
  | .zeroCrossing t => Sys2Proof.Machine.execZeroCrossing t s
  | .mainsSilence t => Sys2Proof.Machine.execMainsSilence t s
  | .unlockTimerExpiry t => Sys2Proof.Machine.execUnlockTimerExpiry t s
  | .timeBaseSecond => Sys2Proof.Machine.execTimeBaseSecond s
  | .panTrackerOneSecond => Sys2Proof.Machine.execPanTrackerOneSecond s
  | .graceExpiry => Sys2Proof.Machine.execGraceExpiry s
  | .heatStepTick => Sys2Proof.Machine.execHeatStepTick s
  | .stepEnd => Sys2Proof.Machine.execStepEnd s
  | .panTrackerFrameEnd => Sys2Proof.Machine.execPanTrackerFrameEnd s
  | .protectionFrameEnd => Sys2Proof.Machine.execProtectionFrameEnd s
  | .cooldownExpiry => Sys2Proof.Machine.execCooldownExpiry s
  | .retryWindowClose => Sys2Proof.Machine.execRetryWindowClose s
  | .censusDeadlineExpiry b t => Sys2Proof.Machine.execCensusDeadlineExpiry b t s
  | .silenceTimerExpiry t => Sys2Proof.Machine.execSilenceTimerExpiry t s
  | .recallComplete => Sys2Proof.Machine.execRecallComplete s
  | .commitRowWritten => Sys2Proof.Machine.execCommitRowWritten s
  | .cellCheckFailed link cell => Sys2Proof.Machine.execCellCheckFailed link cell s
  | .identifyHub t tag => Sys2Proof.Machine.execIdentifyHub t tag s
  | .resetHub t tag => Sys2Proof.Machine.execResetHub t tag s
  | .setPace t tag window timeout => Sys2Proof.Machine.execSetPace t tag window timeout s
  | .bookNotices t tag mask => Sys2Proof.Machine.execBookNotices t tag mask s
  | .fetchSense t tag => Sys2Proof.Machine.execFetchSense t tag s
  | .startHob t tag => Sys2Proof.Machine.execStartHob t tag s
  | .stopHob t tag => Sys2Proof.Machine.execStopHob t tag s
  | .clearFault t tag => Sys2Proof.Machine.execClearFault t tag s
  | .readPan t tag slot => Sys2Proof.Machine.execReadPan t tag slot s
  | .readCoil t tag coil => Sys2Proof.Machine.execReadCoil t tag coil s
  | .readFault t tag => Sys2Proof.Machine.execReadFault t tag s
  | .loadProgram t tag handle count => Sys2Proof.Machine.execLoadProgram t tag handle count s
  | .runProgram t tag handle => Sys2Proof.Machine.execRunProgram t tag handle s
  | .writeTable t tag tbl start count => Sys2Proof.Machine.execWriteTable t tag tbl start count s
  | .readTable t tag tbl start count => Sys2Proof.Machine.execReadTable t tag tbl start count s
  | .commitTables t tag => Sys2Proof.Machine.execCommitTables t tag s
  | .recallTables t tag => Sys2Proof.Machine.execRecallTables t tag s
  | .serviceEnter t tag strap => Sys2Proof.Machine.execServiceEnter t tag strap s
  | .serviceExit t tag => Sys2Proof.Machine.execServiceExit t tag s
  | .disableCoil t tag coil => Sys2Proof.Machine.execDisableCoil t tag coil s
  | .enableCoil t tag coil => Sys2Proof.Machine.execEnableCoil t tag coil s
  | .setDerate t tag board value => Sys2Proof.Machine.execSetDerate t tag board value s
  | .illegalOrder t tag code => Sys2Proof.Machine.execIllegalOrder t tag code s
  | .data t tag payload => Sys2Proof.Machine.execData t tag payload s
  | .heat t handle action level => Sys2Proof.Machine.execHeat t handle action level s
  | .abort t tag => Sys2Proof.Machine.execAbort t tag s
  | .keepalive t => Sys2Proof.Machine.execKeepalive t s
  | .setLevel => Sys2Proof.Machine.execSetLevel s
  | .pause => Sys2Proof.Machine.execPause s
  | .resume => Sys2Proof.Machine.execResume s
  | .upstreamTransmit => Sys2Proof.Machine.execUpstreamTransmit s
  | .boardTransmit b t => Sys2Proof.Machine.execBoardTransmit b t s
  | .sense b cell => Sys2Proof.Machine.execSense b cell s
  | .ident b t cell => Sys2Proof.Machine.execIdent b t cell s
  | .memberRelease => Sys2Proof.Machine.execMemberRelease s
  | .becameSensed => Sys2Proof.Machine.execBecameSensed s
  | .sensedReleased => Sys2Proof.Machine.execSensedReleased s
  | .materialChanged => Sys2Proof.Machine.execMaterialChanged s
  | .heatLift => Sys2Proof.Machine.execHeatLift s
  | .heatReturn => Sys2Proof.Machine.execHeatReturn s
  | .heatRetirement => Sys2Proof.Machine.execHeatRetirement s
  | .heatMaterialChange => Sys2Proof.Machine.execHeatMaterialChange s
  | .heatHobHalt => Sys2Proof.Machine.execHeatHobHalt s
  | .heatStopHob => Sys2Proof.Machine.execHeatStopHob s
  | .heatStartHob => Sys2Proof.Machine.execHeatStartHob s
  | .recompute => Sys2Proof.Machine.execRecompute s
  | .rebuildRequest => Sys2Proof.Machine.execRebuildRequest s
  | .placeComplete => Sys2Proof.Machine.execPlaceComplete s
  | .endOfCheck => Sys2Proof.Machine.execEndOfCheck s
  | .offer => Sys2Proof.Machine.execOffer s
  | .swapNotice => Sys2Proof.Machine.execSwapNotice s
  | .discard => Sys2Proof.Machine.execDiscard s
  | .haltCause => Sys2Proof.Machine.execHaltCause s
  | .halt => Sys2Proof.Machine.execHalt s
  | .hobEnteredHalted => Sys2Proof.Machine.execHobEnteredHalted s
  | .clearHalt => Sys2Proof.Machine.execClearHalt s
  | .releaseNotice => Sys2Proof.Machine.execReleaseNotice s
  | .offNowRequest => Sys2Proof.Machine.execOffNowRequest s
  | .mainsLossPost => Sys2Proof.Machine.execMainsLossPost s
  | .protectionBoardOut b => Sys2Proof.Machine.execProtectionBoardOut b s
  | .protectionBoardIn b => Sys2Proof.Machine.execProtectionBoardIn b s
  | .boardRemoval b => Sys2Proof.Machine.execBoardRemoval b s
  | .coilBoardOut b => Sys2Proof.Machine.execCoilBoardOut b s
  | .coilBoardIn b => Sys2Proof.Machine.execCoilBoardIn b s
  | .coilLegOut => Sys2Proof.Machine.execCoilLegOut s
  | .coilLegIn => Sys2Proof.Machine.execCoilLegIn s
  | .hotClaim => Sys2Proof.Machine.execHotClaim s
  | .coolClaim => Sys2Proof.Machine.execCoolClaim s
  | .snapshotComplete => Sys2Proof.Machine.execSnapshotComplete s

end Sys2Proof.Machine
end

