-- ==== Sys2Proof/Machine/Step.lean ====
section
/-! DEFINITION. A step of the hub: the command at the front of the queue is taken; an empty queue idles (log 32). -/

namespace Sys2Proof.Machine

/-- One step: the command at the front, with the queue's rest; an empty queue leaves the state as it is. -/
def step (s : State) : Host.Outcome State Fault Refusal :=
  match s.pending with
  | [] => .next s
  | i :: rest => exec i { s with pending := rest }

/-- The state with the command a word spells at the front of its queue; no word spells one (log 32). -/
def State.withFetchWord (s : State) (nbits w : Nat) : State :=
  match decodeTableWord nbits w with
  | some i => { s with pending := i :: s.pending }
  | none => s

end Sys2Proof.Machine
end

