-- ==== Sys2Proof/Safety.lean ====
section
/-! DEFINITION. What the statements speak of: states in which a command acts at once, the state after an order is taken, answered or
ended, what each command is, and the invariants of the hub. -/

namespace Sys2Proof.Machine

/-! ### When a command acts at once -/

/-- The tails of the events taken so far are finished (log 3). -/
abbrev Drained (s : State) : Prop :=
  s.pt.graceDue = [] ∧ s.hs.stepDue = [] ∧ s.pu.cooldownDue = [] ∧ s.pu.windowDue = []

/-- The supply is above V_dig and no tail waits (logs 3, 4). -/
abbrev Settled (s : State) : Prop := s.sup.level ≠ .belowDig ∧ Drained s

/-- R156: an ORDER cell is taken: the hub is READY and no order is in progress. -/
abbrev OrderFree (s : State) : Prop := Settled s ∧ s.sup.hub = .ready ∧ s.cp.order = none

/-- A command that takes one step of a tail (log 3). -/
def TakesTail : Instr → Bool
  | .graceExpiry | .stepEnd | .cooldownExpiry | .retryWindowClose => true
  | _ => false

/-- A command of the supply or of a pin (log 4). -/
def ActsOnPins : Instr → Bool
  | .supplyRiseAboveVDig | .supplyFallBelowVDig | .supplyRiseAboveVOp | .supplyFallBelowVOp | .resetLineAssertion
  | .resetLineRelease | .serviceStrapRelease => true
  | _ => false

/-! ### Orders -/

/-- The time, the tag and the code of an ORDER cell other than RESET HUB. -/
def orderParts : Instr → Option (Time × Byte × Nat)
  | .identifyHub t tag => some (t, tag, 1)
  | .setPace t tag _ _ => some (t, tag, 3)
  | .bookNotices t tag _ => some (t, tag, 4)
  | .fetchSense t tag => some (t, tag, 5)
  | .startHob t tag => some (t, tag, 6)
  | .stopHob t tag => some (t, tag, 7)
  | .clearFault t tag => some (t, tag, 8)
  | .readPan t tag _ => some (t, tag, 9)
  | .readCoil t tag _ => some (t, tag, 10)
  | .readFault t tag => some (t, tag, 11)
  | .loadProgram t tag _ _ => some (t, tag, 12)
  | .runProgram t tag _ => some (t, tag, 13)
  | .writeTable t tag _ _ _ => some (t, tag, 14)
  | .readTable t tag _ _ _ => some (t, tag, 15)
  | .commitTables t tag => some (t, tag, 16)
  | .recallTables t tag => some (t, tag, 17)
  | .serviceEnter t tag _ => some (t, tag, 18)
  | .serviceExit t tag => some (t, tag, 19)
  | .disableCoil t tag _ => some (t, tag, 20)
  | .enableCoil t tag _ => some (t, tag, 21)
  | .setDerate t tag _ _ => some (t, tag, 22)
  | .illegalOrder t tag code => some (t, tag, code.toNat)
  | _ => none

/-- SERVICE ENTER brings the strap's level with it (log 7); every other command leaves it. -/
def strapSeen (i : Instr) (s : State) : State :=
  match i with
  | .serviceEnter _ _ strap => { s with sup := { s.sup with strap := strap } }
  | _ => s

/-- R155, R162: a valid cell of the appliance controller has come at `t`. -/
def heard (s : State) (t : Time) : State :=
  { s with now := max s.now t, cp := { s.cp with silence := s.cp.silence.map fun _ => max s.now t } }

/-- R156: an order has been taken at `t`. -/
def taken (s : State) (t : Time) (tag : Byte) (code : Nat) : State :=
  { s with
    now := max s.now t
    cp := { s.cp with
            silence := s.cp.silence.map fun _ => max s.now t
            order := some ⟨code, tag, 0, 0, .plain⟩
            sense := if code = 5 then s.cp.sense else ⟨.noSense, 0, 0⟩ } }

/-- R157: the status of the order in progress waits. -/
def ended (s : State) (tag : Byte) (condition : Condition) (key : SenseKey) (sense : SenseRecord) : State :=
  { s with
    cp := { s.cp with
            state := .status
            aborting := false
            credit := 0
            pendingCredit := 0
            dataIn := []
            sense := sense
            statuses := s.cp.statuses ++ [⟨tag, condition, key, true⟩] } }

/-- R157: the order has ended GOOD. -/
def endedGood (s : State) (tag : Byte) : State := ended s tag .good .noSense s.cp.sense

/-- R157: the order has ended CHECK, and the sense record is written. -/
def endedCheck (s : State) (tag : Byte) (key : SenseKey) (field detail : Nat) : State :=
  ended s tag .check key ⟨key, field, detail⟩

/-- R159: the reply waits to be sent. -/
def replied (s : State) (cells : List Payload) : State := { s with cp := { s.cp with state := .dataIn, dataIn := cells } }

/-- R158: the order is in DATA-OUT with its first grant. -/
def inDataOut (s : State) (order : Order) : State :=
  { s with
    cp := { s.cp with
            state := .dataOut
            order := some order
            credit := s.cp.credit + min s.cp.window order.expected
            pendingCredit := s.cp.pendingCredit + min s.cp.window order.expected } }

/-- R157: a BUSY or NOT READY status, in a queue that has fewer than three of them. -/
def answered (s : State) (tag : Byte) (condition : Condition) : State :=
  if (s.cp.statuses.filter fun c => !c.own).length < 3 then
    { s with cp := { s.cp with statuses := s.cp.statuses ++ [⟨tag, condition, .noSense, false⟩] } }
  else s

/-- The time a command carries; 0 for one that carries none. -/
def timeOf : Instr → Time
  | .zeroCrossing t | .mainsSilence t | .unlockTimerExpiry t | .censusDeadlineExpiry _ t | .silenceTimerExpiry t | .resetHub t _
  | .data t _ _ | .heat t _ _ _ | .abort t _ | .keepalive t | .boardTransmit _ t | .ident _ t _ => t
  | i => match orderParts i with
    | some (t, _, _) => t
    | none => 0

/-- The strap's level a command carries (log 7). -/
def strapOf : Instr → Bool
  | .serviceEnter _ _ strap => strap
  | _ => false

/-! ### Mains -/

/-- R109: a crossing at `m` is in window. -/
def InWindow (s : State) (m : Time) : Prop :=
  ∃ last, s.fe.lastCrossing = some last ∧
    88 * (if s.fe.freq = 60 then 8333 else 10000) ≤ 100 * (m - last) ∧
    100 * (m - last) ≤ 112 * (if s.fe.freq = 60 then 8333 else 10000)

/-- R109: the mains is silent at `m`. -/
def Silent (s : State) (m : Time) : Prop :=
  ∃ last, s.fe.lastCrossing = some last ∧ 125 * (if s.fe.freq = 60 then 8333 else 10000) ≤ 100 * (m - last)

/-- A crossing at `m` has become the last crossing. -/
def crossed (s : State) (m : Time) : State := { s with now := m, fe := { s.fe with lastCrossing := some m } }

/-- Every delivered field is 0. -/
def noneDelivered (s : State) : Vector PanRecord 8 := Vector.ofFn fun p => { s.pans[p] with delivered := 0 }

/-! ### Legs and boards -/

/-- R130, step 1: a trip now opens a new window: none is open, or it has run its length. -/
def newWindow (s : State) (l : LegId) : Bool :=
  match s.pu.legs[l].windowStart with
  | none => true
  | some w => decide (s.ts.work.retryWindow ≤ (s.fe.frameCount - w).toNat)

/-- R110, R116, R117, R121: an off-now to all four legs waits at every ONLINE board, in a READY hub. -/
def allOff (s : State) : Vector BoardPort 4 :=
  Vector.ofFn fun b =>
    if s.boards[b].state = .online ∧ s.sup.hub = .ready then { s.boards[b] with txOffNow := some (Vector.replicate 4 true) }
    else s.boards[b]

/-! ### Pans -/

/-- R24: the presence part of a pan with its figures computed from its members. -/
def figured (s : State) (p : PanSlot) : PresencePart :=
  if s.pans[p].pres.members = [] then s.pans[p].pres
  else
    { s.pans[p].pres with
      x := centroidOf s s.pans[p].pres.members (·.x)
      y := centroidOf s s.pans[p].pres.members (·.y)
      area := areaOf s s.pans[p].pres.members
      material := materialOfPan s s.pans[p].pres.members }

/-- R52, R71: a pan has a new heat part and the request order list is `requests`; a heat change naming the pan is posted when the state,
the level, the position or the list is not what it was. -/
def heatSet (s : State) (p : PanSlot) (heat : HeatPart) (requests : List PanSlot) : State :=
  { s with
    pans := s.pans.set p { s.pans[p] with heat := heat }
    hs := { s.hs with requests := requests }
    posts := { s.posts with
               triggers := s.posts.triggers ++
                 (if heat.state = s.pans[p].heat.state ∧ heat.level = s.pans[p].heat.level ∧
                      heat.position = s.pans[p].heat.position ∧ requests = s.hs.requests then
                    [] else [.heatChange [p]]) } }

/-- R51: the prior mode of a context that leaves LEVEL or PROGRAM. -/
def modeLeft (h : HeatPart) : PriorMode := if h.state = .program then .program else .level

/-- R56, R66: a held context back in its prior mode. -/
def modeTaken (h : HeatPart) : HeatPart :=
  { h with state := if h.prior = some .program then .program else .level, prior := none }

/-- R71: the pans whose heat state, requested level or program position `f` changes, ascending. -/
def contextsMoved (s : State) (f : HeatPart → HeatPart) : List PanSlot :=
  allPans.filter fun p =>
    !decide ((f s.pans[p].heat).state = s.pans[p].heat.state ∧ (f s.pans[p].heat).level = s.pans[p].heat.level ∧
      (f s.pans[p].heat).position = s.pans[p].heat.position)

/-- R69 to R71: every context has changed, and one heat change naming those that did is posted when one or the list did. -/
def contextsSet (s : State) (f : HeatPart → HeatPart) (requests : List PanSlot) : State :=
  { s with
    pans := Vector.ofFn fun p => { s.pans[p] with heat := f s.pans[p].heat }
    hs := { s.hs with requests := requests }
    posts := { s.posts with
               triggers := s.posts.triggers ++
                 (if contextsMoved s f = [] ∧ requests = s.hs.requests then [] else [.heatChange (contextsMoved s f)]) } }

/-! ### Banks -/

/-- R90: the Slot Scheduler's items with the standby bank replaced. -/
def standbySet (s : State) (bank : Bank) : Scheduler :=
  if s.fe.activeBank = .a then { s.ss with bankB := bank } else { s.ss with bankA := bank }

/-- R93: the items of a build that has just begun. -/
def gathering (s : State) (c : Scheduler) : Scheduler :=
  { c with stage := .gather, rerun := false, snapshot := some (snapshotOf s), cursors := none, results := none }

/-- R103: the discard has been taken, the Frame Engine's posts `rest` standing behind it: the Slot Scheduler is at its reset values with two
empty banks, the schedule parts are 0, and the offers and swap notices that waited are void (R101, R114, log 40). -/
def discardTaken (s : State) (rest : List SchedulerPost) : State :=
  { s with
    ss := { bankA := List.replicate s.fe.f [], bankB := List.replicate s.fe.f [], stage := .idle, rerun := false, restarts := 0
            snapshot := none, cursors := none, results := none }
    pans := Vector.ofFn fun p => { s.pans[p] with scheduled := 0, dropped := 0 }
    posts := { s.posts with scheduler := rest, offers := 0, swaps := 0 } }

/-! ### Coils -/

/-- R17: the coil record of a coil whose leg has just gone out of service. -/
def unseen (r : CoilRecord) : CoilRecord :=
  if r.occupancy = .absent then r else { r with unobserved := true, confirm := 0 }

/-- FORMING or MOVING. -/
def unsettled (r : PresencePart) : Bool := r.presence == .forming || r.presence == .moving

/-! ### Slots -/

/-- R112, R113: the state once a slot has begun, before it is emitted: a frame that has run its F + Q slots has ended, and slot 0 of a new
frame makes a pending swap. -/
def slotBegun (c : State) : State :=
  let ends : Bool := c.fe.frameOpen && decide (c.fe.f + c.fe.q ≤ c.fe.slotIndex + 1)
  let starts : Bool := !c.fe.frameOpen || ends
  { c with
    fe := { c.fe with
            frameOpen := true
            slotIndex := if starts then 0 else c.fe.slotIndex + 1
            serial := c.fe.serial + 1
            frameCount := if starts then c.fe.frameCount + 1 else c.fe.frameCount
            activeBank := if starts && c.fe.swapPending then (if c.fe.activeBank = .a then .b else .a) else c.fe.activeBank
            swapPending := if starts then false else c.fe.swapPending
            awaiting := if starts && c.fe.swapPending then false else c.fe.awaiting
            emitted := if ends then Vector.replicate 8 0 else c.fe.emitted }
    pans := Vector.ofFn fun p =>
      { c.pans[p] with delivered := if ends then c.fe.emitted[p] / c.fe.f else c.pans[p].delivered }
    posts := { c.posts with
               ptFrameEnds := c.posts.ptFrameEnds ++ (if ends then [c.fe.frameCount] else [])
               puFrameEnds := c.posts.puFrameEnds ++ (if ends then [c.fe.frameCount] else [])
               swaps := c.posts.swaps + (if starts && c.fe.swapPending then 1 else 0) } }

/-- R109, R111: the eighth crossing of a run, at `m`, has locked the mains, with MAINS BACK. -/
def lockedAt (s : State) (m : Time) : State :=
  queueNotice { crossed s m with fe := { (crossed s m).fe with lock := .locked, lockCount := 0, unlockTimer := none } }
    .mainsBack 0 s.fe.freq
    (match s.fe.lastLoss with
      | none => 0
      | some l => min ((m - l) / 1000) 65535)

/-! ### Foundings -/

/-- R28, R67, R72: a FREE slot that is as a founding needs it: no retirement of it waits, its context is IDLE and not listed, its store empty,
its allocation 0. -/
abbrev SlotClear (s : State) (p : PanSlot) : Prop :=
  .retirement p ∉ s.posts.pans ∧ s.pans[p].heat = .idle ∧ p ∉ s.hs.requests ∧ s.pans[p].program = [] ∧ s.pans[p].alloc = .zero

/-- R67: a context has been discarded and its store emptied. -/
def discarded (s : State) (p : PanSlot) : State :=
  let u : State := heatSet s p .idle (s.hs.requests.filter (· ≠ p))
  { u with pans := s.pans.set p { s.pans[p] with heat := .idle, program := [] } }

/-- What the Pan Tracker's events leave of what other blocks keep. A founding alone touches it (R28, R67, R72): contexts, stores, allocations,
the request order list and the figures of the recompute; a pan that it founds is IDLE with an empty store and no allocation. -/
structure FoundingsApart (s u : State) : Prop where
  /-- The rest of a pan record is kept. -/
  parts : ∀ p : PanSlot,
    u.pans[p] = { s.pans[p] with
                  pres := u.pans[p].pres, heat := u.pans[p].heat, program := u.pans[p].program, alloc := u.pans[p].alloc }
  /-- The rest of the Heat Sequencer's and the Budget Allocator's items is kept. -/
  lists : u.hs = { s.hs with requests := u.hs.requests } ∧ u.ba = { s.ba with figures := u.ba.figures }
  /-- Where no generation has advanced nothing was founded, and only presence parts change (R22). -/
  none : (∀ p : PanSlot, u.pans[p].pres.gen = s.pans[p].pres.gen) →
    u.hs = s.hs ∧ u.ba = s.ba ∧ ∀ p : PanSlot, u.pans[p] = { s.pans[p] with pres := u.pans[p].pres }
  /-- A pan that was founded starts IDLE, with an empty store and no allocation. -/
  fresh : ∀ p : PanSlot, u.pans[p].pres.gen ≠ s.pans[p].pres.gen →
    u.pans[p].heat = .idle ∧ u.pans[p].program = [] ∧ u.pans[p].alloc = .zero

/-! ### Structure -/

/-- R1: a coil is present: the structural tables are valid and T1 marks it. -/
def presentBy (s : State) (valid : Bool) (k : CoilId) : Bool := valid && s.ts.work.t1[k].present

/-- R141: a board is configured: the structural tables are valid and T0 marks it. -/
def configuredBy (s : State) (valid : Bool) (b : BoardId) : Bool := valid && s.ts.work.t0[b].configured

/-- R141: the ONLINE boards that are no longer configured, ascending. -/
def removedBoards (s : State) (valid : Bool) : List BoardId :=
  allBoards.filter fun b => !configuredBy s valid b && s.boards[b].state == .online

/-- R1, R32, R39, R141: what setting or clearing the structural-valid flag in `s` has done to coils, hot set, orphans, boards and posts. The
expected slot serial of a board that becomes UNCONFIGURED is the model's choice (log 43). -/
structure StructureTaken (s : State) (valid : Bool) (u : State) : Prop where
  /-- R1: an ABSENT coil that is present becomes VACANT with reset values. -/
  added : ∀ k : CoilId, presentBy s valid k = true → s.coils[k].occupancy = .absent →
    u.coils[k] = { CoilRecord.reset with occupancy := .vacant }
  /-- R1: a coil that is not present becomes ABSENT with reset values, and leaves the hot set and the orphan list. -/
  removed : ∀ k : CoilId, presentBy s valid k = false →
    (s.coils[k].occupancy ≠ .absent → u.coils[k] = CoilRecord.reset ∧ u.pu.hot[k] = false) ∧
      (s.coils[k].occupancy = .absent → u.coils[k] = s.coils[k] ∧ u.pu.hot[k] = s.pu.hot[k]) ∧ k ∉ u.pt.orphans
  /-- R1, R39: a coil that stays present keeps all but its occupancy and owner, and a VACANT one keeps these too. -/
  kept : ∀ k : CoilId, presentBy s valid k = true → s.coils[k].occupancy ≠ .absent →
    u.coils[k] = { s.coils[k] with occupancy := u.coils[k].occupancy, owner := u.coils[k].owner } ∧
      (s.coils[k].occupancy = .vacant → u.coils[k] = s.coils[k]) ∧
      (s.coils[k].occupancy ≠ .vacant → u.coils[k].occupancy = .sensed ∨ u.coils[k].occupancy = .member)
  /-- A coil that is present keeps its place in the hot set. -/
  hot : ∀ k : CoilId, presentBy s valid k = true → u.pu.hot[k] = s.pu.hot[k]
  /-- Nothing of a pan but its presence part changes, save by foundings. -/
  pans : FoundingsApart s u
  /-- R141: a census begins for a board newly configured; a board no longer configured becomes UNCONFIGURED, its port closed. -/
  boards : ∀ b : BoardId,
    (configuredBy s valid b = true → s.boards[b].state = .unconfigured →
      u.boards[b] = { s.boards[b] with state := .waiting, txIdent := true, deadline := none }) ∧
    (configuredBy s valid b = true → s.boards[b].state ≠ .unconfigured → u.boards[b] = s.boards[b]) ∧
    (configuredBy s valid b = false → s.boards[b].state ≠ .unconfigured →
      u.boards[b] = { s.boards[b] with
                      state := .unconfigured, deadline := none, slot := none, serial := none
                      txOffNow := none, txDrive := none, txIdent := false }) ∧
    (configuredBy s valid b = false → s.boards[b].state = .unconfigured → u.boards[b] = s.boards[b])
  /-- R141: the removal of an ONLINE board is a board out for the Coil Monitor, a removal for the Protection Unit and a board state change
  for the Budget Allocator, whose other triggers are membership changes, each with a rebuild request (R39), and the heat changes of foundings. -/
  posts : u.posts = { s.posts with
                      pans := u.posts.pans, triggers := u.posts.triggers, rebuilds := u.posts.rebuilds
                      cmBoards := u.posts.cmBoards, puBoards := u.posts.puBoards } ∧
    u.posts.cmBoards = s.posts.cmBoards ++ (removedBoards s valid).map (fun b => (b, .out false)) ∧
    u.posts.puBoards = s.posts.puBoards ++ (removedBoards s valid).map (fun b => (b, .removal)) ∧
    ∃ new : List Trigger, u.posts.triggers = s.posts.triggers ++ new ++ (removedBoards s valid).map .boardState ∧
      (∀ e ∈ new, (∃ p : PanSlot, e = .membership p) ∨ ∃ ps : List PanSlot, e = .heatChange ps) ∧
      ((∀ p : PanSlot, u.pans[p].pres.gen = s.pans[p].pres.gen) →
        ∃ pans : List PanSlot, new = pans.map .membership ∧ u.posts.rebuilds = s.posts.rebuilds + pans.length)

/-- R172: the working structural tables fail a row of the validation at an entry: a coil for rows 1 to 6, a class for 7 and 8. -/
def FailsRow (w : Tables) (row entry : Nat) : Prop :=
  (∃ k : CoilId, k.val = entry ∧
    ((row = 1 ∧ ∃ j ∈ w.t2[k], k ∉ w.t2[j]) ∨ (row = 2 ∧ k ∈ w.t2[k]) ∨ (row = 3 ∧ ∃ j ∈ w.t2[k], w.t1[j].present = false) ∨
      (row = 4 ∧ 6 < w.t2[k].length) ∨ (row = 5 ∧ w.t1[k].present = true ∧ 2 < w.t1[k].cls.val) ∨
      (row = 6 ∧ w.t1[k].present = true ∧ w.t0[coilBoard k].configured = false))) ∨
  ∃ c : Fin 3, c.val = entry ∧
    ((row = 7 ∧ w.t3[c].full ≤ w.t3[c].empty) ∨
      (row = 8 ∧ ¬ (w.t3[c].release < w.t3[c].detect ∧ w.t3[c].detect ≤ w.t3[c].fire ∧ w.t3[c].fire ≤ 200)))

/-! ### Layouts -/

/-- R178: a sent cell: its kind, its byte 1, the bytes from byte 2 on with reserved ones as zero, and the check over bytes 0 to 13, high
byte first. -/
def CellIs (cell : Cell) (kind second : Byte) (bytes : List Byte) : Prop :=
  cell[0] = kind ∧ cell[1] = second ∧ (∀ i : Fin 12, cell[i.val + 2] = bytes.getD i.val 0) ∧
    cell[14] ++ cell[15] = crc (cell.toList.take 14)

/-- R178: a payload holds the bytes listed, from byte 2 of its cell on; the reserved ones are zero. -/
def PayloadIs (p : Payload) (bytes : List Byte) : Prop := ∀ i : Fin 12, p[i] = bytes.getD i.val 0

/-- R178: the high and the low byte of a number sent in two bytes. -/
def twoBytes (n : Nat) : List Byte := [BitVec.ofNat 8 (n / 256), BitVec.ofNat 8 n]

/-- The number two bytes of a payload hold, most significant byte first. -/
def wordAt (p : Payload) (i : Fin 11) : Nat := p[i.val].toNat * 256 + p[i.val + 1].toNat

/-! ### Events of the Pan Tracker -/

/-- R11: the coil-change events after the Pan Tracker has taken a frame-end: a member release waits behind one frame-end less. -/
def frameTaken (es : List CoilEvent) : List CoilEvent :=
  es.map fun e =>
    match e with
    | .memberRelease c p m firing frames seconds => .memberRelease c p m firing (frames - 1) seconds
    | e => e

/-- R11: the coil-change events after the Pan Tracker has taken a one-second event. -/
def secondTaken (es : List CoilEvent) : List CoilEvent :=
  es.map fun e =>
    match e with
    | .memberRelease c p m firing frames seconds => .memberRelease c p m firing frames (seconds - 1)
    | e => e

/-! ### The examination queue -/

/-- R26: a list of coils joins the examination queue at its tail, each unless already queued. -/
def queued (q : List CoilId) (ks : List CoilId) : List CoilId := ks.foldl (fun q k => if k ∈ q then q else q ++ [k]) q

/-- R26: the SENSED unowned neighbours of a coil, ascending. -/
def waitingAround (s : State) (k : CoilId) : List CoilId := (neighbours s k).filter fun j => waiting s j

/-- R24: the post of a new material of a standing pan whose figures have been computed. -/
def materialPost (s : State) (p : PanSlot) (m : Material) : List PanPost :=
  if s.pans[p].pres.presence.standing ∧ s.pans[p].pres.material ≠ m then [.material p m] else []

/-- R46: a LIFTED record has been retired. -/
def retired (s : State) (p : PanSlot) (reason : Reason) : State :=
  { queueNotice s .panRetired (s.handleOf p) reason.code 0 with
    pans := s.pans.set p { s.pans[p] with pres := .freed s.pans[p].pres.gen }
    pt := { s.pt with liftOrder := s.pt.liftOrder.filter (· ≠ p) }
    posts := { s.posts with pans := s.posts.pans ++ [.retirement p] } }

/-- R28: a SENSED coil has founded a pan in a slot, and its waiting neighbours are to be examined. -/
def foundedIn (s : State) (k : CoilId) (p : PanSlot) : State :=
  { s with
    coils := s.coils.set k { s.coils[k] with occupancy := .member, owner := some p }
    pans := s.pans.set p
      { s.pans[p] with
        pres := { gen := s.pans[p].pres.gen + 1, presence := .forming, members := [k], x := s.ts.work.t1[k].x
                  y := s.ts.work.t1[k].y, area := s.coils[k].coverage, material := s.coils[k].material
                  settle := 0, changed := true, signature := none, liftedAt := none, grace := none } }
    pt := { s.pt with examQueue := queued s.pt.examQueue (waitingAround s k) } }

/-- R30: a SENSED coil has joined a pan, and its waiting neighbours are to be examined. -/
def joinedTo (s : State) (k : CoilId) (p : PanSlot) : State :=
  let grown : State :=
    { s with
      coils := s.coils.set k { s.coils[k] with occupancy := .member, owner := some p }
      pans := s.pans.set p
        { s.pans[p] with
          pres := { s.pans[p].pres with
                    members := insertCoil k s.pans[p].pres.members, settle := 0, changed := true
                    presence := if s.pans[p].pres.presence = .placed then .moving else s.pans[p].pres.presence } } }
  let standing : Bool := s.pans[p].pres.presence.standing
  { grown with
    pans := s.pans.set p { s.pans[p] with pres := figured grown p }
    pt := { s.pt with
            orphans := s.pt.orphans.filter (· ≠ k), examQueue := queued s.pt.examQueue (waitingAround s k) }
    posts := { s.posts with
               pans := s.posts.pans ++ materialPost s p (figured grown p).material
               triggers := s.posts.triggers ++ (if standing then [.membership p] else [])
               rebuilds := s.posts.rebuilds + (if standing then 1 else 0) } }

/-! ### The end of a presence, and splits -/

/-- R11: a member has become VACANT and left its pan's list; nothing else of the pan has changed yet. -/
def memberGone (s : State) (k : CoilId) (p : PanSlot) : State :=
  { s with
    coils := s.coils.set k { s.coils[k] with occupancy := .vacant, confirm := 0, owner := none }
    pans := s.pans.set p
      { s.pans[p] with pres := { s.pans[p].pres with members := s.pans[p].pres.members.filter (· ≠ k) } } }

/-- R44: a PLACED or MOVING pan has been lifted, before a grace of 0 retires it. -/
def liftedUp (s : State) (p : PanSlot) : State :=
  { queueNotice s .panLifted (s.handleOf p) s.ts.work.grace 0 with
    pans := s.pans.set p
      { s.pans[p] with
        pres := { s.pans[p].pres with
                  presence := .lifted, liftedAt := some s.fe.seconds, grace := some s.ts.work.grace } }
    pt := { s.pt with liftOrder := s.pt.liftOrder ++ [p] }
    posts := { s.posts with
               pans := s.posts.pans ++ [.lift p], triggers := s.posts.triggers ++ [.membership p]
               rebuilds := s.posts.rebuilds + 1 } }

/-- R36: two coils of a member list are connected through adjacent coils of the list. -/
def Linked (s : State) (ms : List CoilId) : CoilId → CoilId → Prop :=
  Relation.ReflTransGen fun i j => i ∈ ms ∧ j ∈ ms ∧ adjacent s i j = true

/-- R36: the part of a member list that the pan keeps: the connected component with the largest sum of coverage, and of equals the one with
the lowest coil. -/
def KeptPart (s : State) (ms kept : List CoilId) : Prop :=
  kept.Sublist ms ∧ (∃ k ∈ ms, ∀ j : CoilId, j ∈ kept ↔ j ∈ ms ∧ Linked s ms k j) ∧
    ∀ k ∈ ms, ∀ other : List CoilId, other.Sublist ms → (∀ j : CoilId, j ∈ other ↔ j ∈ ms ∧ Linked s ms k j) →
      areaOf s other < areaOf s kept ∨ (areaOf s other = areaOf s kept ∧ ∀ j ∈ other, ∃ i ∈ kept, i ≤ j)

/-- R36, R37: a pan has kept the members `kept` of those that stay after the release of `k`, and shed the others, which are to be examined
with the waiting coils around them. -/
def splitInto (s : State) (k : CoilId) (p : PanSlot) (kept : List CoilId) : State :=
  let shed : List CoilId := s.pans[p].pres.members.filter fun j => !kept.contains j
  let standing : Bool := s.pans[p].pres.presence.standing
  let grown : State :=
    { s with
      coils := Vector.ofFn fun j =>
        if j ∈ shed ∧ s.coils[j].occupancy = .member then { s.coils[j] with occupancy := .sensed, owner := none } else s.coils[j]
      pans := s.pans.set p
        { s.pans[p] with
          pres := { s.pans[p].pres with
                    members := kept, settle := 0, changed := true
                    presence := if s.pans[p].pres.presence = .placed then .moving else s.pans[p].pres.presence } } }
  let around : List CoilId := allCoils.filter fun j => waiting grown j && kept.any fun i => (neighbours grown i).contains j
  let told : State := if standing ∧ shed ≠ [] then queueNotice s .panSplit (s.handleOf p) shed.length kept.length else s
  { grown with
    pans := s.pans.set p { s.pans[p] with pres := figured grown p }
    pt := { s.pt with
            examQueue := queued s.pt.examQueue
              (shed ++ waitingAround grown k ++ around ++ shed.flatMap (waitingAround grown)) }
    posts := { s.posts with
               pans := s.posts.pans ++ materialPost s p (figured grown p).material
               triggers := s.posts.triggers ++ (if standing then [.membership p] else [])
               rebuilds := s.posts.rebuilds + (if standing then 1 else 0) }
    cp := told.cp }

/-! ### Settling and return -/

/-- R43: a pan is PLACED, its settled signature its figures. -/
def placedNow (s : State) (p : PanSlot) : Vector PanRecord 8 :=
  s.pans.set p
    { s.pans[p] with
      pres := { s.pans[p].pres with
                presence := .placed
                signature := some ⟨s.pans[p].pres.x, s.pans[p].pres.y, s.pans[p].pres.area, s.pans[p].pres.material⟩ } }

/-- R50, R171: a notice that gives a pan's centroid in the orientation in force has been queued. -/
def centroidTold (s : State) (kind : NoticeKind) (p : PanSlot) : ControllerPort :=
  (queueNotice s kind (s.handleOf p) (orient s.ts.work s.pans[p].pres.x s.pans[p].pres.y).1
    (orient s.ts.work s.pans[p].pres.x s.pans[p].pres.y).2).cp

/-- R47: a LIFTED record matches a settling pan. -/
def Matches (s : State) (w p : PanSlot) : Prop :=
  ∃ g : Signature, s.pans[w].pres.signature = some g ∧ g.material = s.pans[p].pres.material ∧
    100 * (max g.area s.pans[p].pres.area - min g.area s.pans[p].pres.area) ≤ s.ts.work.areaTolerance * g.area ∧
    max g.x s.pans[p].pres.x - min g.x s.pans[p].pres.x ≤ s.ts.work.returnRadius ∧
    max g.y s.pans[p].pres.y - min g.y s.pans[p].pres.y ≤ s.ts.work.returnRadius

/-- R48: the LIFTED record `w` has taken up the settling pan `p`, whose slot is FREE; the coils waiting around the members are to be
examined, and the orphans served. -/
def returnedTo (s : State) (w p : PanSlot) : State :=
  let r := s.pans[p].pres
  let moved : State :=
    { s with
      coils := Vector.ofFn fun j =>
        if j ∈ r.members ∧ (s.coils[j].occupancy = .sensed ∨ s.coils[j].occupancy = .member) then
          { s.coils[j] with occupancy := .member, owner := some w } else s.coils[j]
      pans := (s.pans.set w
        { s.pans[w] with
          pres := { s.pans[w].pres with
                    presence := .placed, members := r.members, settle := r.settle, changed := false, x := r.x, y := r.y
                    area := r.area, material := r.material, signature := some ⟨r.x, r.y, r.area, r.material⟩
                    liftedAt := none, grace := none } }).set p { s.pans[p] with pres := .freed r.gen } }
  { moved with
    pt := { s.pt with
            liftOrder := s.pt.liftOrder.filter (· ≠ w)
            examQueue := queued s.pt.examQueue (r.members.flatMap (waitingAround moved)) }
    posts := { s.posts with
               pans := s.posts.pans ++ [.back w], triggers := s.posts.triggers ++ [.membership w]
               rebuilds := s.posts.rebuilds + 1 }
    cp := (queueNotice s .panReturned (s.handleOf w) (orient s.ts.work r.x r.y).1 (orient s.ts.work r.x r.y).2).cp }

/-! ### Invariants -/

/-- R154, R163, R164: no queue of the Controller Port is longer than the spec gives it places: 32 notices, 16 heat cells, 4 statuses, of
which at most one is the order's own. With it what keeps it so: the order state says whether there is an order (R156), a status of the
order waits in STATUS only (R157), reply cells wait in DATA-IN only (R159), and the store works for an order in COMPLETING (R174, R175)
or, RECALLING, for no order (R176). -/
abbrev QueuesFit (s : State) : Prop :=
  (s.cp.notices.length ≤ 32 ∧ s.cp.heatQueue.length ≤ 16 ∧ s.cp.statuses.length ≤ 4) ∧
    ((s.cp.statuses.filter fun c => !c.own).length ≤ 3 ∧
      (s.cp.statuses.filter fun c => c.own).length = (if s.cp.state = .status then 1 else 0)) ∧
    (s.cp.order.isSome = true ↔ s.cp.state ≠ .idle) ∧
    (s.cp.dataIn ≠ [] → s.cp.state = .dataIn) ∧
    (s.ts.commit.isSome = true → s.cp.state = .completing ∧ (s.sup.hub = .ready ∨ s.sup.hub = .supplyLow)) ∧
    (s.ts.recalling = true → s.ts.commit = none ∧ (s.sup.hub = .recalling ∨ (s.sup.hub = .ready ∧ s.cp.state = .completing)))

/-- R52: the request order list holds each pan in LEVEL or PROGRAM exactly once and no other pan. -/
abbrev RequestsHeat (s : State) : Prop :=
  s.hs.requests.Nodup ∧ ∀ p : PanSlot, p ∈ s.hs.requests ↔ s.pans[p].heat.state.heating = true

/-- R107, R111, R116, R117, R162: what only a RUNNING hob has. With it what a hob that has left RUNNING leaves of the banks: while its
discard waits no swap is pending and a hob RUNNING again awaits its first swap (R103, R104), and once it has been taken a hob that is not
RUNNING finds the Slot Scheduler IDLE and both banks empty (R90, R103). -/
abbrev RunningOnly (s : State) : Prop :=
  (s.fe.hob ≠ .running →
    s.cp.silence = none ∧ s.fe.unlockTimer = none ∧ s.fe.swapPending = false ∧ (∀ p : PanSlot, s.fe.emitted[p] = 0) ∧
      ∀ p : PanSlot, s.pans[p].delivered = 0) ∧
    (DiscardWaits s → s.fe.swapPending = false ∧ (s.fe.hob = .running → s.fe.awaiting = true)) ∧
    (s.fe.hob ≠ .running → ¬ DiscardWaits s →
      s.ss.stage = .idle ∧ (∀ slot ∈ s.ss.bankA, slot = []) ∧ ∀ slot ∈ s.ss.bankB, slot = [])

/-- R26: between two events the examination queue is empty. -/
abbrev NothingToExamine (s : State) : Prop := s.pt.examQueue = []

/-- R21: the member lists and the owner fields agree. -/
structure MembersAgree (s : State) : Prop where
  /-- A coil is MEMBER exactly when it has an owner. -/
  owned : ∀ k : CoilId, s.coils[k].occupancy = .member ↔ s.coils[k].owner.isSome
  /-- A coil's owner is the one pan whose list holds it. -/
  listed : ∀ (k : CoilId) (p : PanSlot), k ∈ s.pans[p].pres.members ↔ s.coils[k].owner = some p
  /-- A member list is ascending. -/
  ascending : ∀ p : PanSlot, s.pans[p].pres.members.Pairwise (· < ·)
  /-- FORMING, PLACED and MOVING records have 1 to 12 members. -/
  few : ∀ p : PanSlot, s.pans[p].pres.members.length ≤ 12
  /-- FREE and LIFTED records have none, and every other record some. -/
  empty : ∀ p : PanSlot, s.pans[p].pres.members = [] ↔ s.pans[p].pres.presence = .free ∨ s.pans[p].pres.presence = .lifted
  /-- The lift order holds each LIFTED record once and no other. -/
  lifted : s.pt.liftOrder.Nodup ∧ ∀ p : PanSlot, p ∈ s.pt.liftOrder ↔ s.pans[p].pres.presence = .lifted

end Sys2Proof.Machine
end

