-- ==== Sys2Proof/WellFormed.lean ====
section
/-! DEFINITION. The checks on commands that their types do not already make. -/

namespace Sys2Proof

/-- A command is well formed when it can come: an illegal order carries an undefined code (R179), a discarded cell is one the
hub discards (R178, R180), SENSE and IDENT cells carry defined values (R180). -/
def Instr.wf : Instr → Bool
  | .illegalOrder _ _ code => code.toNat == 0 || decide (22 < code.toNat)
  | .cellCheckFailed link c => (readCell link 0 false c).isNone
  | .sense _ c => c.defined
  | .ident _ _ c => c.defined
  | .supplyRiseAboveVDig .. | .supplyFallBelowVDig .. | .supplyRiseAboveVOp .. | .supplyFallBelowVOp ..
  | .resetLineAssertion .. | .resetLineRelease .. | .serviceStrapRelease .. | .zeroCrossing ..
  | .mainsSilence .. | .unlockTimerExpiry .. | .timeBaseSecond .. | .panTrackerOneSecond .. | .graceExpiry ..
  | .heatStepTick .. | .stepEnd .. | .panTrackerFrameEnd .. | .protectionFrameEnd .. | .cooldownExpiry ..
  | .retryWindowClose .. | .censusDeadlineExpiry .. | .silenceTimerExpiry .. | .recallComplete ..
  | .commitRowWritten .. | .identifyHub .. | .resetHub .. | .setPace .. | .bookNotices .. | .fetchSense ..
  | .startHob .. | .stopHob .. | .clearFault .. | .readPan .. | .readCoil .. | .readFault .. | .loadProgram ..
  | .runProgram .. | .writeTable .. | .readTable .. | .commitTables .. | .recallTables .. | .serviceEnter ..
  | .serviceExit .. | .disableCoil .. | .enableCoil .. | .setDerate .. | .data .. | .heat .. | .abort ..
  | .keepalive .. | .setLevel .. | .pause .. | .resume .. | .upstreamTransmit .. | .boardTransmit ..
  | .memberRelease .. | .becameSensed .. | .sensedReleased .. | .materialChanged .. | .heatLift ..
  | .heatReturn .. | .heatRetirement .. | .heatMaterialChange .. | .heatHobHalt .. | .heatStopHob ..
  | .heatStartHob .. | .recompute .. | .rebuildRequest .. | .placeComplete .. | .endOfCheck .. | .offer ..
  | .swapNotice .. | .discard .. | .haltCause .. | .halt .. | .hobEnteredHalted .. | .clearHalt ..
  | .releaseNotice .. | .offNowRequest .. | .mainsLossPost .. | .protectionBoardOut .. | .protectionBoardIn ..
  | .boardRemoval .. | .coilBoardOut .. | .coilBoardIn .. | .coilLegOut .. | .coilLegIn .. | .hotClaim ..
  | .coolClaim .. | .snapshotComplete .. => true

end Sys2Proof
end

