-- ==== Sys2Proof/Certificates/Slice0/Obligations.lean ====
section
/-! DEFINITION. The statements for the provers. Each cites its rule in OBLIGATIONS.json. -/

section

open Sys2Proof Sys2Proof.Machine

/-! ### The machine -/

/-- A step takes the command at the front of the queue, with the queue's rest; on an empty queue the block idles (log 32). -/
def Obligations.StepTakesTheFrontCommand : Prop :=
  (∀ (i : Instr) (rest : List Instr) (s : State), s.pending = i :: rest → step s = exec i { s with pending := rest }) ∧
    ∀ s : State, s.pending = [] → step s = .next s

/-- Every command, in every state, answers a next state; no command touches the queue, and the clock never runs back (log 1). -/
def Obligations.EveryCommandCompletes : Prop :=
  ∀ (i : Instr) (s : State), ∃ u, exec i s = .next u ∧ u.pending = s.pending ∧ s.now ≤ u.now

/-- Above V_dig every command but the four that take one step of a tail first finishes the tails (log 3): what it does it does to
`finishDue s`, where none is left. Finishing them is what the tail commands do, one after another: the graces, then the steps, then the
cooldowns, then the windows. Below V_dig there is no state to act on (log 4): only the supply and the pins change anything. -/
def Obligations.TailsFinishFirstAndNothingActsBelowVDig : Prop :=
  (∀ (i : Instr) (s : State), s.sup.level ≠ .belowDig → TakesTail i = false →
    Settled (finishDue s) ∧ exec i s = exec i (finishDue s)) ∧
  (∀ s : State, Drained s → finishDue s = s) ∧
  (∀ (i : Instr) (s u : State), s.sup.level ≠ .belowDig →
    (i = .graceExpiry ∧ s.pt.graceDue ≠ []) ∨ (i = .stepEnd ∧ s.pt.graceDue = [] ∧ s.hs.stepDue ≠ []) ∨
      (i = .cooldownExpiry ∧ s.pt.graceDue = [] ∧ s.hs.stepDue = [] ∧ s.pu.cooldownDue ≠ []) ∨
      (i = .retryWindowClose ∧ s.pt.graceDue = [] ∧ s.hs.stepDue = [] ∧ s.pu.cooldownDue = [] ∧ s.pu.windowDue ≠ []) →
    exec i s = .next u → finishDue s = finishDue u) ∧
  (∀ (i : Instr) (s : State), s.sup.level = .belowDig → ActsOnPins i = false → exec i s = .next s)

/-! ### Reset and supply -/

/-- The reset values of the coil table, the pan table, the lists, the working tables and every block. That State.reset stands for the
part as delivered, just above V_dig, is log 5. -/
def Obligations.ResetValuesOfEveryBlock : Prop :=
  (∀ k : CoilId, State.reset.coils[k].occupancy = .absent ∧ State.reset.coils[k].owner = none ∧ State.reset.coils[k].coverage = 0 ∧
      State.reset.coils[k].range = .fine ∧ State.reset.coils[k].confirm = 0 ∧ State.reset.coils[k].material = .none ∧
      State.reset.coils[k].available = true ∧ State.reset.coils[k].temp = 0) ∧
    (∀ l : LegId, outOfService State.reset l = false ∧
      State.reset.pu.legs[l] = { state := .offline, trips := 0, windowStart := none, cooldown := none, overshoot := false }) ∧
    (∀ p : PanSlot, State.reset.pans[p] =
      { pres := { gen := 0, presence := .free, members := [], x := 0, y := 0, area := 0, material := .none, settle := 0,
                  changed := false, signature := none, liftedAt := none, grace := none }
        heat := { state := .idle, level := 0, prior := none, position := 0, remaining := 0, timed := false }
        program := []
        alloc := { k := 0, k1 := 0, k2 := 0, d := 0, g := 0, effective := 0, basis := none }
        scheduled := 0, dropped := 0, delivered := 0 }) ∧
    (State.reset.pt.liftOrder = [] ∧ State.reset.pt.orphans = [] ∧ State.reset.pt.examQueue = [] ∧
      State.reset.hs.requests = []) ∧
    (∀ b : BoardId, State.reset.ba.derating[b] = { manual := none, bucket := 0 } ∧
      State.reset.boards[b].state = .unconfigured ∧ State.reset.boards[b].requestTime = none ∧
      State.reset.boards[b].deadline = none ∧ State.reset.boards[b].serial = none ∧ State.reset.boards[b].slot = none ∧
      State.reset.boards[b].missed = 0 ∧ State.reset.boards[b].holdRun = 0 ∧ State.reset.boards[b].heatsink = 0 ∧
      State.reset.boards[b].noReport = Vector.replicate 4 0 ∧ State.reset.boards[b].lastFiring = Vector.replicate 4 none ∧
      State.reset.boards[b].txOffNow = none ∧ State.reset.boards[b].txDrive = none ∧ State.reset.boards[b].txIdent = false) ∧
    (State.reset.ss = { bankA := List.replicate 16 [], bankB := List.replicate 16 [], stage := .idle, rerun := false, restarts := 0,
                        snapshot := none, cursors := none, results := none }) ∧
    (State.reset.fe = { hob := .stopped, lock := .unlocked, lockCount := 0, lastCrossing := none, unlockTimer := none, f := 16,
                        q := 2, freq := 50, frameOpen := false, slotIndex := 0, serial := 0, frameCount := 0, activeBank := .a,
                        swapPending := false, awaiting := false, lastLoss := none, emitted := Vector.replicate 8 0,
                        probe := Vector.replicate 16 0, seconds := 0 }) ∧
    (State.reset.pu.hot = Vector.replicate 64 false ∧ State.reset.pu.firstFault = none ∧ State.reset.pu.traps = 0) ∧
    (State.reset.cp = { state := .idle, order := none, aborting := false, credit := 0, window := 1, timeout := 500, silence := none,
                        sense := ⟨.noSense, 0, 0⟩, heatQueue := [], notices := [], gap := false, mask := BitVec.allOnes 20,
                        statuses := [], pendingCredit := 0, dataIn := [] }) ∧
    (State.reset.ts.work = { t0 := Vector.replicate 4 ⟨false, .l1⟩, t1 := Vector.replicate 64 ⟨false, 0, 0, 0⟩,
                             t2 := Vector.replicate 64 [], t3 := Config.t3Default, t4 := Config.t4Default,
                             t5 := Config.t5Default, t6 := Config.t6Default } ∧
      State.reset.ts.valid = false ∧ State.reset.ts.service = false ∧ State.reset.ts.commit = none) ∧
    State.reset.sup.hub = .dormant ∧ State.reset.sup.seenReleased = false

/-- The two resets that leave the supply as it is: RESET HUB, and an assertion of the reset line once the line has been seen released;
and the release of the line. Every block takes its reset values; the store, with its current row finished, its marks and the
seen-released flag are kept. The clock, the queue, the last cells on the links and the count of free values are the model's own
(logs 1, 8, 9, 32). The model's choices, not the spec's: RESET HUB leaves the hub DORMANT while the reset line is asserted (log 35), the
posts that wait are dropped (log 36), and the line is followed below V_dig (log 4). -/
def Obligations.ResetsLeaveTheStoreOnly : Prop :=
  (∀ (t : Time) (tag : Byte) (s : State), Settled s →
    exec (.resetHub t tag) s = .next
      { State.reset with
        pending := s.pending, now := max s.now t, draws := s.draws, upLine := s.upLine, boardLines := s.boardLines
        sup := { s.sup with hub := if s.sup.level = .aboveOp ∧ s.sup.resetLine = false then .recalling else .dormant }
        ts := { State.reset.ts with
                kept := s.ts.finishRow.kept, marks := s.ts.marks
                recalling := decide (s.sup.level = .aboveOp ∧ s.sup.resetLine = false) } }) ∧
    (∀ s : State, Drained s → s.sup.seenReleased = true →
      exec .resetLineAssertion s = .next
        { State.reset with
          pending := s.pending, now := s.now, draws := s.draws, upLine := s.upLine, boardLines := s.boardLines
          sup := { s.sup with resetLine := true, hub := .dormant }
          ts := { State.reset.ts with kept := s.ts.finishRow.kept, marks := s.ts.marks } }) ∧
    (∀ s : State, Drained s → s.sup.seenReleased = false →
      exec .resetLineAssertion s = .next { s with sup := { s.sup with resetLine := true } }) ∧
    (∀ s : State, Settled s →
      exec .resetLineRelease s = .next
        { s with
          sup := { s.sup with
                   resetLine := false, seenReleased := true
                   hub := if s.sup.hub = .dormant ∧ s.sup.level = .aboveOp then .recalling else s.sup.hub }
          ts := { s.ts with recalling := s.ts.recalling || decide (s.sup.hub = .dormant ∧ s.sup.level = .aboveOp) } }) ∧
    ∀ s : State, s.sup.level = .belowDig → exec .resetLineRelease s = .next { s with sup := { s.sup with resetLine := false } }

/-- A fall below V_dig loses everything but the store and its marks, whose row being written is open (log 10); a rise above V_dig leaves
every block at its reset values, the hub DORMANT and the seen-released flag clear. -/
def Obligations.SupplyAcrossVDig : Prop :=
  (∀ s : State, s.sup.level ≠ .belowDig → Drained s →
    exec .supplyFallBelowVDig s = .next
      { State.reset with
        pending := s.pending, now := s.now, draws := s.draws + 1, upLine := s.upLine, boardLines := s.boardLines
        sup := ⟨.belowDig, s.sup.resetLine, s.sup.strap, .dormant, false⟩
        ts := { State.reset.ts with
                marks := s.ts.marks
                kept := match s.ts.commit with
                  | none => s.ts.kept
                  | some c => copyRow (Config.tornStore s.draws) s.ts.kept c.table c.row } }) ∧
    (∀ s : State, s.sup.level = .belowDig → exec .supplyFallBelowVDig s = .next s) ∧
    (∀ s : State, s.sup.level = .belowDig → s.ts.commit = none →
      exec .supplyRiseAboveVDig s = .next
        { State.reset with
          pending := s.pending, now := s.now, draws := s.draws, upLine := s.upLine, boardLines := s.boardLines
          sup := ⟨.belowOp, s.sup.resetLine, s.sup.strap, .dormant, false⟩
          ts := { State.reset.ts with kept := s.ts.kept, marks := s.ts.marks } }) ∧
    ∀ s : State, Settled s → exec .supplyRiseAboveVDig s = .next s

/-- A rise above V_op: a DORMANT hub whose reset line is not asserted begins its recall, and the line counts as seen released (log 6); a
hub in SUPPLY LOW becomes READY, every WAITING board's census begins afresh, and what the fall posted is taken where it still waits (log
45): the halt causes, so that a hob still RUNNING is HALTED by the first halt that waits for it, its cause SUPPLY if none does (R122,
R176), and with a STOPPED hob they are protective events (R135); an entry to HALTED (R138); a discard, so that READY finds the banks empty
(R90). A fall below V_op. READY becomes SUPPLY LOW: the last cell on the link of each ONLINE board is an off-now to all four legs, the
ports fall silent, their runs kept (log 53), the frame is cut, SUPPLY is posted; a commit in progress stops after its row and a RECALL
TABLES is abandoned. RECALLING becomes DORMANT and its recall is abandoned; DORMANT stays. -/
def Obligations.SupplyAcrossVOp : Prop :=
  ((∀ s : State, Settled s → s.sup.level = .belowOp → s.sup.hub = .dormant → s.sup.resetLine = false →
    exec .supplyRiseAboveVOp s = .next
      { s with
        sup := { s.sup with level := .aboveOp, hub := .recalling, seenReleased := true }
        ts := { s.ts with recalling := true } }) ∧
    (∀ s : State, Settled s → s.sup.level = .belowOp → s.sup.hub = .dormant → s.sup.resetLine = true →
      exec .supplyRiseAboveVOp s = .next { s with sup := { s.sup with level := .aboveOp } }) ∧
    (∀ s : State, Settled s → s.sup.level = .belowOp → s.sup.hub = .supplyLow →
      let back (v : State) : State :=
        { v with
          sup := { s.sup with level := .aboveOp, hub := .ready, seenReleased := s.sup.seenReleased || !s.sup.resetLine }
          boards := Vector.ofFn fun b =>
            if s.boards[b].state = .waiting then { s.boards[b] with txIdent := true, deadline := none } else s.boards[b] }
      let h : State := finishHalted (finishHalt s)
      (.discard ∉ h.posts.scheduler → exec .supplyRiseAboveVOp s = .next (back h)) ∧
      ∀ front rest : List SchedulerPost, h.posts.scheduler = front ++ .discard :: rest → .discard ∉ rest →
        exec .supplyRiseAboveVOp s = .next (back (discardTaken h rest))) ∧
    (∀ s : State, s.sup.hub = .supplyLow →
      let claims : List HobClaim := (s.posts.hobClaims ++ s.posts.haltCauses.map HobClaim.halt).dropWhile (· == HobClaim.clear)
      let none : State := { s with posts := { s.posts with haltCauses := [] } }
      (∀ (c : HaltCause) (rest : List HobClaim), s.fe.hob = .running →
        claims = .halt c :: rest ∨ (claims = [] ∧ c = .supply ∧ rest = []) →
        finishHalt s =
          { s with
            fe := { s.fe with hob := .halted, unlockTimer := .none, swapPending := false, emitted := Vector.replicate 8 0 }
            pans := noneDelivered s
            posts := { s.posts with
                       haltCauses := [], hobClaims := rest, scheduler := s.posts.scheduler ++ [.discard]
                       hob := s.posts.hob ++ [.halt], halted := s.posts.halted ++ [c] }
            cp := { s.cp with silence := .none } }) ∧
      (s.fe.hob = .stopped →
        finishHalt s = s.posts.haltCauses.foldl (fun v c => protective v c.kind .none .none .none 0) none) ∧
      (s.fe.hob = .halted → finishHalt s = none)) ∧
    (∀ s : State, s.posts.halted = [] → finishHalted s = s) ∧
    (∀ s u : State, Settled s → s.posts.halted ≠ [] → exec .hobEnteredHalted s = .next u → finishHalted s = finishHalted u) ∧
    ∀ s : State, Settled s → s.sup.level = .aboveOp → exec .supplyRiseAboveVOp s = .next s) ∧
  ((∀ s : State, Settled s → s.sup.level = .aboveOp → s.sup.hub = .ready →
    let low : State :=
      { s with
        sup := { s.sup with level := .belowOp, hub := .supplyLow }
        boardLines := Vector.ofFn fun b =>
          if s.boards[b].state = .online then some (offNowCell (Vector.replicate 4 true)) else s.boardLines[b]
        boards := Vector.ofFn fun b =>
          { s.boards[b] with
            txOffNow := none, txDrive := none, txIdent := false, slot := none, serial := none
            deadline := if s.boards[b].state = .waiting then none else s.boards[b].deadline }
        fe := { s.fe with emitted := Vector.replicate 8 0, frameOpen := false }
        pans := noneDelivered s
        posts := { s.posts with haltCauses := s.posts.haltCauses ++ [.supply] } }
    (s.ts.commit = none → s.ts.recalling = false → exec .supplyFallBelowVOp s = .next low) ∧
      (s.ts.commit.isSome = true → exec .supplyFallBelowVOp s = .next { low with cp := { s.cp with aborting := true } }) ∧
      ∀ o : Order, s.ts.commit = none → s.ts.recalling = true → s.cp.order = some o →
        exec .supplyFallBelowVOp s = .next (endedCheck { low with ts := { s.ts with recalling := false } } o.tag .aborted 0 0)) ∧
    (∀ s : State, Settled s → s.sup.level = .aboveOp → s.sup.hub = .recalling →
      exec .supplyFallBelowVOp s = .next
        { s with sup := { s.sup with level := .belowOp, hub := .dormant }, ts := { s.ts with recalling := false } }) ∧
    (∀ s : State, Settled s → s.sup.level = .aboveOp → s.sup.hub = .dormant →
      exec .supplyFallBelowVOp s = .next { s with sup := { s.sup with level := .belowOp } }) ∧
    ∀ s : State, Settled s → s.sup.level = .belowOp → exec .supplyFallBelowVOp s = .next s)

/-- A strap release with service mode off changes the strap only. With service mode on it ends service mode, in SUPPLY LOW too (log 57):
where the working structural tables validate, the structural-valid flag is set, and else cleared, every coil becomes ABSENT and every
board UNCONFIGURED. What setting or clearing it does to coils, hot set, orphans, boards, posts and pans is StructureTaken (R1, R39, R141); it
leaves the controller link but its notices, the slots and the supply as they are. Where it releases a member, what was posted to the Pan
Tracker is taken first (R11, R20), as its commands take it: the frame-ends, the one-second events with the graces that run out, then the
coil-change events in their order (log 56). -/
def Obligations.StrapReleaseForcesExit : Prop :=
  ((∀ s : State, Settled s → s.ts.service = false →
    exec .serviceStrapRelease s = .next { s with sup := { s.sup with strap := false } }) ∧
    ∀ s : State, Settled s → s.ts.service = true →
      let valid : Bool := (validate s.ts.work).isNone
      let r : State := finishReleases s s.ts.work valid
      ∃ u, exec .serviceStrapRelease s = .next u ∧
        u = { r with
              sup := { s.sup with strap := false }
              ts := { s.ts with service := false, valid := valid }
              coils := u.coils, pans := u.pans, pt := u.pt, hs := u.hs, ba := u.ba, pu := { r.pu with hot := u.pu.hot }
              boards := u.boards, posts := u.posts, cp := { r.cp with notices := u.cp.notices, gap := u.cp.gap } } ∧
        (∀ k : CoilId, valid = false →
          u.coils[k].occupancy = .absent ∧ (r.coils[k].occupancy ≠ .absent → u.coils[k] = CoilRecord.reset)) ∧
        (∀ b : BoardId, valid = false → u.boards[b].state = .unconfigured) ∧
        (∀ k : CoilId, valid = true →
          (s.ts.work.t1[k].present = true → s.coils[k].occupancy = .absent →
            u.coils[k] = { CoilRecord.reset with occupancy := .vacant }) ∧
          (s.ts.work.t1[k].present = false → u.coils[k].occupancy = .absent)) ∧
        StructureTaken r valid u) ∧
  (∀ (s : State) (work : Tables) (valid : Bool),
    ((∃ k : CoilId, s.coils[k].occupancy = .member ∧ ¬ (valid = true ∧ work.t1[k].present = true)) →
      finishReleases s work valid = finishTracker s) ∧
    ((∀ k : CoilId, s.coils[k].occupancy = .member → valid = true ∧ work.t1[k].present = true) →
      finishReleases s work valid = s)) ∧
  (∀ s : State,
    (s.posts.ptFrameEnds ≠ [] → finishTracker s = finishTracker (takeNextFrameEnd s)) ∧
    (s.posts.ptFrameEnds = [] → 0 < s.posts.ptSeconds → finishTracker s = finishTracker (takeWholeSecond s)) ∧
    (s.posts.ptFrameEnds = [] → s.posts.ptSeconds = 0 → s.posts.coilEvents ≠ [] →
      finishTracker s = finishTracker (takeNextCoilEvent s)) ∧
    (s.posts.ptFrameEnds = [] → s.posts.ptSeconds = 0 → s.posts.coilEvents = [] → finishTracker s = s)) ∧
  ∀ s : State, Settled s → s.sup.hub ≠ .supplyLow →
    exec .panTrackerFrameEnd s = .next (takeNextFrameEnd s) ∧
    exec .panTrackerOneSecond s = .next (takeNextSecond s) ∧ takeWholeSecond s = finishDue (takeNextSecond s) ∧
    ∀ (i : Instr) (e : CoilEvent) (rest : List CoilEvent), s.posts.coilEvents = e :: rest →
      (match e with
        | .becameSensed _ _ => i = .becameSensed
        | .released _ _ => i = .sensedReleased
        | .materialChanged _ _ _ => i = .materialChanged
        | .memberRelease _ _ _ _ frames seconds => i = .memberRelease ∧ frames = 0 ∧ seconds = 0) →
      exec i s = .next (takeNextCoilEvent s)

/-! ### Mains, slots and the time base -/

/-- The lock table at a crossing that is no slot start: UNLOCKED begins a run, LOCKING counts it or begins a new run, and the eighth of a
run locks. Every crossing becomes the last crossing; whether it is in window is judged against the one before. -/
def Obligations.CrossingsBringLock : Prop :=
  ∀ (s : State) (t : Time), Settled s →
    (s.fe.lock = .unlocked →
      exec (.zeroCrossing t) s = .next
        { crossed s (max s.now t) with fe := { (crossed s (max s.now t)).fe with lock := .locking, lockCount := 1 } }) ∧
    (s.fe.lock = .locking → ¬ InWindow s (max s.now t) →
      exec (.zeroCrossing t) s = .next
        { crossed s (max s.now t) with fe := { (crossed s (max s.now t)).fe with lockCount := 1 } }) ∧
    (s.fe.lock = .locking → InWindow s (max s.now t) → s.fe.lockCount < 7 →
      exec (.zeroCrossing t) s = .next
        { crossed s (max s.now t) with fe := { (crossed s (max s.now t)).fe with lockCount := s.fe.lockCount + 1 } }) ∧
    (s.fe.lock = .locking → InWindow s (max s.now t) → 7 ≤ s.fe.lockCount → s.sup.hub ≠ .ready →
      exec (.zeroCrossing t) s = .next
        (queueNotice
          { crossed s (max s.now t) with
            fe := { (crossed s (max s.now t)).fe with lock := .locked, lockCount := 0, unlockTimer := none } }
          .mainsBack 0 s.fe.freq
          (match s.fe.lastLoss with
            | none => 0
            | some m => min ((max s.now t - m) / 1000) 65535))) ∧
    (s.fe.lock = .locked → InWindow s (max s.now t) → s.sup.hub ≠ .ready →
      exec (.zeroCrossing t) s = .next (crossed s (max s.now t)))

/-- A loss of lock, at a crossing out of window or at a silence, takes the six steps of R110 and nothing else; a silence in LOCKING leads
to UNLOCKED, and one in UNLOCKED, or before the mains is silent, changes only the clock. -/
def Obligations.LossOfLock : Prop :=
  ∀ (s : State) (t : Time), Settled s →
    let lost (fe : FrameEngine) (cause : Nat) (lock : LockState) (count : Nat) : State :=
      { queueNotice
          { s with
            now := max s.now t
            fe := { fe with emitted := Vector.replicate 8 0, frameOpen := false }
            pans := noneDelivered s
            boards := allOff s }
          .mainsLost 0 cause fe.serial.toNat with
        fe := { fe with
                emitted := Vector.replicate 8 0, frameOpen := false, lock := lock, lockCount := count
                unlockTimer := if fe.hob = .running then some (max s.now t) else fe.unlockTimer
                lastLoss := some (max s.now t) } }
    (s.fe.lock = .locked → ¬ InWindow s (max s.now t) →
      exec (.zeroCrossing t) s = .next
        { lost (crossed s (max s.now t)).fe 0 .locking 1 with
          posts := { s.posts with losses := s.posts.losses ++ [.outOfWindow] } }) ∧
    (s.fe.lock = .locked → Silent s (max s.now t) →
      exec (.mainsSilence t) s = .next
        { lost s.fe 1 .unlocked 0 with posts := { s.posts with losses := s.posts.losses ++ [.noCrossing] } }) ∧
    (s.fe.lock = .locking → Silent s (max s.now t) →
      exec (.mainsSilence t) s = .next { s with now := max s.now t, fe := { s.fe with lock := .unlocked, lockCount := 0 } }) ∧
    (s.fe.lock = .unlocked ∨ ¬ Silent s (max s.now t) → exec (.mainsSilence t) s = .next { s with now := max s.now t })

/-- The unlock timer that has run 2000 ms posts MAINS once and stops; before that, and without a timer, its expiry changes only the
clock. A whole second advances the seconds count and is posted to the Pan Tracker and to the Heat Sequencer. The silence timer that has
run the silence timeout posts SILENCE once and stops; else its expiry changes only the clock. That a timer has run out at the limit
itself, where R111 and R162 say that it passes it, is the model's reading (log 16). -/
def Obligations.TimersPostTheirEvents : Prop :=
  ((∀ (s : State) (t m : Time), Settled s → s.fe.unlockTimer = some m → 2000000 ≤ max s.now t - m →
    exec (.unlockTimerExpiry t) s = .next
      { s with
        now := max s.now t
        fe := { s.fe with unlockTimer := none }
        posts := { s.posts with haltCauses := s.posts.haltCauses ++ [.mains] } }) ∧
    (∀ (s : State) (t : Time), Settled s → (∀ m, s.fe.unlockTimer = some m → max s.now t - m < 2000000) →
      exec (.unlockTimerExpiry t) s = .next { s with now := max s.now t }) ∧
    ∀ s : State, Settled s →
      exec .timeBaseSecond s = .next
        { s with
          fe := { s.fe with seconds := s.fe.seconds + 1 }
          posts := { s.posts with ptSeconds := s.posts.ptSeconds + 1, hsSeconds := s.posts.hsSeconds + 1 } }) ∧
  (∀ (s : State) (t : Time), Settled s →
    (∀ m : Time, s.cp.silence = some m → s.cp.timeout * 1000 ≤ max s.now t - m →
      exec (.silenceTimerExpiry t) s = .next
        { s with
          now := max s.now t
          cp := { s.cp with silence := none }
          posts := { s.posts with haltCauses := s.posts.haltCauses ++ [.silence] } }) ∧
    ((∀ m : Time, s.cp.silence = some m → max s.now t - m < s.cp.timeout * 1000) →
      exec (.silenceTimerExpiry t) s = .next { s with now := max s.now t }))

/-- A slot start in a READY hub, at a crossing of LOCKED mains or at the one that locks them, whose MAINS BACK is queued before the slot begins
and carries the frame count of before it (R109, R112; log 17): which slot begins, the serial, the frame count, the frame end's delivered
power and posts, a pending swap at a frame start. Every ONLINE board takes its drive cell
(R119), in ascending order (log 41): IDLE for a held board, firings in an active slot of a RUNNING hob, probes in a quiet one, each leg's
probe selector the first candidate from its probe position, which moves past it (R120). A board without an open record opens one
(R148). One with a record judges the ended slot first: NO REPORT for a fired leg silent twice running (R151), the missed and hold runs,
and at 3 or 51 MISSED SLOTS or HOLD takes the board out (R149, R152; both at once: log 42); else the new record opens, without a
firing of a leg just tripped. Boards that are not ONLINE are left. -/
def Obligations.SlotStarts : Prop :=
  (∀ (s : State) (t : Time), Settled s → s.sup.hub = .ready → s.fe.lock = .locked → InWindow s (max s.now t) →
    let ends : Bool := s.fe.frameOpen && decide (s.fe.f + s.fe.q ≤ s.fe.slotIndex + 1)
    let starts : Bool := !s.fe.frameOpen || ends
    let index : Nat := if starts then 0 else s.fe.slotIndex + 1
    ∃ u, exec (.zeroCrossing t) s = .next u ∧
      u = { s with
            now := max s.now t, fe := u.fe, pans := u.pans, pu := u.pu, boards := u.boards, posts := u.posts
            cp := { s.cp with notices := u.cp.notices, gap := u.cp.gap } } ∧
      u.fe = { s.fe with
               lastCrossing := some (max s.now t)
               frameOpen := true
               slotIndex := index
               serial := s.fe.serial + 1
               frameCount := if starts then s.fe.frameCount + 1 else s.fe.frameCount
               activeBank := if starts && s.fe.swapPending then (if s.fe.activeBank = .a then .b else .a) else s.fe.activeBank
               swapPending := if starts then false else s.fe.swapPending
               awaiting := if starts && s.fe.swapPending then false else s.fe.awaiting
               emitted := u.fe.emitted
               probe := u.fe.probe } ∧
      (∀ p : PanSlot, u.pans[p] =
        { s.pans[p] with delivered := if ends then s.fe.emitted[p] / s.fe.f else s.pans[p].delivered }) ∧
      (u.posts.ptFrameEnds = s.posts.ptFrameEnds ++ (if ends then [s.fe.frameCount] else []) ∧
        u.posts.puFrameEnds = s.posts.puFrameEnds ++ (if ends then [s.fe.frameCount] else []) ∧
        u.posts.swaps = s.posts.swaps + (if starts && s.fe.swapPending then 1 else 0)) ∧
      (∀ b : BoardId, s.boards[b].state ≠ .online → u.boards[b] = s.boards[b]) ∧
      ∀ b : BoardId, s.boards[b].state = .online → s.boards[b].slot = none →
        ∃ d : DriveCell, u.boards[b].txDrive = some d ∧ u.boards[b].serial = some d.serial ∧
          u.boards[b].slot = some ⟨d.legs, Vector.replicate 4 false, false⟩ ∧ d.serial = s.fe.serial + 1 ∧
          d.kind = (if index < s.fe.f then (if s.fe.hob = .running then .active else .idle) else .quiet) ∧
          ∀ (l : LocalLeg) (sel : Selector) (sp : Nat) (p : PanSlot), d.legs[l] = .fire sel sp p →
            index < s.fe.f ∧ s.fe.hob = .running ∧ eligible s (coilAt b l sel) = true ∧
              s.coils[coilAt b l sel].owner = some p ∧ s.pans[p].pres.presence.standing = true ∧
              s.pans[p].heat.state.heating = true) ∧
  (∀ (s c : State) (t : Time), Settled s → s.sup.hub = .ready → InWindow s (max s.now t) →
    (s.fe.lock = .locked ∧ c = crossed s (max s.now t)) ∨
      (s.fe.lock = .locking ∧ 7 ≤ s.fe.lockCount ∧ c = lockedAt s (max s.now t)) →
    let u : State := slotBegun c
    let active : Bool := decide (u.fe.slotIndex < c.fe.f)
    let e : Emission := if active then emission u else ⟨[], u.fe.emitted⟩
    let held (b : BoardId) : Bool := (c.boards[b].slot.map (·.hold)).getD false
    let probed (l : LegId) : Option Selector :=
      if c.pu.legs[l].state = .ready ∧ c.boards[legBoard l].state = .online ∧ held (legBoard l) = false then
        [c.fe.probe[l], c.fe.probe[l] + 1, c.fe.probe[l] + 2, c.fe.probe[l] + 3].find? fun sel =>
          decide (c.coils[legCoil l sel].occupancy ≠ .absent ∧ c.coils[legCoil l sel].disabled = false)
      else none
    let kind (b : BoardId) : SlotKind :=
      match held b, active with
      | true, _ => .idle
      | false, true => if c.fe.hob = .running then .active else .idle
      | false, false => .quiet
    let drive (b : BoardId) (l : LocalLeg) : LegDrive :=
      match kind b with
      | .idle => .none
      | .active =>
        match e.kept.find? fun x => coilLeg x.coil == legAt b l with
        | some x => .fire (coilSelector x.coil) x.setpoint x.pan
        | none => .none
      | .quiet =>
        match probed (legAt b l) with
        | some sel => .probe sel
        | none => .none
    exec (.zeroCrossing t) s = .next
      ((allBoards.filter fun b => c.boards[b].state == .online).foldl
        (fun v b => takeDrive v b ⟨c.fe.serial + 1, kind b, Vector.ofFn (drive b)⟩)
        { u with
          fe := { u.fe with
                  emitted := e.emitted
                  probe := if active then c.fe.probe else Vector.ofFn fun l =>
                    match probed l with
                    | some sel => sel + 1
                    | none => c.fe.probe[l] } })) ∧
  ∀ (s : State) (b : BoardId) (cell : DriveCell), s.boards[b].state = .online →
    let port := s.boards[b]
    let opened (v : State) (cell : DriveCell) : State :=
      { v with
        boards := v.boards.set b
          { v.boards[b] with
            serial := some cell.serial
            slot := some ⟨cell.legs, Vector.replicate 4 false, false⟩
            lastFiring := Vector.ofFn fun l =>
              match cell.legs[l] with
              | .fire sel sp _ => some (coilAt b l sel, sp)
              | _ => port.lastFiring[l]
            txDrive := some cell } }
    (port.slot = none → takeDrive s b cell = opened s cell) ∧
    ∀ r : SlotRecord, port.slot = some r →
      let silent (l : LocalLeg) : Bool :=
        match r.drive[l] with
        | .fire _ _ _ => !r.reported[l]
        | _ => false
      let due (l : LocalLeg) : Bool := silent l && decide (1 ≤ port.noReport[l])
      let missed : Nat := if ∀ l : LocalLeg, r.reported[l] = true then 0 else port.missed + 1
      let holdRun : Nat := if r.hold then port.holdRun + 1 else 0
      let tripped : State := (four.filter due).foldl
        (fun v l => trip v (legAt b l) .noReport (port.lastFiring[l].map (·.1)) ((port.lastFiring[l].map (·.2)).getD 0)) s
      let judged : State :=
        { tripped with
          boards := s.boards.set b
            { port with
              noReport := Vector.ofFn fun l => if silent l && !due l then port.noReport[l] + 1 else 0
              missed := missed, holdRun := holdRun } }
      (3 ≤ missed → takeDrive s b cell = boardLeaves judged b false .missedSlots) ∧
      (missed < 3 → 51 ≤ holdRun → takeDrive s b cell = boardLeaves judged b false .hold) ∧
      (missed < 3 → holdRun < 51 →
        takeDrive s b cell =
          opened judged
            { cell with
              legs := Vector.ofFn fun l =>
                match cell.legs[l] with
                | .fire sel sp sync => if due l then .none else .fire sel sp sync
                | d => d })

/-- The emission of a slot: each kept firing is of the active bank's list and passes the tests of its coil and pan; a leg is given only
a kept firing; the kept setpoints stay within each phase limit and the hob limit, and what a pan is given stays within its cap. The
slot's firings are tested in list order, each against those kept before it: one that passes every test of R118 is kept and its setpoint
joins its pan's emitted energy, any other is dropped; in a hob that is not RUNNING, or awaits its first swap, none is kept. -/
def Obligations.EmissionStaysWithinLimits : Prop :=
  (∀ s : State,
    (∀ x ∈ (emission s).kept, x ∈ activeList s s.fe.slotIndex ∧ s.fe.hob = .running ∧ s.fe.awaiting = false ∧
      s.boards[coilBoard x.coil].state = .online ∧ boardHeld s (coilBoard x.coil) = false ∧ eligible s x.coil = true ∧
      s.coils[x.coil].owner = some x.pan ∧ s.pans[x.pan].pres.presence.standing = true ∧
      s.pans[x.pan].heat.state.heating = true) ∧
    (∀ ph : Phase, setpoints ((emission s).kept.filter fun x => s.ts.work.phaseOf (coilBoard x.coil) == ph) ≤
      s.ts.work.phaseLimit ph) ∧
    setpoints (emission s).kept ≤ s.ts.work.hobLimit ∧
    (∀ p : PanSlot, (emission s).emitted[p] = s.fe.emitted[p] + setpoints ((emission s).kept.filter fun x => x.pan == p) ∧
      (emission s).emitted[p] ≤ max s.fe.emitted[p] (s.pans[p].alloc.g * s.fe.f)) ∧
    ∀ (b : BoardId) (l : LocalLeg) (sel : Selector) (sp : Nat) (p : PanSlot),
      driveLeg s (emission s).kept b l = .fire sel sp p → (⟨coilAt b l sel, p, sp⟩ : Firing) ∈ (emission s).kept) ∧
  ∀ s : State,
    (s.fe.hob = .running → s.fe.awaiting = false →
      emission s = (activeList s s.fe.slotIndex).foldl (emitOne s) ⟨[], s.fe.emitted⟩) ∧
    (s.fe.hob ≠ .running ∨ s.fe.awaiting = true → emission s = ⟨[], s.fe.emitted⟩) ∧
    ∀ (e : Emission) (x : Firing),
      let b := coilBoard x.coil
      let onPhase (y : Firing) : Bool := decide (s.ts.work.phaseOf (coilBoard y.coil) = s.ts.work.phaseOf b)
      let passes : Prop :=
        s.boards[b].state = .online ∧ (∀ r : SlotRecord, s.boards[b].slot = some r → r.hold = false) ∧
          s.coils[x.coil].occupancy = .member ∧ s.coils[x.coil].owner = some x.pan ∧
          (s.pans[x.pan].pres.presence = .placed ∨ s.pans[x.pan].pres.presence = .moving) ∧
          (s.pans[x.pan].heat.state = .level ∨ s.pans[x.pan].heat.state = .program) ∧ eligible s x.coil = true ∧
          e.emitted[x.pan] + x.setpoint ≤ s.pans[x.pan].alloc.g * s.fe.f ∧
          ((e.kept.filter onPhase).map (·.setpoint)).sum + x.setpoint ≤ s.ts.work.phaseLimit (s.ts.work.phaseOf b) ∧
          (e.kept.map (·.setpoint)).sum + x.setpoint ≤ s.ts.work.hobLimit
      (passes → emitOne s e x = ⟨e.kept ++ [x], e.emitted.set x.pan (e.emitted[x.pan] + x.setpoint)⟩) ∧
      (¬ passes → emitOne s e x = e)

/-! ### Orders -/

/-- An ORDER cell other than RESET HUB that is not taken: NOT READY while the hub is not READY (but for IDENTIFY HUB), BUSY while an
order is in progress; without a free place the status is not queued. Nothing else changes but the clock, the silence timer and, at a
SERVICE ENTER, the strap's level (log 7). An order code that is not defined is taken and ends CHECK, ILLEGAL ORDER. -/
def Obligations.OrdersTurnedAwayOrIllegal : Prop :=
  (∀ (i : Instr) (t : Time) (tag : Byte) (code : Nat) (s : State), orderParts i = some (t, tag, code) → Settled s →
    (s.sup.hub ≠ .ready → code ≠ 1 → exec i s = .next (answered (heard (strapSeen i s) t) tag .notReady)) ∧
    (s.sup.hub = .ready ∨ code = 1 → s.cp.order.isSome = true →
      exec i s = .next (answered (heard (strapSeen i s) t) tag .busy))) ∧
  (∀ (s : State) (t : Time) (tag code : Byte), OrderFree s →
    exec (.illegalOrder t tag code) s = .next (endedCheck (taken s t tag code.toNat) tag .illegalOrder 0 0))

/-- The orders that read: the reply is read as the order is taken, and a field out of range ends CHECK, BAD FIELD with its number (log 20).
IDENTIFY HUB is taken in every hub state; FETCH SENSE clears the record it has read. READ PAN, READ FAULT and READ TABLE draw the free
values of the fields that are absent (log 9). Every reply cell is laid out byte by byte as in sections 11.4 and 11.5, with the codes of
section 11.7, centroids in the orientation of R171, and the value of a fault record in 10 W where it is a power (log 21). What is left
open: the bytes of an absent signature, basis, lifted-at and fault record, the offset of a closed window, and the places of a T2 entry
beyond its count (log 9). -/
def Obligations.ReadOrdersReply : Prop :=
  ((∀ (s : State) (t : Time) (tag : Byte), Settled s → s.cp.order = none →
    exec (.identifyHub t tag) s = .next (replied (taken s t tag 1) (identifyReply s))) ∧
    (∀ (s : State) (t : Time) (tag : Byte), OrderFree s →
      exec (.fetchSense t tag) s = .next
        (replied { taken s t tag 5 with cp := { (taken s t tag 5).cp with sense := ⟨.noSense, 0, 0⟩ } }
          (senseReply s.cp.sense))) ∧
    (∀ (s : State) (t : Time) (tag coil : Byte), OrderFree s →
      (∀ h : coil.toNat < 64,
        exec (.readCoil t tag coil) s = .next (replied (taken s t tag 10) (coilReply s ⟨coil.toNat, h⟩))) ∧
      (64 ≤ coil.toNat → exec (.readCoil t tag coil) s = .next (endedCheck (taken s t tag 10) tag .badField 1 0))) ∧
    (∀ (s : State) (t : Time) (tag slot : Byte), OrderFree s →
      (∀ h : slot.toNat < 8,
        exec (.readPan t tag slot) s = .next
          (replied { taken s t tag 9 with draws := s.draws + 1 } (panReply s ⟨slot.toNat, h⟩))) ∧
      (8 ≤ slot.toNat → exec (.readPan t tag slot) s = .next (endedCheck (taken s t tag 9) tag .badField 1 0))) ∧
    (∀ (s : State) (t : Time) (tag : Byte), OrderFree s →
      exec (.readFault t tag) s = .next (replied { taken s t tag 11 with draws := s.draws + 1 } (faultReply s))) ∧
    ∀ (s : State) (t : Time) (tag table start count : Byte), OrderFree s →
      (7 ≤ table.toNat →
        exec (.readTable t tag table start count) s = .next (endedCheck (taken s t tag 15) tag .badField 1 0)) ∧
      ∀ h : table.toNat < 7,
        (lastEntry ⟨table.toNat, h⟩ < start.toNat →
          exec (.readTable t tag table start count) s = .next (endedCheck (taken s t tag 15) tag .badField 2 0)) ∧
        (start.toNat ≤ lastEntry ⟨table.toNat, h⟩ → count.toNat = 0 ∨ lastEntry ⟨table.toNat, h⟩ + 1 < count.toNat →
          exec (.readTable t tag table start count) s = .next (endedCheck (taken s t tag 15) tag .badField 3 0)) ∧
        (start.toNat ≤ lastEntry ⟨table.toNat, h⟩ → 0 < count.toNat → count.toNat ≤ lastEntry ⟨table.toNat, h⟩ + 1 →
          exec (.readTable t tag table start count) s = .next
            (replied { taken s t tag 15 with draws := s.draws + 1 }
              ((List.range count.toNat).map fun i =>
                entryPayload s.draws s.ts.work ⟨table.toNat, h⟩ ((start.toNat + i) % (lastEntry ⟨table.toNat, h⟩ + 1)))))) ∧
  ((∀ t : Fin 7, lastEntry t = #v[3, 63, 63, 2, 15, 31, 17][t]) ∧
    (∀ (draw : Nat) (w : Tables),
      (∀ i : Fin 4, PayloadIs (entryPayload draw w 0 i)
        [if w.t0[i].configured then 1 else 0, match w.t0[i].phase with | .l1 => 1 | .l2 => 2]) ∧
      (∀ i : Fin 64, PayloadIs (entryPayload draw w 1 i)
        ((if w.t1[i].present then 1 else 0) :: twoBytes w.t1[i].x ++ twoBytes w.t1[i].y ++ [BitVec.ofNat 8 w.t1[i].cls])) ∧
      (∀ i : Fin 64, w.t2[i].length ≤ 11 →
        (entryPayload draw w 2 i)[0] = BitVec.ofNat 8 w.t2[i].length ∧
          ∀ (j : Fin 11) (k : CoilId), w.t2[i][j.val]? = some k → (entryPayload draw w 2 i)[j.val + 1] = BitVec.ofNat 8 k) ∧
      (∀ i : Fin 3, PayloadIs (entryPayload draw w 3 i)
        (twoBytes (w.t3[i].rated / 10) ++ twoBytes w.t3[i].empty ++ twoBytes w.t3[i].full ++
          [BitVec.ofNat 8 w.t3[i].detect, BitVec.ofNat 8 w.t3[i].release, BitVec.ofNat 8 w.t3[i].fire])) ∧
      (∀ i : Fin 16, PayloadIs (entryPayload draw w 4 i)
        (twoBytes (w.t4[i].target / 10) ++ twoBytes (w.t4[i].floor / 10) ++ twoBytes (w.t4[i].ceiling / 10))) ∧
      (∀ i : Fin 32, PayloadIs (entryPayload draw w 5 i) [BitVec.ofNat 8 w.t5[i]]) ∧
      ∀ i : Fin 18, PayloadIs (entryPayload draw w 6 i)
        (twoBytes (if i = 5 ∨ i = 6 ∨ i = 7 ∨ i = 11 then w.t6[i] / 10 else w.t6[i]))) ∧
    (∀ (w : Tables) (x y : Nat),
      let m : Nat := if w.t6[17] = 1 then 1023 - x else x
      (w.t6[16] = 0 → orient w x y = (m, y)) ∧ (w.t6[16] = 1 → orient w x y = (1023 - y, m)) ∧
        (w.t6[16] = 2 → orient w x y = (1023 - m, 1023 - y)) ∧ (w.t6[16] = 3 → orient w x y = (y, 1023 - m))) ∧
    (([HubState.dormant, .recalling, .ready, .supplyLow].map (·.code) = [0, 1, 2, 3]) ∧
      ([HobState.stopped, .running, .halted].map (·.code) = [0, 1, 2]) ∧
      ([LockState.unlocked, .locking, .locked].map (·.code) = [0, 1, 2]) ∧
      ([BoardState.unconfigured, .waiting, .online, .offline, .failed].map (·.code) = [0, 1, 2, 3, 4]) ∧
      ([LegState.ready, .tripped, .locked, .offline].map (·.code) = [0, 1, 2, 3]) ∧
      ([Occupancy.absent, .vacant, .sensed, .member].map (·.code) = [0, 1, 2, 3]) ∧
      ([RangeMode.fine, .coarse].map (·.code) = [0, 1]) ∧
      ([Material.none, .ferritic, .layered, .unsuitable].map (·.code) = [0, 1, 2, 3]) ∧
      ([Presence.free, .forming, .placed, .moving, .lifted].map (·.code) = [0, 1, 2, 3, 4]) ∧
      ([HeatState.idle, .level, .program, .paused, .suspended, .stopped].map (·.code) = [0, 1, 2, 3, 4, 5]) ∧
      ([SenseKey.noSense, .illegalOrder, .badField, .staleHandle, .notPermitted, .tableInvalid, .dataOverrun, .aborted].map (·.code) =
        [0, 1, 2, 3, 4, 5, 6, 7]) ∧
      [FaultKind.boardTrip, .overshoot, .noReport, .coilHot, .boardLost, .mainsLost, .silence, .mains, .supply, .noBoards,
        .legLock].map (·.code) = [1, 2, 3, 4, 5, 6, 7, 8, 9, 10, 11])) ∧
  ∀ s : State,
    let b8 (n : Nat) : Byte := BitVec.ofNat 8 n
    let bit (b : Bool) : Nat := if b then 1 else 0
    let coilByte (c : Option CoilId) : Byte := match c with | some k => b8 k | none => 0xFF#8
    let handle (p : PanSlot) (g : BitVec 4) : Byte := b8 (p.val * 16 + g.toNat)
    let shown (x y : Nat) : List Byte := twoBytes (orient s.ts.work x y).1 ++ twoBytes (orient s.ts.work x y).2
    let board (b : BoardId) : List Byte :=
      let auto : Nat := s.ts.work.t5[s.ba.derating[b].bucket]
      [b8 s.boards[b].state.code, BitVec.ofInt 8 (s.boards[b].heatsink + 40), b8 (bit s.ba.derating[b].manual.isSome),
        b8 s.ba.derating[b].bucket, b8 (s.ba.derating[b].manual.getD auto)]
    (∀ r : SenseRecord, ∃ q, senseReply r = [q] ∧ PayloadIs q (b8 r.key.code :: twoBytes r.field ++ [b8 r.detail])) ∧
    (∃ q1 q2 q3, identifyReply s = [q1, q2, q3] ∧
      PayloadIs q1
        [0x64, 0x0A, 0x03, b8 s.sup.hub.code, b8 s.fe.hob.code, b8 (bit s.ts.service + 2 * bit s.ts.valid),
          b8 ((List.finRange 7).map fun n => bit s.ts.marks[n] * 2 ^ n.val).sum, b8 s.fe.lock.code, b8 s.fe.f, b8 s.fe.q,
          b8 s.fe.freq] ∧
      PayloadIs q2 (board 0 ++ board 1) ∧ PayloadIs q3 (board 2 ++ board 3)) ∧
    (∀ k : CoilId, ∃ q, coilReply s k = [q] ∧
      PayloadIs q
        [b8 k, b8 s.coils[k].occupancy.code, (match s.coils[k].owner with | some p => b8 p | none => 0xFF#8),
          b8 s.coils[k].coverage, b8 s.coils[k].range.code, b8 s.coils[k].confirm, b8 s.coils[k].material.code,
          b8 (bit s.coils[k].hot + 2 * bit s.coils[k].disabled + 4 * bit s.coils[k].unobserved), b8 s.coils[k].temp,
          b8 s.pu.legs[coilLeg k].state.code]) ∧
    (∀ p : PanSlot, ∃ q1 q2 q3 q4 q5 steps, panReply s p = [q1, q2, q3, q4, q5] ++ steps ∧
      (let r := s.pans[p].pres;
        PayloadIs q1
          ([handle p r.gen, b8 r.presence.code, b8 r.material.code, b8 r.members.length, b8 (r.settle * 16 + bit r.changed),
            b8 (r.grace.getD 0)] ++ shown r.x r.y ++ twoBytes r.area) ∧
        (∀ i : Fin 12, q2[i] = coilByte r.members[i.val]?) ∧
        (∀ g : Signature, r.signature = some g →
          PayloadIs q3
            (1 :: shown g.x g.y ++ twoBytes g.area ++ [b8 g.material.code, q3[8], q3[9], q3[10], q3[11]])) ∧
        (r.signature = none → q3[0] = 0)) ∧
      (let h := s.pans[p].heat;
        let a := s.pans[p].alloc;
        q3[8] = b8 h.state.code ∧ q3[9] = (match h.prior with | none => 0 | some .level => 1 | some .program => 2) ∧
          q3[10] = b8 h.level ∧ q3[11] = b8 h.position ∧
          PayloadIs q4
            (b8 (a.effective.val * 16 + bit h.timed) :: twoBytes h.remaining ++
              [if p ∈ s.hs.requests then b8 (s.hs.requests.idxOf p) else 0xFF#8] ++ twoBytes (a.k1 / 10) ++
              twoBytes (a.k2 / 10) ++ twoBytes (a.d / 10) ++ twoBytes (a.g / 10))) ∧
      (let r := s.pans[p];
        (∀ basis : Level × Level, r.alloc.basis = some basis → q5[0] = 1 ∧ q5[1] = b8 (basis.1.val * 16 + basis.2.val)) ∧
          (r.alloc.basis = none → q5[0] = 0) ∧ q5[2] = b8 (r.scheduled / 10 / 256) ∧ q5[3] = b8 (r.scheduled / 10) ∧
          q5[4] = b8 (r.dropped / 256) ∧ q5[5] = b8 r.dropped ∧ q5[6] = b8 (r.delivered / 10 / 256) ∧
          q5[7] = b8 (r.delivered / 10) ∧
          (∀ m : BitVec 16, r.pres.liftedAt = some m → q5[8] = b8 (m.toNat / 256) ∧ q5[9] = b8 m.toNat) ∧
          q5[10] = 0 ∧ q5[11] = 0 ∧ steps.length = r.program.length ∧
          ∀ (i : Nat) (st : ProgramStep), r.program[i]? = some st → ∃ q, steps[i]? = some q ∧
            PayloadIs q (b8 st.level :: twoBytes st.duration ++
              [match st.action with | .next => 0 | .hold => 1 | .off => 2, b8 i]))) ∧
    ∃ q, ∃ qs : Vector Payload 4, faultReply s = q :: qs.toList ∧
      (∀ r : FaultRecord, s.pu.firstFault = some r →
        let power : Bool := decide (r.kind = .boardTrip ∨ r.kind = .overshoot ∨ r.kind = .noReport)
        let boardOf : Nat := match r.board with | some b => b.val | none => 7
        let legOf : Nat := match r.leg with | some l => l.val | none => 31
        PayloadIs q
          (twoBytes (r.kind.code * 4096 + s.pu.traps.toNat) ++
            [b8 (boardOf * 32 + legOf), coilByte r.coil,
              (match r.handle with | some h => handle h.1 h.2 | none => 0xFF#8)] ++ twoBytes r.frame.toNat ++ [b8 r.slot] ++
            twoBytes (if power then r.value / 10 else r.value) ++ twoBytes s.fe.frameCount.toNat)) ∧
      (s.pu.firstFault = none →
        q[0] = b8 (s.pu.traps.toNat / 256) ∧ q[1] = b8 s.pu.traps.toNat ∧ q[2] = 0xFF ∧ q[3] = 0xFF ∧ q[4] = 0xFF ∧
          q[10] = b8 (s.fe.frameCount.toNat / 256) ∧ q[11] = b8 s.fe.frameCount.toNat) ∧
      ∀ (b : BoardId) (i : Fin 4), ∃ x y z, (qs[b].toList.drop (3 * i.val)).take 3 = [x, y, z] ∧
        (let r := s.pu.legs[legAt b i];
          (∀ c : Nat, r.cooldown.getD 0 = c → c ≤ 63 → x = b8 (r.state.code * 64 + c)) ∧
            (∀ w : BitVec 16, r.windowStart = some w →
              let off : Nat := min (s.fe.frameCount - w).toNat 1023;
              y = b8 (r.trips * 64 + 32 + off / 256) ∧ z = b8 off) ∧
            (r.windowStart = none → y &&& 0xFC = b8 (r.trips * 64)))

/-- SET PACE: the agreed values are those of R161's table; the reply holds them, the status GOOD follows its last cell (R159), and they
replace the window and the timeout when that status has been sent, a running silence timer keeping its start. The model's choices: the
values wait in the order (log 34), and the transmitter sends one cell a step (log 31). -/
def Obligations.SetPaceAgrees : Prop :=
  (∀ (s : State) (t : Time) (tag window : Byte) (timeout : BitVec 16), OrderFree s →
    let w : Nat := if window.toNat = 0 then 1 else min window.toNat 4
    let d : Nat := (if timeout.toNat < 50 then 50 else if 2000 < timeout.toNat then 2000 else timeout.toNat) / 10 * 10
    exec (.setPace t tag window timeout) s = .next
      (replied { taken s t tag 3 with cp := { (taken s t tag 3).cp with order := some ⟨3, tag, 0, 0, .pace w d⟩ } }
        [payload [byte w, (BitVec.ofNat 16 d).extractLsb' 8 8, (BitVec.ofNat 16 d).extractLsb' 0 8]])) ∧
    (∀ (s : State) (o : Order) (p : Payload), Settled s → s.cp.statuses = [] → s.cp.pendingCredit = 0 → s.cp.order = some o →
      s.cp.dataIn = [p] →
      exec .upstreamTransmit s = .next (endedGood { s with upLine := some (dataCell o.tag p) } o.tag)) ∧
    ∀ (s : State) (c : StatusCell) (rest : List StatusCell) (o : Order) (w d : Nat), Settled s → s.cp.statuses = c :: rest →
      c.own = true → c.condition = .good → s.cp.order = some o → o.job = .pace w d →
      exec .upstreamTransmit s = .next
        { s with
          upLine := some (statusCell c)
          cp := { s.cp with statuses := rest, state := .idle, order := none, window := w, timeout := d } }

/-- The notice queue: a notice that is not booked leaves everything; a booked one joins the tail with the frame count and the gap mark, or
finds 32 and sets the gap flag. BOOK NOTICES replaces the mask. -/
def Obligations.NoticesAreBookedAndQueued : Prop :=
  (∀ (s : State) (kind : NoticeKind) (subject : Byte) (a b : Nat),
    (s.cp.mask.getLsbD (kind.code - 1) = false → queueNotice s kind subject a b = s) ∧
    (s.cp.mask.getLsbD (kind.code - 1) = true → s.cp.notices.length < 32 →
      queueNotice s kind subject a b =
        { s with
          cp := { s.cp with
                  notices := s.cp.notices ++
                    [⟨kind, subject, BitVec.ofNat 16 a, BitVec.ofNat 16 b, s.fe.frameCount, s.cp.gap⟩]
                  gap := false } }) ∧
    (s.cp.mask.getLsbD (kind.code - 1) = true → 32 ≤ s.cp.notices.length →
      queueNotice s kind subject a b = { s with cp := { s.cp with gap := true } })) ∧
    ∀ (s : State) (t : Time) (tag : Byte) (mask : BitVec 24), OrderFree s →
      exec (.bookNotices t tag mask) s = .next
        (endedGood { taken s t tag 4 with cp := { (taken s t tag 4).cp with mask := mask.extractLsb' 0 20 } } tag)

/-- START HOB, row by row of R115. An accepted one finds the halts and stops before it taken by the Heat Sequencer, and the recompute on
the emptied list made, as the commands do it (`finishStop`), and the rebuild requests that wait ignored (R92): the request order list and
the list of the last recompute are empty and no pan heats, so that the build it requests is of an empty list (R87, R104; log 49). STOP HOB
in RUNNING takes the steps of R116; else it ends CHECK, NOT PERMITTED, its detail a free value (log 12). -/
def Obligations.StartAndStopHobAreJudged : Prop :=
  (∀ (s : State) (t : Time) (tag : Byte), OrderFree s →
    (s.fe.hob ≠ .stopped → exec (.startHob t tag) s = .next (endedCheck (taken s t tag 6) tag .notPermitted 0 1)) ∧
    (s.fe.hob = .stopped → s.ts.service = true →
      exec (.startHob t tag) s = .next (endedCheck (taken s t tag 6) tag .notPermitted 0 2)) ∧
    (s.fe.hob = .stopped → s.ts.service = false → s.ts.valid = false →
      exec (.startHob t tag) s = .next (endedCheck (taken s t tag 6) tag .tableInvalid 0 3)) ∧
    (s.fe.hob = .stopped → s.ts.service = false → s.ts.valid = true →
      (∀ b : BoardId, s.ts.work.t0[b].configured = true → s.boards[b].state ≠ .online) →
      exec (.startHob t tag) s = .next (endedCheck (taken s t tag 6) tag .notPermitted 0 4)) ∧
    (s.fe.hob = .stopped → s.ts.service = false → s.ts.valid = true →
      (∃ b : BoardId, s.ts.work.t0[b].configured = true ∧ s.boards[b].state = .online) →
      let u : State := finishStop (taken s t tag 6)
      exec (.startHob t tag) s = .next
        (endedGood
          { u with
            fe := { s.fe with
                    f := s.ts.work.frameActive, q := s.ts.work.frameQuiet, freq := s.ts.work.nominalHz
                    frameOpen := false, emitted := Vector.replicate 8 0, hob := .running, awaiting := true
                    unlockTimer := if s.fe.lock = .locked then s.fe.unlockTimer else some (max s.now t) }
            pans := noneDelivered u
            posts := { u.posts with hob := [.start], scheduler := s.posts.scheduler ++ [.rebuild] }
            cp := { u.cp with silence := some (max s.now t) } } tag))) ∧
  ((∀ s : State, s.posts.hob = [] → s.ba.figures.order = [] →
    finishStop s = { s with posts := { s.posts with rebuilds := 0 } }) ∧
    (∀ (i : Instr) (s u : State), Settled s →
      (i = .heatHobHalt ∧ s.posts.hob.head? = some .halt) ∨ (i = .heatStopHob ∧ s.posts.hob.head? = some .stop) ∨
        (i = .heatStartHob ∧ s.posts.hob.head? = some .start) →
      exec i s = .next u → finishStop s = finishStop u) ∧
    (∀ (e : Trigger) (s u : State), Settled s → s.posts.hob = [] → s.ba.figures.order ≠ [] →
      exec .recompute { s with posts := { s.posts with triggers := e :: s.posts.triggers } } = .next u →
      finishStop s = { u with posts := { u.posts with rebuilds := 0 } }) ∧
    (∀ s : State, (finishStop s).posts.rebuilds = 0) ∧
    ∀ s : State,
      .halt ∈ s.posts.hob ∨ .stop ∈ s.posts.hob ∨ (s.hs.requests = [] ∧ ∀ p : PanSlot, s.pans[p].heat.state.heating = false) →
      (finishStop s).ba.figures.order = [] ∧ (finishStop s).hs.requests = [] ∧
        ∀ p : PanSlot, (finishStop s).pans[p].heat.state.heating = false) ∧
  (∀ (s : State) (t : Time) (tag : Byte), OrderFree s →
    (s.fe.hob = .running →
      exec (.stopHob t tag) s = .next
        (endedGood
          { taken s t tag 7 with
            fe := { s.fe with hob := .stopped, unlockTimer := none, swapPending := false, emitted := Vector.replicate 8 0 }
            pans := noneDelivered s
            boards := allOff s
            posts := { s.posts with scheduler := s.posts.scheduler ++ [.discard], hob := s.posts.hob ++ [.stop] }
            cp := { (taken s t tag 7).cp with silence := none } } tag)) ∧
    (s.fe.hob ≠ .running →
      exec (.stopHob t tag) s = .next
        (endedCheck { taken s t tag 7 with draws := s.draws + 1 } tag .notPermitted 0 (Config.stopHobDetail s.draws))))

/-- CLEAR FAULT: the four steps of R139, with the posts of the legs that become READY. -/
def Obligations.ClearFaultClears : Prop :=
  ∀ (s : State) (t : Time) (tag : Byte), OrderFree s →
    let unlocked (l : LegId) : Bool := s.pu.legs[l].state == .locked && s.boards[legBoard l].state == .online
    exec (.clearFault t tag) s = .next
      (endedGood
        { taken s t tag 8 with
          pu := { s.pu with
                  firstFault := none, traps := 0
                  legs := Vector.ofFn fun l =>
                    { s.pu.legs[l] with
                      trips := 0, windowStart := none
                      state :=
                        if s.pu.legs[l].state = .locked then
                          (if s.boards[legBoard l].state = .online then .ready else .offline)
                        else s.pu.legs[l].state } }
          posts := { s.posts with
                     cmClaims := s.posts.cmClaims ++ (allLegs.filter unlocked).map .legIn
                     triggers := s.posts.triggers ++ (allLegs.filter unlocked).map .legState
                     hobClaims := s.posts.hobClaims ++ [.clear] } } tag)

/-- LOAD PROGRAM and RUN PROGRAM, row by row of R58 and R60; an accepted RUN PROGRAM begins step 0 (R61). Field index and detail of a refusal
are those of R157 as log 20 reads it: STALE HANDLE with field 1, BAD FIELD with field 2, NOT PERMITTED with field 0 and the row. A handle
byte 0xFF is taken as the handle P7.15 by the model's choice (R178, R179; log 44). -/
def Obligations.ProgramOrdersAreJudged : Prop :=
  (∀ (s : State) (t : Time) (tag handle count : Byte), OrderFree s →
    let r := s.pans[handleSlot handle]
    (count.toNat = 0 ∨ 8 < count.toNat →
      exec (.loadProgram t tag handle count) s = .next (endedCheck (taken s t tag 12) tag .badField 2 0)) ∧
    (0 < count.toNat → count.toNat ≤ 8 → handleCurrent s handle = false →
      exec (.loadProgram t tag handle count) s = .next (endedCheck (taken s t tag 12) tag .staleHandle 1 0)) ∧
    (0 < count.toNat → count.toNat ≤ 8 → handleCurrent s handle = true → r.pres.presence.standing = false →
      exec (.loadProgram t tag handle count) s = .next (endedCheck (taken s t tag 12) tag .notPermitted 0 3)) ∧
    (0 < count.toNat → count.toNat ≤ 8 → handleCurrent s handle = true → r.pres.presence.standing = true →
      (r.heat.state = .program ∨ (r.heat.state = .paused ∧ r.heat.prior = some .program) →
        exec (.loadProgram t tag handle count) s = .next (endedCheck (taken s t tag 12) tag .notPermitted 0 4)) ∧
      (r.heat.state ≠ .program → ¬ (r.heat.state = .paused ∧ r.heat.prior = some .program) →
        exec (.loadProgram t tag handle count) s = .next
          (inDataOut { taken s t tag 12 with hs := { s.hs with held := [] } } ⟨12, tag, count.toNat, 0, .program handle⟩)))) ∧
    ∀ (s : State) (t : Time) (tag handle : Byte), OrderFree s →
      let p := handleSlot handle
      let r := s.pans[p]
      (handleCurrent s handle = false →
        exec (.runProgram t tag handle) s = .next (endedCheck (taken s t tag 13) tag .staleHandle 1 0)) ∧
      (handleCurrent s handle = true → r.program = [] →
        exec (.runProgram t tag handle) s = .next (endedCheck (taken s t tag 13) tag .notPermitted 0 2)) ∧
      ∀ (step : ProgramStep) (rest : List ProgramStep), handleCurrent s handle = true → r.program = step :: rest →
        (s.fe.hob ≠ .running →
          exec (.runProgram t tag handle) s = .next (endedCheck (taken s t tag 13) tag .notPermitted 0 3)) ∧
        (s.fe.hob = .running → r.pres.presence.standing = false →
          exec (.runProgram t tag handle) s = .next (endedCheck (taken s t tag 13) tag .notPermitted 0 4)) ∧
        (s.fe.hob = .running → r.pres.presence.standing = true → r.pres.material = .unsuitable →
          exec (.runProgram t tag handle) s = .next (endedCheck (taken s t tag 13) tag .notPermitted 0 5)) ∧
        (s.fe.hob = .running → r.pres.presence.standing = true → r.pres.material ≠ .unsuitable →
          exec (.runProgram t tag handle) s = .next
            (endedGood
              { taken s t tag 13 with
                pans := s.pans.set p
                  { r with
                    heat := { r.heat with
                              state := .program, prior := none, position := 0, level := step.level, remaining := step.duration
                              timed := decide (step.duration ≠ 0) } }
                hs := { s.hs with requests := p :: s.hs.requests.filter (· ≠ p) }
                posts := { s.posts with triggers := s.posts.triggers ++ [.heatChange [p]] } } tag))

/-- WRITE TABLE, row by row of R169; accepted, it is in DATA-OUT with its first grant. -/
def Obligations.WriteTableIsJudged : Prop :=
  ∀ (s : State) (t : Time) (tag table start count : Byte), OrderFree s →
    (7 ≤ table.toNat →
      exec (.writeTable t tag table start count) s = .next (endedCheck (taken s t tag 14) tag .badField 1 0)) ∧
    ∀ h : table.toNat < 7,
      let last : Nat := #v[3, 63, 63, 2, 15, 31, 17][table.toNat]
      let first : Nat := if table.toNat = 4 then 1 else 0
      let entries : Nat := #v[4, 64, 64, 3, 15, 32, 18][table.toNat]
      (last < start.toNat ∨ start.toNat < first →
        exec (.writeTable t tag table start count) s = .next (endedCheck (taken s t tag 14) tag .badField 2 0)) ∧
      (start.toNat ≤ last → first ≤ start.toNat → count.toNat = 0 ∨ entries < count.toNat →
        exec (.writeTable t tag table start count) s = .next (endedCheck (taken s t tag 14) tag .badField 3 0)) ∧
      (start.toNat ≤ last → first ≤ start.toNat → 0 < count.toNat → count.toNat ≤ entries → table.toNat ≤ 3 →
        s.ts.service = false →
        exec (.writeTable t tag table start count) s = .next (endedCheck (taken s t tag 14) tag .notPermitted 0 4)) ∧
      (start.toNat ≤ last → first ≤ start.toNat → 0 < count.toNat → count.toNat ≤ entries →
        4 ≤ table.toNat ∨ s.ts.service = true →
        exec (.writeTable t tag table start count) s = .next
          (inDataOut (taken s t tag 14) ⟨14, tag, count.toNat, 0, .table ⟨table.toNat, h⟩ start.toNat⟩))

/-- The working structural tables validate exactly when no row of R172 fails; a failure names a row 1 to 8. SERVICE ENTER and SERVICE
EXIT, row by row of R172; the strap's level comes with the SERVICE ENTER command (log 7). A refused exit names the first failing entry of
the first failing row. A successful exit ends service mode, sets the structural-valid flag and leaves every coil that T1 does not
mark present ABSENT; it touches only presence, boards, posts and notices besides, and what foundings touch, as StructureTaken says (R1, R39,
R141); where it releases a member, what was posted to the Pan Tracker is taken first (R20; log 56; `finishReleases`, stated under
StrapReleaseForcesExit). -/
def Obligations.ServiceOrdersValidateTheTables : Prop :=
  (∀ w : Tables,
    (validate w = none ↔
      (∀ k : CoilId, (∀ j ∈ w.t2[k], k ∈ w.t2[j] ∧ j ≠ k ∧ w.t1[j].present = true) ∧ w.t2[k].length ≤ 6) ∧
      (∀ k : CoilId, w.t1[k].present = true → w.t1[k].cls.val ≤ 2 ∧ w.t0[coilBoard k].configured = true) ∧
      ∀ c : Fin 3, w.t3[c].empty < w.t3[c].full ∧ w.t3[c].release < w.t3[c].detect ∧ w.t3[c].detect ≤ w.t3[c].fire ∧
        w.t3[c].fire ≤ 200) ∧
    (∀ e : Nat × Nat, validate w = some e → 1 ≤ e.1 ∧ e.1 ≤ 8) ∧
    ∀ row entry : Nat, validate w = some (row, entry) ↔
      FailsRow w row entry ∧ (∀ e : Nat, e < entry → ¬ FailsRow w row e) ∧ ∀ r e : Nat, r < row → ¬ FailsRow w r e) ∧
  ((∀ (s : State) (t : Time) (tag : Byte), OrderFree s →
    (exec (.serviceEnter t tag false) s = .next
      (endedCheck { taken s t tag 18 with sup := { s.sup with strap := false } } tag .notPermitted 0 1)) ∧
    (s.fe.hob = .running →
      exec (.serviceEnter t tag true) s = .next
        (endedCheck { taken s t tag 18 with sup := { s.sup with strap := true } } tag .notPermitted 0 2)) ∧
    (s.fe.hob ≠ .running →
      exec (.serviceEnter t tag true) s = .next
        (endedGood
          { taken s t tag 18 with sup := { s.sup with strap := true }, ts := { s.ts with service := true } } tag))) ∧
    ∀ (s : State) (t : Time) (tag : Byte), OrderFree s →
      (s.ts.service = false →
        exec (.serviceExit t tag) s = .next (endedCheck (taken s t tag 19) tag .notPermitted 0 1)) ∧
      (∀ row entry : Nat, s.ts.service = true → validate s.ts.work = some (row, entry) →
        exec (.serviceExit t tag) s = .next (endedCheck (taken s t tag 19) tag .tableInvalid entry row)) ∧
      (s.ts.service = true → validate s.ts.work = none →
        let r : State := finishReleases (taken s t tag 19) s.ts.work true
        ∃ u, exec (.serviceExit t tag) s = .next (endedGood u tag) ∧
          u = { r with
                ts := { s.ts with service := false, valid := true }
                coils := u.coils, pans := u.pans, pt := u.pt, hs := u.hs, ba := u.ba, pu := { r.pu with hot := u.pu.hot }
                boards := u.boards, posts := u.posts, cp := { r.cp with notices := u.cp.notices, gap := u.cp.gap } } ∧
          (∀ k : CoilId,
            (s.ts.work.t1[k].present = true → s.coils[k].occupancy = .absent →
              u.coils[k] = { CoilRecord.reset with occupancy := .vacant }) ∧
            (s.ts.work.t1[k].present = false → u.coils[k].occupancy = .absent)) ∧
          (∀ b : BoardId,
            (s.ts.work.t0[b].configured = true → s.boards[b].state = .unconfigured →
              u.boards[b] = { s.boards[b] with state := .waiting, txIdent := true, deadline := none }) ∧
            (s.ts.work.t0[b].configured = true → s.boards[b].state ≠ .unconfigured → u.boards[b] = s.boards[b]) ∧
            (s.ts.work.t0[b].configured = false → u.boards[b].state = .unconfigured)) ∧
          StructureTaken r true u))

/-- COMMIT TABLES is judged by R174 and begins with T0; each row written goes to the store, the table's mark is set after its last row
and the next one's cleared, and after the last row of T6 the order ends GOOD. A commit that is stopped ends CHECK, ABORTED after
its current row, that table's mark clear, also where that row is the table's last (log 19). A row written gives the store the entries of
its table that it holds and leaves all others (which entries a row holds is log 18), and all the rows of a table make the stored one
equal to the working one. -/
def Obligations.CommitWritesTheStore : Prop :=
  ((∀ (s : State) (t : Time) (tag : Byte), OrderFree s →
    (s.ts.service = true → exec (.commitTables t tag) s = .next (endedCheck (taken s t tag 16) tag .notPermitted 0 1)) ∧
    (s.ts.service = false → s.ts.valid = false →
      exec (.commitTables t tag) s = .next (endedCheck (taken s t tag 16) tag .tableInvalid 0 2)) ∧
    (s.ts.service = false → s.ts.valid = true →
      exec (.commitTables t tag) s = .next
        { taken s t tag 16 with
          ts := { s.ts with marks := s.ts.marks.set 0 false, commit := some ⟨0, 0⟩ }
          cp := { (taken s t tag 16).cp with state := .completing, aborting := false } })) ∧
    (∀ s : State, Settled s → s.ts.commit = none → exec .commitRowWritten s = .next s) ∧
    ∀ (s : State) (table : Fin 7) (row : Nat) (o : Order), Settled s → s.ts.commit = some ⟨table, row⟩ → s.cp.order = some o →
      let kept : Tables := copyRow s.ts.work s.ts.kept table row
      let rows : Nat := #v[1, 16, 32, 3, 8, 2, 3][table]
      (s.cp.aborting = true →
        exec .commitRowWritten s = .next
          (endedCheck { s with ts := { s.ts with kept := kept, commit := none } } o.tag .aborted 0 0)) ∧
      (s.cp.aborting = false → row + 1 < rows →
        exec .commitRowWritten s = .next { s with ts := { s.ts with kept := kept, commit := some ⟨table, row + 1⟩ } }) ∧
      (s.cp.aborting = false → rows ≤ row + 1 → ∀ next : Fin 7, next.val = table.val + 1 →
        exec .commitRowWritten s = .next
          { s with
            ts := { s.ts with
                    kept := kept, marks := (s.ts.marks.set table true).set next false, commit := some ⟨next, 0⟩ } }) ∧
      (s.cp.aborting = false → rows ≤ row + 1 → table = 6 →
        exec .commitRowWritten s = .next
          (endedGood { s with ts := { s.ts with kept := kept, marks := s.ts.marks.set 6 true, commit := none } } o.tag))) ∧
  (∀ (work kept : Tables) (table : Fin 7) (row : Nat),
    let u : Tables := copyRow work kept table row
    (∀ i : Fin 4, u.t0[i] = if table = 0 ∧ i.val / 4 = row then work.t0[i] else kept.t0[i]) ∧
    (∀ i : Fin 64, u.t1[i] = if table = 1 ∧ i.val / 4 = row then work.t1[i] else kept.t1[i]) ∧
    (∀ i : Fin 64, u.t2[i] = if table = 2 ∧ i.val / 2 = row then work.t2[i] else kept.t2[i]) ∧
    (∀ i : Fin 3, u.t3[i] = if table = 3 ∧ i.val = row then work.t3[i] else kept.t3[i]) ∧
    (∀ i : Fin 16, u.t4[i] = if table = 4 ∧ i.val / 2 = row then work.t4[i] else kept.t4[i]) ∧
    (∀ i : Fin 32, u.t5[i] = if table = 5 ∧ i.val / 16 = row then work.t5[i] else kept.t5[i]) ∧
    ∀ i : Fin 18, u.t6[i] = if table = 6 ∧ i.val / 8 = row then work.t6[i] else kept.t6[i]) ∧
  ∀ (work kept : Tables) (table : Fin 7),
    (List.range #v[1, 16, 32, 3, 8, 2, 3][table]).foldl (fun v row => copyRow work v table row) kept =
      { t0 := if table = 0 then work.t0 else kept.t0, t1 := if table = 1 then work.t1 else kept.t1
        t2 := if table = 2 then work.t2 else kept.t2, t3 := if table = 3 then work.t3 else kept.t3
        t4 := if table = 4 then work.t4 else kept.t4, t5 := if table = 5 then work.t5 else kept.t5
        t6 := if table = 6 then work.t6 else kept.t6 }

/-- RECALL TABLES is judged by R175. When a recall completes, each table with a valid mark is the stored one and each other one its reset
value or built-in default; the structural-valid flag says whether every structural mark was valid; the frame figures are latched; a
RECALLING hub is READY and an order in COMPLETING ends. Coils, hot set, orphans, boards and posts take the new flag and tables as
StructureTaken says (R1, R39, R141), what was posted to the Pan Tracker being taken before where a member is released (R20; log 56); the
recall is a recompute trigger, and where it changes a derate, of however many boards, one derating change is another (R84; one for all is
log 29). -/
def Obligations.RecallReloadsTheTables : Prop :=
  (∀ (s : State) (t : Time) (tag : Byte), OrderFree s →
    (s.fe.hob = .running → exec (.recallTables t tag) s = .next (endedCheck (taken s t tag 17) tag .notPermitted 0 1)) ∧
    (s.fe.hob ≠ .running → s.ts.service = true →
      exec (.recallTables t tag) s = .next (endedCheck (taken s t tag 17) tag .notPermitted 0 2)) ∧
    (s.fe.hob ≠ .running → s.ts.service = false →
      exec (.recallTables t tag) s = .next
        { taken s t tag 17 with
          ts := { s.ts with recalling := true }
          cp := { (taken s t tag 17).cp with state := .completing, aborting := false } })) ∧
    (∀ s : State, Settled s → s.ts.recalling = false → exec .recallComplete s = .next s) ∧
    ∀ s : State, Settled s → s.ts.recalling = true →
      let m := s.ts.marks
      let work : Tables :=
        { t0 := if m[0] then s.ts.kept.t0 else Vector.replicate 4 ⟨false, .l1⟩
          t1 := if m[1] then s.ts.kept.t1 else Vector.replicate 64 ⟨false, 0, 0, 0⟩
          t2 := if m[2] then s.ts.kept.t2 else Vector.replicate 64 []
          t3 := if m[3] then s.ts.kept.t3 else Config.t3Default
          t4 := if m[4] then s.ts.kept.t4 else Config.t4Default
          t5 := if m[5] then s.ts.kept.t5 else Config.t5Default
          t6 := if m[6] then s.ts.kept.t6 else Config.t6Default }
      let valid : Bool := m[0] && m[1] && m[2] && m[3]
      let r : State := finishReleases s work valid
      ∃ u, u = { r with
              sup := { s.sup with hub := if s.sup.hub = .recalling then .ready else s.sup.hub }
              ts := { s.ts with work := work, valid := valid, recalling := false }
              fe := { s.fe with
                      f := work.frameActive, q := work.frameQuiet, freq := work.nominalHz, frameOpen := false
                      emitted := Vector.replicate 8 0 }
              coils := u.coils, pans := u.pans, pt := u.pt, hs := u.hs, ba := u.ba, pu := { r.pu with hot := u.pu.hot }
              boards := u.boards, posts := u.posts, cp := { r.cp with notices := u.cp.notices, gap := u.cp.gap } } ∧
        .recalled ∈ u.posts.triggers ∧
        (∃ v, StructureTaken { r with ts := { s.ts with work := work } } valid v ∧
          u.coils = v.coils ∧ u.pu.hot = v.pu.hot ∧ u.pt = v.pt ∧ u.hs = v.hs ∧ u.ba = v.ba ∧ u.boards = v.boards ∧
          (∀ p : PanSlot, u.pans[p] = { v.pans[p] with delivered := 0 }) ∧
          u.posts = { v.posts with
                      triggers := v.posts.triggers ++ [.recalled] ++
                        (if ∀ b : BoardId, s.ba.derating[b].manual = none →
                            s.ts.work.t5[s.ba.derating[b].bucket] = work.t5[s.ba.derating[b].bucket] then [] else [.derating]) }) ∧
        (s.cp.state ≠ .completing → exec .recallComplete s = .next u) ∧
        ∀ o : Order, s.cp.state = .completing → s.cp.order = some o →
          (s.cp.aborting = true → exec .recallComplete s = .next (endedCheck u o.tag .aborted 0 0)) ∧
          (s.cp.aborting = false → exec .recallComplete s = .next (endedGood u o.tag))

/-- DISABLE COIL and ENABLE COIL, row by row of R18, with the eligibility change of R19 for a member that stops or starts being
AVAILABLE. SET DERATE, row by row of R85; a board's new derate is a derating change, on which the recompute is made at once (log 46), and
the same derate is none (R84). The field indexes
1 and 2 are those of R157 and R179 as log 20 reads them. -/
def Obligations.CoilAndDerateOrdersAreJudged : Prop :=
  (∀ (s : State) (t : Time) (tag coil : Byte), OrderFree s →
    (64 ≤ coil.toNat →
      exec (.disableCoil t tag coil) s = .next (endedCheck (taken s t tag 20) tag .badField 1 0) ∧
        exec (.enableCoil t tag coil) s = .next (endedCheck (taken s t tag 21) tag .badField 1 0)) ∧
    ∀ k : CoilId, k.val = coil.toNat →
      (s.coils[k].occupancy = .absent →
        exec (.disableCoil t tag coil) s = .next (endedCheck (taken s t tag 20) tag .badField 1 0) ∧
          exec (.enableCoil t tag coil) s = .next (endedCheck (taken s t tag 21) tag .badField 1 0)) ∧
      (s.coils[k].occupancy ≠ .absent →
        exec (.disableCoil t tag coil) s = .next
          (endedGood
            { taken s t tag 20 with
              coils := s.coils.set k { s.coils[k] with disabled := true, confirm := 0 }
              posts := { s.posts with
                         triggers := s.posts.triggers ++
                           (if s.coils[k].occupancy = .member ∧ s.coils[k].available = true then
                              [.eligibility k s.coils[k].owner] else []) } } tag) ∧
        exec (.enableCoil t tag coil) s = .next
          (endedGood
            { taken s t tag 21 with
              coils := s.coils.set k { s.coils[k] with disabled := false }
              posts := { s.posts with
                         triggers := s.posts.triggers ++
                           (if s.coils[k].occupancy = .member ∧ s.coils[k].disabled = true ∧ s.coils[k].hot = false ∧
                                s.coils[k].unobserved = false then
                              [.eligibility k s.coils[k].owner] else []) } } tag))) ∧
  (∀ (s : State) (t : Time) (tag board value : Byte), OrderFree s →
    (4 ≤ board.toNat →
      exec (.setDerate t tag board value) s = .next (endedCheck (taken s t tag 22) tag .badField 1 0)) ∧
    ∀ b : BoardId, b.val = board.toNat →
      (128 < value.toNat → value.toNat < 255 →
        exec (.setDerate t tag board value) s = .next (endedCheck (taken s t tag 22) tag .badField 2 0)) ∧
      (value.toNat ≤ 128 ∨ value.toNat = 255 →
        let auto : Nat := s.ts.work.t5[s.ba.derating[b].bucket]
        let before : Nat := s.ba.derating[b].manual.getD auto
        let after : Nat := if value.toNat = 255 then auto else value.toNat
        let u : State :=
          { taken s t tag 22 with
            ba := { s.ba with
                    derating := s.ba.derating.set b
                      { s.ba.derating[b] with manual := if value.toNat = 255 then none else some value.toNat } } }
        exec (.setDerate t tag board value) s = .next (endedGood (if before = after then u else recompute u) tag)))

/-! ### The other cells of the controller link -/

/-- DATA cells. A cell that is not for the order in DATA-OUT is discarded; one without credit ends the order CHECK, DATA OVERRUN. A
table entry is checked whole: out of range it ends the order BAD FIELD with its index, and a structural one after a strap release NOT
PERMITTED (its row is log 20); an accepted one is written, the credit moves on, and the last one ends the order GOOD. The steps of a
LOAD PROGRAM are held apart until the last; then the store is replaced whole if the handle is still current, else the steps are
discarded and the order ends STALE HANDLE. A step out of range ends it BAD FIELD with the step's index, and one without credit DATA
OVERRUN with its own. A table's entries follow one another from the start index, wrapping from the last to the first writable one; the
fields and ranges of each are those of R169, R171 and section 11.4, HOT staying above COOL. On a written T4 entry or power limit (R73,
R74), and on a written T5 entry that changes the derate of boards, one derating change (R84; log 29), the recompute is made at the write
(log 46), as RECOMPUTE makes it. -/
def Obligations.DataCellsAreTaken : Prop :=
  ((∀ (s : State) (t : Time) (tag : Byte) (p : Payload), Settled s →
    (∀ o : Order, s.cp.order = some o → s.cp.state ≠ .dataOut ∨ o.tag ≠ tag) →
    exec (.data t tag p) s = .next (heard s t)) ∧
    ∀ (s : State) (t : Time) (o : Order) (p : Payload) (table : Fin 7) (start : Nat), Settled s → s.cp.state = .dataOut →
      s.cp.order = some o → o.job = .table table start →
      let i : Nat := entryIndex table start o.taken
      let more : Bool := decide (o.taken + s.cp.credit < o.expected)
      (s.cp.credit = 0 →
        exec (.data t o.tag p) s = .next
          (endedCheck { heard s t with hs := { s.hs with held := [] } } o.tag .dataOverrun i 0)) ∧
      (0 < s.cp.credit → table.val ≤ 3 → s.ts.service = false →
        exec (.data t o.tag p) s = .next (endedCheck (heard s t) o.tag .notPermitted i 4)) ∧
      (0 < s.cp.credit → 4 ≤ table.val ∨ s.ts.service = true → writeEntry s.ts.work table i p = none →
        exec (.data t o.tag p) s = .next (endedCheck (heard s t) o.tag .badField i 0)) ∧
      ∀ w : Tables, 0 < s.cp.credit → 4 ≤ table.val ∨ s.ts.service = true → writeEntry s.ts.work table i p = some w →
        let written : State := { heard s t with ts := { s.ts with work := w } }
        let taken : State :=
          if table = 4 ∨ (table = 6 ∧ 5 ≤ i ∧ i ≤ 7) ∨
              ¬ (∀ b : BoardId, s.ba.derating[b].manual = none →
                s.ts.work.t5[s.ba.derating[b].bucket] = w.t5[s.ba.derating[b].bucket]) then recompute written
          else written
        let u : State :=
          { taken with
            cp := { taken.cp with
                    order := some { o with taken := o.taken + 1 }
                    credit := if more then s.cp.credit else s.cp.credit - 1
                    pendingCredit := if more then s.cp.pendingCredit + 1 else s.cp.pendingCredit } }
        (o.taken + 1 < o.expected → exec (.data t o.tag p) s = .next u) ∧
        (o.expected ≤ o.taken + 1 → exec (.data t o.tag p) s = .next (endedGood u o.tag))) ∧
  (∀ (s : State) (t : Time) (o : Order) (p : Payload) (handle : Byte), Settled s → s.cp.state = .dataOut →
    s.cp.order = some o → o.job = .program handle → 0 < s.cp.credit →
    (p[0].toNat ≥ 16 ∨ p[3].toNat > 2 →
      exec (.data t o.tag p) s = .next
        (endedCheck { heard s t with hs := { s.hs with held := [] } } o.tag .badField o.taken 0)) ∧
    ∀ step : ProgramStep, step.level.val = p[0].toNat → step.duration = p[1].toNat * 256 + p[2].toNat →
      step.action = (if p[3] = 0 then .next else if p[3] = 1 then .hold else .off) → p[3].toNat ≤ 2 →
      let more : Bool := decide (o.taken + s.cp.credit < o.expected)
      let u : State :=
        { heard s t with
          hs := { s.hs with held := s.hs.held ++ [step] }
          cp := { (heard s t).cp with
                  order := some { o with taken := o.taken + 1 }
                  credit := if more then s.cp.credit else s.cp.credit - 1
                  pendingCredit := if more then s.cp.pendingCredit + 1 else s.cp.pendingCredit } }
      (o.taken + 1 < o.expected → exec (.data t o.tag p) s = .next u) ∧
      (o.expected ≤ o.taken + 1 → handleCurrent s handle = true →
        exec (.data t o.tag p) s = .next
          (endedGood
            { u with
              hs := { s.hs with held := [] }
              pans := s.pans.set (handleSlot handle) { s.pans[handleSlot handle] with program := s.hs.held ++ [step] } } o.tag)) ∧
      (o.expected ≤ o.taken + 1 → handleCurrent s handle = false →
        exec (.data t o.tag p) s = .next (endedCheck { u with hs := { s.hs with held := [] } } o.tag .staleHandle 1 0))) ∧
  (∀ (s : State) (t : Time) (o : Order) (p : Payload) (handle : Byte), Settled s → s.cp.state = .dataOut →
    s.cp.order = some o → o.job = .program handle → s.cp.credit = 0 →
    exec (.data t o.tag p) s = .next
      (endedCheck { heard s t with hs := { s.hs with held := [] } } o.tag .dataOverrun o.taken 0)) ∧
  (∀ (table : Fin 7) (start taken : Nat),
    let last : Nat := #v[3, 63, 63, 2, 15, 31, 17][table]
    let first : Nat := if table = 4 then 1 else 0
    first ≤ start → start ≤ last →
    entryIndex table start 0 = start ∧
      entryIndex table start (taken + 1) =
        (if entryIndex table start taken = last then first else entryIndex table start taken + 1)) ∧
  ∀ (w : Tables) (p : Payload),
    (∀ i : Fin 4,
      (p[0].toNat ≤ 1 ∧ 1 ≤ p[1].toNat ∧ p[1].toNat ≤ 2 →
        writeEntry w 0 i p = some { w with t0 := w.t0.set i ⟨decide (p[0] = 1), if p[1] = 1 then .l1 else .l2⟩ }) ∧
      (¬ (p[0].toNat ≤ 1 ∧ 1 ≤ p[1].toNat ∧ p[1].toNat ≤ 2) → writeEntry w 0 i p = none)) ∧
    (∀ i : Fin 64,
      (∀ c : Fin 8, c.val = p[5].toNat → p[0].toNat ≤ 1 → wordAt p 1 ≤ 1023 → wordAt p 3 ≤ 1023 →
        writeEntry w 1 i p = some { w with t1 := w.t1.set i ⟨decide (p[0] = 1), wordAt p 1, wordAt p 3, c⟩ }) ∧
      (1 < p[0].toNat ∨ 1023 < wordAt p 1 ∨ 1023 < wordAt p 3 ∨ 7 < p[5].toNat → writeEntry w 1 i p = none)) ∧
    (∀ i : Fin 64,
      (∀ l : List CoilId, l.length = p[0].toNat → l.length ≤ 11 →
        (∀ (j : Fin 11) (k : CoilId), l[j.val]? = some k → p[j.val + 1].toNat = k.val) →
        writeEntry w 2 i p = some { w with t2 := w.t2.set i l }) ∧
      (11 < p[0].toNat ∨ (∃ j : Fin 11, j.val < p[0].toNat ∧ 63 < p[j.val + 1].toNat) → writeEntry w 2 i p = none)) ∧
    (∀ i : Fin 3,
      let fits : Prop := wordAt p 0 ≤ 370 ∧ wordAt p 2 ≤ 32760 ∧ wordAt p 4 ≤ 32760 ∧ p[6].toNat ≤ 200 ∧ p[7].toNat ≤ 200 ∧
        p[8].toNat ≤ 200
      (fits →
        writeEntry w 3 i p =
          some { w with
                 t3 := w.t3.set i ⟨wordAt p 0 * 10, wordAt p 2, wordAt p 4, p[6].toNat, p[7].toNat, p[8].toNat⟩ }) ∧
      (¬ fits → writeEntry w 3 i p = none)) ∧
    (∀ i : Fin 16,
      let fits : Prop := wordAt p 0 ≤ 370 ∧ wordAt p 2 ≤ 370 ∧ wordAt p 4 ≤ 370
      (fits → writeEntry w 4 i p =
        some { w with t4 := w.t4.set i ⟨wordAt p 0 * 10, wordAt p 2 * 10, wordAt p 4 * 10⟩ }) ∧
      (¬ fits → writeEntry w 4 i p = none)) ∧
    (∀ i : Fin 32,
      (p[0].toNat ≤ 128 → writeEntry w 5 i p = some { w with t5 := w.t5.set i p[0].toNat }) ∧
      (128 < p[0].toNat → writeEntry w 5 i p = none)) ∧
    ∀ i : Fin 18,
      let v : Nat := if i = 5 ∨ i = 6 ∨ i = 7 ∨ i = 11 then wordAt p 0 * 10 else wordAt p 0
      let least : Nat := #v[1, 1, 0, 0, 0, 0, 0, 0, 4, 1, 50, 0, 1, 16, 100, 0, 0, 0][i]
      let most : Nat := #v[4, 15, 255, 1023, 100, 4600, 4600, 9200, 32, 4, 60, 1000, 63, 1023, 250, 249, 3, 1][i]
      let fits : Prop := least ≤ v ∧ v ≤ most ∧ (i = 10 → v = 50 ∨ v = 60) ∧ (i = 14 → w.t6[15] < v) ∧ (i = 15 → v < w.t6[14])
      (fits → writeEntry w 6 i p = some { w with t6 := w.t6.set i v }) ∧ (¬ fits → writeEntry w 6 i p = none)

/-- HEAT cells: in READY and SUPPLY LOW a cell with a defined action joins the tail of a queue of fewer than 16, and a full queue refuses it
with QUEUE FULL; in DORMANT and RECALLING, or with an undefined action, it is discarded. The subject of the refusal has handle bit 7
clear (log 27). -/
def Obligations.HeatCellsJoinTheQueue : Prop :=
  ∀ (s : State) (t : Time) (handle action level : Byte), Settled s →
    (action.toNat = 0 ∨ 3 < action.toNat ∨ (s.sup.hub ≠ .ready ∧ s.sup.hub ≠ .supplyLow) →
      exec (.heat t handle action level) s = .next (heard s t)) ∧
    ∀ a : HeatAction, action = (match a with | .setLevel => 1#8 | .pause => 2#8 | .resume => 3#8) →
      s.sup.hub = .ready ∨ s.sup.hub = .supplyLow →
      (s.cp.heatQueue.length < 16 →
        exec (.heat t handle action level) s = .next
          { heard s t with cp := { (heard s t).cp with heatQueue := s.cp.heatQueue ++ [⟨handle, a, level⟩] } }) ∧
      (16 ≤ s.cp.heatQueue.length →
        exec (.heat t handle action level) s = .next
          (queueNotice (heard s t) .heatRefused (handle &&& 0x7F#8) 9 (if a = .setLevel then level.toNat else 0)))

/-- ABORT, whatever its tag, row by row of R160. A KEEPALIVE restarts a running silence timer and does nothing else, and a cell that fails
its check, or is of a kind the link does not take, changes nothing. -/
def Obligations.AbortKeepaliveAndFailedCells : Prop :=
  (∀ (s : State) (t : Time) (tag : Byte), Settled s →
    (s.cp.state = .idle ∨ s.cp.state = .status → exec (.abort t tag) s = .next (heard s t)) ∧
    (∀ o : Order, s.cp.order = some o → s.cp.state = .dataOut →
      exec (.abort t tag) s = .next (endedCheck { heard s t with hs := { s.hs with held := [] } } o.tag .aborted 0 0)) ∧
    (∀ o : Order, s.cp.order = some o → s.cp.state = .dataIn →
      exec (.abort t tag) s = .next (endedCheck (heard s t) o.tag .aborted 0 0)) ∧
    (s.cp.state = .completing →
      exec (.abort t tag) s = .next { heard s t with cp := { (heard s t).cp with aborting := true } })) ∧
    (∀ (s : State) (t : Time), Settled s → exec (.keepalive t) s = .next (heard s t)) ∧
    ∀ (s : State) (link : Link) (cell : Cell), Settled s → exec (.cellCheckFailed link cell) s = .next s

/-- The upstream transmitter: the oldest status first, then the whole pending credit, then the first reply cell, then the oldest notice. A
status of the order in progress closes it, a BUSY or NOT READY one does not; the last reply cell is followed by GOOD. The four cells are
laid out as in section 11.2, with the check of R178 and the codes of section 11.7. What the link shows is log 8, one cell a step log 31. -/
def Obligations.UpstreamTransmitterPrefers : Prop :=
  (∀ s : State, Settled s →
    (∀ (c : StatusCell) (rest : List StatusCell), s.cp.statuses = c :: rest →
      (c.own = false →
        exec .upstreamTransmit s = .next
          { s with upLine := some (statusCell c), cp := { s.cp with statuses := rest } }) ∧
      (∀ o : Order, c.own = true → s.cp.order = some o → c.condition ≠ .good ∨ (∀ w d : Nat, o.job ≠ .pace w d) →
        exec .upstreamTransmit s = .next
          { s with upLine := some (statusCell c), cp := { s.cp with statuses := rest, state := .idle, order := none } })) ∧
    (s.cp.statuses = [] → ∀ o : Order, s.cp.order = some o → 0 < s.cp.pendingCredit →
      exec .upstreamTransmit s = .next
        { s with upLine := some (creditCell o.tag s.cp.pendingCredit), cp := { s.cp with pendingCredit := 0 } }) ∧
    (s.cp.statuses = [] → s.cp.pendingCredit = 0 → ∀ (o : Order) (p : Payload) (rest : List Payload), s.cp.order = some o →
      s.cp.dataIn = p :: rest →
      (rest ≠ [] →
        exec .upstreamTransmit s = .next
          { s with upLine := some (dataCell o.tag p), cp := { s.cp with dataIn := rest } }) ∧
      (rest = [] →
        exec .upstreamTransmit s = .next (endedGood { s with upLine := some (dataCell o.tag p) } o.tag))) ∧
    (s.cp.statuses = [] → s.cp.pendingCredit = 0 → s.cp.dataIn = [] →
      (∀ (n : Notice) (rest : List Notice), s.cp.notices = n :: rest →
        exec .upstreamTransmit s = .next { s with upLine := some (noticeCell n), cp := { s.cp with notices := rest } }) ∧
      (s.cp.notices = [] → exec .upstreamTransmit s = .next s))) ∧
  (∀ c : StatusCell,
    CellIs (statusCell c) 0x11 c.tag
      [match c.condition with | .good => 0 | .check => 1 | .busy => 2 | .notReady => 3, BitVec.ofNat 8 c.key.code]) ∧
  (∀ (tag : Byte) (n : Nat), CellIs (creditCell tag n) 0x12 tag [BitVec.ofNat 8 n]) ∧
  (∀ (tag : Byte) (p : Payload), CellIs (dataCell tag p) 0x13 tag p.toList) ∧
  (∀ n : Notice,
    CellIs (noticeCell n) 0x14 n.subject
      ([BitVec.ofNat 8 n.kind.code, if n.gap then 1 else 0] ++ twoBytes n.first.toNat ++ twoBytes n.second.toNat ++
        twoBytes n.stamp.toNat)) ∧
  [NoticeKind.panPlaced, .panReturned, .panMoved, .panLifted, .panRetired, .panSplit, .tableFull, .levelChanged, .stepDone,
    .programDone, .heatRefused, .legTripped, .legLocked, .coilHot, .coilCool, .boardOnline, .boardOffline, .mainsLost, .mainsBack,
    .hobHalted].map (·.code) = List.range' 1 20

/-! ### The board links -/

/-- The off-now requests of the Coil Monitor and the Protection Unit name one leg: the waiting off-now of the leg's board gains it; a
board that is not ONLINE, and a hub that is not READY, get none. A board's transmitter sends the off-now first, then the drive cell,
then the IDENT REQUEST, which starts the census's times; in a hub that is not READY the link carries nothing. The three cells are laid
out as in section 11.6; the bits of an absent selector and sync group are open (log 9), and a leg that does not fire has setpoint 0 and
the sync-none bit in IDLE and QUIET cells too (log 48). -/
def Obligations.OffNowsAreNamedAndSentFirst : Prop :=
  (∀ (s : State), Settled s →
    let gains (l : LegId) : Vector BoardPort 4 :=
      if s.boards[legBoard l].state = .online ∧ s.sup.hub = .ready then
        s.boards.set (legBoard l)
          { s.boards[legBoard l] with
            txOffNow := some (Vector.ofFn fun i =>
              decide (i = legLocal l) || (s.boards[legBoard l].txOffNow.getD (Vector.replicate 4 false))[i]) }
      else s.boards
    (∀ (k : CoilId) (rest : List CoilId), s.posts.releases = k :: rest →
      exec .releaseNotice s = .next { s with boards := gains (coilLeg k), posts := { s.posts with releases := rest } }) ∧
    (s.posts.releases = [] → exec .releaseNotice s = .next s) ∧
    (∀ (l : LegId) (rest : List LegId), s.posts.offNows = l :: rest →
      exec .offNowRequest s = .next { s with boards := gains l, posts := { s.posts with offNows := rest } }) ∧
    (s.posts.offNows = [] → exec .offNowRequest s = .next s)) ∧
  (∀ (s : State) (b : BoardId) (t : Time), Settled s →
    (s.sup.hub ≠ .ready → exec (.boardTransmit b t) s = .next { s with now := max s.now t }) ∧
    (s.sup.hub = .ready →
      (∀ legs : Vector Bool 4, s.boards[b].txOffNow = some legs →
        exec (.boardTransmit b t) s = .next
          { s with
            now := max s.now t
            boardLines := s.boardLines.set b (some (offNowCell legs))
            boards := s.boards.set b { s.boards[b] with txOffNow := none } }) ∧
      (∀ d : DriveCell, s.boards[b].txOffNow = none → s.boards[b].txDrive = some d →
        exec (.boardTransmit b t) s = .next
          { s with
            now := max s.now t, draws := s.draws + 1
            boardLines := s.boardLines.set b (some (driveCellBytes s.draws d))
            boards := s.boards.set b { s.boards[b] with txDrive := none } }) ∧
      (s.boards[b].txOffNow = none → s.boards[b].txDrive = none → s.boards[b].txIdent = true →
        exec (.boardTransmit b t) s = .next
          { s with
            now := max s.now t
            boardLines := s.boardLines.set b (some identRequestCell)
            boards := s.boards.set b
              { s.boards[b] with
                txIdent := false, requestTime := some (max s.now t), deadline := some (max s.now t + 500000) } }) ∧
      (s.boards[b].txOffNow = none → s.boards[b].txDrive = none → s.boards[b].txIdent = false →
        exec (.boardTransmit b t) s = .next { s with now := max s.now t }))) ∧
  (∀ legs : Vector Bool 4,
    CellIs (offNowCell legs) 0x22 0
      [BitVec.ofNat 8 ((if legs[0] then 1 else 0) + (if legs[1] then 2 else 0) + (if legs[2] then 4 else 0) + (if legs[3] then 8 else 0))]) ∧
  CellIs identRequestCell 0x23 0 [] ∧
  ∀ (draw : Nat) (d : DriveCell), ∃ legs : Vector (Byte × Byte) 4,
    CellIs (driveCellBytes draw d) 0x21 d.serial
      ((match d.kind with | .idle => 0 | .active => 1 | .quiet => 2) :: legs.toList.flatMap fun x => [x.1, x.2]) ∧
    ∀ l : LocalLeg,
      (∀ (sel : Selector) (sp : Nat) (sync : PanSlot), d.legs[l] = .fire sel sp sync →
        legs[l].1 = BitVec.ofNat 8 (sel.val * 64 + sync.val * 2 + sp / 10 / 256 % 2) ∧ legs[l].2 = BitVec.ofNat 8 (sp / 10)) ∧
      (∀ sel : Selector, d.legs[l] = .probe sel → legs[l].1 &&& 0xF1 = BitVec.ofNat 8 (sel.val * 64 + 16) ∧ legs[l].2 = 0) ∧
      (d.legs[l] = .none → legs[l].1 &&& 0x31 = 0x30 ∧ legs[l].2 = 0)

/-- A board enters ONLINE, and leaves service, with the steps and posts of R145 and R146. The census deadline that has passed takes a
WAITING board OFFLINE with cause NO IDENT; else its expiry changes only the clock. That the deadline has passed at its own instant, where
R143 says 'when the deadline passes', is the model's reading (log 16). -/
def Obligations.BoardsEnterAndLeaveService : Prop :=
  ((∀ (s : State) (b : BoardId) (unsolicited : Bool),
    boardOnline s b unsolicited =
      queueNotice
        { s with
          boards := s.boards.set b
            { s.boards[b] with
              state := .online, slot := none, serial := none, missed := 0, holdRun := 0, noReport := Vector.replicate 4 0
              lastFiring := Vector.replicate 4 none, deadline := none, txIdent := false }
          posts := { s.posts with
                     cmBoards := s.posts.cmBoards ++ [(b, .into)]
                     puBoards := s.posts.puBoards ++ [(b, .into)]
                     triggers := s.posts.triggers ++ [.boardState b] } }
        .boardOnline (BitVec.ofNat 8 b.val) (match s.ts.work.t0[b].phase with | .l1 => 1 | .l2 => 2)
        (if unsolicited then 1 else 0)) ∧
    ∀ (s : State) (b : BoardId) (failed : Bool) (cause : BoardCause),
      let u : State :=
        queueNotice
          { s with
            boards := s.boards.set b
              { s.boards[b] with
                state := if failed then .failed else .offline, deadline := none, slot := none, serial := none
                txDrive := none, txIdent := false } }
          .boardOffline (BitVec.ofNat 8 b.val) cause.code (if failed then 1 else 0)
      boardLeaves s b failed cause =
        { u with
          posts := { s.posts with
                     cmBoards := s.posts.cmBoards ++ [(b, .out failed)]
                     puBoards := s.posts.puBoards ++ [(b, .out failed)]
                     triggers := s.posts.triggers ++ (if s.boards[b].state = .online then [.boardState b] else [])
                     haltCauses := s.posts.haltCauses ++
                       (if s.boards[b].state = .online ∧ s.fe.hob = .running ∧
                            (∀ j : BoardId, j ≠ b → s.ts.work.t0[j].configured = true → s.boards[j].state ≠ .online) then
                          [.noBoards] else []) } }) ∧
  (∀ (s : State) (b : BoardId) (t : Time), Settled s →
    (∀ d : Time, s.boards[b].state = .waiting → s.boards[b].deadline = some d → d ≤ max s.now t →
      exec (.censusDeadlineExpiry b t) s = .next (boardLeaves { s with now := max s.now t } b false .noIdent)) ∧
    (s.boards[b].state ≠ .waiting ∨ (∀ d : Time, s.boards[b].deadline = some d → max s.now t < d) →
      exec (.censusDeadlineExpiry b t) s = .next { s with now := max s.now t }))

/-- An IDENT is judged on the board state and its content, row by row of R144; a cell with an undefined diagnosis, and every cell while
the hub is not READY, is discarded. A PENDING before the IDENT REQUEST has been sent has no 3000 ms bound (log 26). -/
def Obligations.IdentIsJudged : Prop :=
  ∀ (s : State) (b : BoardId) (t : Time) (cell : IdentCell), Settled s →
    let u : State := { s with now := max s.now t }
    let mismatch : Bool := !(cell.typeCode == 0x41#8 && cell.legs == 4#8 && cell.coils == 16#8)
    (s.sup.hub ≠ .ready ∨ 2 < cell.diagnosis.toNat ∨ s.boards[b].state = .unconfigured →
      exec (.ident b t cell) s = .next u) ∧
    (s.sup.hub = .ready → cell.diagnosis.toNat ≤ 2 →
      (s.boards[b].state = .waiting ∨ s.boards[b].state = .online ∨ s.boards[b].state = .offline → mismatch = true →
        exec (.ident b t cell) s = .next (boardLeaves u b true .typeMismatch)) ∧
      (s.boards[b].state = .waiting ∨ s.boards[b].state = .online ∨ s.boards[b].state = .offline → mismatch = false →
        cell.diagnosis = 2 → exec (.ident b t cell) s = .next (boardLeaves u b true .identFail)) ∧
      (s.boards[b].state = .waiting → mismatch = false → cell.diagnosis = 1 →
        exec (.ident b t cell) s = .next (boardOnline u b false)) ∧
      (∀ r : Time, s.boards[b].state = .waiting → mismatch = false → cell.diagnosis = 0 →
        s.boards[b].requestTime = some r → s.boards[b].txIdent = false →
        exec (.ident b t cell) s = .next
          { u with
            boards := s.boards.set b
              { s.boards[b] with deadline := some (min (max s.now t + 500000) (r + 3000000)) } }) ∧
      (s.boards[b].state = .waiting → mismatch = false → cell.diagnosis = 0 →
        s.boards[b].requestTime = none ∨ s.boards[b].txIdent = true →
        exec (.ident b t cell) s = .next
          { u with boards := s.boards.set b { s.boards[b] with deadline := some (max s.now t + 500000) } }) ∧
      (s.boards[b].state = .online → mismatch = false → cell.diagnosis = 1 → exec (.ident b t cell) s = .next u) ∧
      (s.boards[b].state = .online → mismatch = false → cell.diagnosis = 0 →
        exec (.ident b t cell) s = .next (boardLeaves u b false .restarted)) ∧
      (s.boards[b].state = .offline → mismatch = false → cell.diagnosis = 1 →
        exec (.ident b t cell) s = .next (boardOnline u b true)) ∧
      (s.boards[b].state = .offline → mismatch = false → cell.diagnosis = 0 → exec (.ident b t cell) s = .next u) ∧
      (s.boards[b].state = .failed → mismatch = false → cell.diagnosis = 1 →
        exec (.ident b t cell) s = .next (boardOnline u b true)) ∧
      (s.boards[b].state = .failed → mismatch = true ∨ cell.diagnosis ≠ 1 → exec (.ident b t cell) s = .next u))

/-- SENSE cells. A stale cell, a duplicate, one with an undefined value and one of a board that is not ONLINE change nothing. A valid one
is recorded in the slot and taken in turn by the Coil Monitor, the Protection Unit with the drive the record shows, and the Budget
Allocator (log 37). It moves the board's derating bucket (R83), with the recompute on a new derate at once (log 46), and, where R4 uses
it, gives its coil its coverage, range mode, material and temperature; a member release that waits does not delay it (R20). A trip flag
trips a READY leg (R127). A FIRING report above the setpoint given and the margin sets the overshoot flag of a READY leg, and with the
flag set trips it (R128). A trip takes the steps of R130: trip count and window, TRIPPED or LOCKED, the posts of R126, the off-now
request, the notices, the protective event with the coil named, or else the coil fired (R137, log 28), and LEG LOCK. A named coil at HOT
or above joins the hot set, and one at COOL or below leaves it, each with its claim and notice, a hot one with a protective event and,
firing, an off-now request (R134); the notice carries the reported temperature also where R4 does not use the report (R15; log 50). -/
def Obligations.SenseReportsAreTaken : Prop :=
  (∀ (s : State) (b : BoardId) (cell : SenseCell), Settled s →
    let r := Report.ofCell b cell
    let l : LegId := r.globalLeg
    (cell.defined = false ∨ s.sup.hub ≠ .ready ∨ s.boards[b].state ≠ .online ∨ s.boards[b].serial ≠ some cell.serial ∨
        s.boards[b].slot = none → exec (.sense b cell) s = .next s) ∧
    (∀ slot : SlotRecord, s.boards[b].slot = some slot → slot.reported[r.leg] = true → exec (.sense b cell) s = .next s) ∧
    (∀ slot : SlotRecord, cell.defined = true → s.sup.hub = .ready → s.boards[b].state = .online →
      s.boards[b].serial = some cell.serial → s.boards[b].slot = some slot → slot.reported[r.leg] = false →
      exec (.sense b cell) s = .next
        (takeHeatsink
          (protectReport
            (takeReport
              { s with
                boards := s.boards.set b
                  { s.boards[b] with
                    heatsink := (cell.heatsink.toNat : Int) - 40
                    slot := some { slot with reported := slot.reported.set r.leg true, hold := slot.hold || cell.hold } } } r)
            r slot.drive[r.leg])
          b ((cell.heatsink.toNat : Int) - 40))) ∧
    ∀ slot : SlotRecord, cell.defined = true → s.sup.hub = .ready → s.boards[b].state = .online →
      s.boards[b].serial = some cell.serial → s.boards[b].slot = some slot → slot.reported[r.leg] = false →
      let bucket : Fin 32 := bucketAfter s.ba.derating[b].bucket ((cell.heatsink.toNat : Int) - 40)
      let same : Prop := s.ba.derating[b].manual = none → s.ts.work.t5[s.ba.derating[b].bucket] = s.ts.work.t5[bucket]
      ∃ u, (same → exec (.sense b cell) s = .next u) ∧ (¬ same → exec (.sense b cell) s = .next (recompute u)) ∧
        u = { s with
              boards := s.boards.set b
                { s.boards[b] with
                  heatsink := (cell.heatsink.toNat : Int) - 40
                  slot := some { slot with reported := slot.reported.set r.leg true, hold := slot.hold || cell.hold } }
              coils := u.coils, posts := u.posts, pu := u.pu
              ba := { s.ba with derating := s.ba.derating.set b { s.ba.derating[b] with bucket := bucket } }
              cp := { s.cp with notices := u.cp.notices, gap := u.cp.gap } } ∧
        (usedCoil s r = none → u.coils = s.coils) ∧
        (∀ k : CoilId, usedCoil s r = some k →
          u.coils = s.coils.set k
            { s.coils[k] with
              coverage := coverageOf (classEntry s k).empty (classEntry s k).full
                (measuredV r.mode s.coils[k].range r.fine r.coarse)
              range := measuredRange r.mode s.coils[k].range r.fine
              material := r.material
              temp := r.temp
              unobserved := false
              fireMet := u.coils[k].fireMet
              occupancy := u.coils[k].occupancy
              confirm := u.coils[k].confirm }) ∧
        (cell.trip = true → s.pu.legs[l].state = .ready →
          let n : Nat := if newWindow s l then 1 else s.pu.legs[l].trips + 1
          u.pu.legs = s.pu.legs.set l
            { state := if n < 3 then .tripped else .locked
              trips := n
              windowStart := if newWindow s l then some s.fe.frameCount else s.pu.legs[l].windowStart
              cooldown := if n < 3 then some s.ts.work.cooldown else none
              overshoot := false })) ∧
  (∀ (b : BoardId) (cell : SenseCell),
    Report.ofCell b cell =
      { board := b, leg := Fin.ofNat 4 cell.leg.toNat
        mode := if cell.mode = 0 then .idle else if cell.mode = 1 then .firing else .probe
        selector := if cell.selector = 0xFF#8 then none else some (Fin.ofNat 4 cell.selector.toNat)
        fine := cell.fine.toNat, coarse := cell.coarse.toNat, delivered := cell.delivered.toNat * 10, temp := cell.temp.toNat
        material := if cell.material = 0 then .none else if cell.material = 1 then .ferritic
          else if cell.material = 2 then .layered else .unsuitable
        trip := cell.trip }) ∧
  (∀ (s : State) (r : Report),
    (∀ k : CoilId, usedCoil s r = some k ↔
      (∃ sel : Selector, r.selector = some sel ∧ k = coilAt r.board r.leg sel) ∧ r.mode ≠ .idle ∧ s.coils[k].occupancy ≠ .absent ∧
        s.ts.work.t1[k].cls.val ≤ 2 ∧ s.coils[k].disabled = false ∧ s.legOut[coilLeg k].board = false ∧
        s.legOut[coilLeg k].leg = false) ∧
    (∀ k : CoilId, namedCoil s r = some k ↔
      (∃ sel : Selector, r.selector = some sel ∧ k = coilAt r.board r.leg sel) ∧ r.mode ≠ .idle ∧ s.coils[k].occupancy ≠ .absent) ∧
    (usedCoil s r = none → takeReport s r = s) ∧
    ∀ k : CoilId, usedCoil s r = some k → takeReport s r = takeMeasurement s k r) ∧
  (∀ (s : State) (r : Report) (d : LegDrive),
    let l : LegId := r.globalLeg
    let setpoint : Nat :=
      match d with
      | .fire _ sp _ => sp
      | _ => 0
    let coil : Option CoilId :=
      match namedCoil s r, d with
      | some k, _ => some k
      | none, .fire sel _ _ => some (legCoil l sel)
      | none, _ => none
    let u : State := if r.trip = true then trip s l .boardTrip coil r.delivered else s
    let v : State := if r.mode = .firing then testOvershoot u r d else u
    (namedCoil s r = none → protectReport s r d = v) ∧
    (∀ k : CoilId, namedCoil s r = some k → protectReport s r d = judgeTemperature v k r) ∧
    (s.pu.legs[l].state ≠ .ready → testOvershoot s r d = s) ∧
    (s.pu.legs[l].state = .ready → r.delivered ≤ setpoint + s.ts.work.overshootMargin →
      testOvershoot s r d =
        { s with pu := { s.pu with legs := s.pu.legs.set l { s.pu.legs[l] with overshoot := false } } }) ∧
    (s.pu.legs[l].state = .ready → setpoint + s.ts.work.overshootMargin < r.delivered → s.pu.legs[l].overshoot = false →
      testOvershoot s r d =
        { s with pu := { s.pu with legs := s.pu.legs.set l { s.pu.legs[l] with overshoot := true } } }) ∧
    (s.pu.legs[l].state = .ready → setpoint + s.ts.work.overshootMargin < r.delivered → s.pu.legs[l].overshoot = true →
      testOvershoot s r d = trip s l .overshoot coil r.delivered)) ∧
  (∀ (s : State) (k : CoilId) (r : Report),
    let hot : State :=
      { queueNotice s .coilHot (BitVec.ofNat 8 k.val) r.temp s.ts.work.hotLimit with
        pu := { s.pu with hot := s.pu.hot.set k true }
        posts := { s.posts with
                   cmClaims := s.posts.cmClaims ++ [.hot k]
                   offNows := s.posts.offNows ++ (if r.mode = .firing then [coilLeg k] else []) } }
    (s.pu.hot[k] = false → s.ts.work.hotLimit ≤ r.temp →
      judgeTemperature s k r = protective hot .coilHot (some (coilBoard k)) (some (coilLeg k)) (some k) r.temp) ∧
    (s.pu.hot[k] = true → r.temp ≤ s.ts.work.coolLimit →
      judgeTemperature s k r =
        { queueNotice s .coilCool (BitVec.ofNat 8 k.val) r.temp s.ts.work.coolLimit with
          pu := { s.pu with hot := s.pu.hot.set k false }
          posts := { s.posts with cmClaims := s.posts.cmClaims ++ [.cool k] } }) ∧
    ((s.pu.hot[k] = false ∧ r.temp < s.ts.work.hotLimit) ∨ (s.pu.hot[k] = true ∧ s.ts.work.coolLimit < r.temp) →
      judgeTemperature s k r = s)) ∧
  ∀ (s : State) (l : LegId) (cause : TripCause) (coil : Option CoilId) (value : Nat),
    (s.pu.legs[l].state ≠ .ready → trip s l cause coil value = s) ∧
    (s.pu.legs[l].state = .ready →
      let n : Nat := if newWindow s l then 1 else s.pu.legs[l].trips + 1
      let leg : Byte := BitVec.ofNat 8 l.val
      let kind : FaultKind :=
        match cause with
        | .boardTrip => .boardTrip
        | .overshoot => .overshoot
        | .noReport => .noReport
      let told : State := queueNotice s .legTripped leg kind.code n
      let shown : State := if n < 3 then told else queueNotice told .legLocked leg n 0
      let u : State :=
        protective
          { shown with
            pu := { s.pu with
                    legs := s.pu.legs.set l
                      { state := if n < 3 then .tripped else .locked
                        trips := n
                        windowStart := if newWindow s l then some s.fe.frameCount else s.pu.legs[l].windowStart
                        cooldown := if n < 3 then some s.ts.work.cooldown else none
                        overshoot := false } }
            posts := { s.posts with
                       cmClaims := s.posts.cmClaims ++ [.legOut l], triggers := s.posts.triggers ++ [.legState l]
                       offNows := s.posts.offNows ++ [l] } }
          kind (some (legBoard l)) (some l) coil value
      trip s l cause coil value =
        (if n < 3 ∨ s.fe.hob = .halted then u
        else { u with pu := { u.pu with traps := u.pu.traps ||| (1#11 <<< 10) } }))

/-- Coverage is that of R8's table. Occupancy after a used measurement: DETECT with the confirm count makes a VACANT coil SENSED, RELEASE
makes a SENSED coil VACANT, and a member stays MEMBER until its release is taken; each change is posted to the Pan Tracker. A member
release waits behind the frame-ends and one-second events still to be taken, and stands for one that waits already for the coil (R11,
log 15). A member that crosses the FIRE it was judged against, or becomes AVAILABLE, is an eligibility change (R19, log 14); no
other measurement is. -/
def Obligations.MeasurementsClassifyCoils : Prop :=
  (∀ empty full v : Nat,
    (v ≤ empty → coverageOf empty full v = 0) ∧ (empty < v → full ≤ v → coverageOf empty full v = 200) ∧
      (empty < v → v < full → coverageOf empty full v = 200 * (v - empty) / (full - empty))) ∧
  ∀ (s : State) (k : CoilId) (r : Report), usedCoil s r = some k →
    let cov := coverageOf (classEntry s k).empty (classEntry s k).full (measuredV r.mode s.coils[k].range r.fine r.coarse)
    let u := takeMeasurement s k r
    (s.coils[k].occupancy = .vacant → cov < (classEntry s k).detect →
      u.coils[k].occupancy = .vacant ∧ u.coils[k].confirm = 0 ∧ u.posts.coilEvents = s.posts.coilEvents) ∧
    (s.coils[k].occupancy = .vacant → (classEntry s k).detect ≤ cov → s.coils[k].confirm + 1 < s.ts.work.confirmCount →
      u.coils[k].occupancy = .vacant ∧ u.coils[k].confirm = s.coils[k].confirm + 1 ∧
        u.posts.coilEvents = s.posts.coilEvents) ∧
    (s.coils[k].occupancy = .vacant → (classEntry s k).detect ≤ cov → s.ts.work.confirmCount ≤ s.coils[k].confirm + 1 →
      u.coils[k].occupancy = .sensed ∧ u.coils[k].confirm = 0 ∧
        u.posts.coilEvents = s.posts.coilEvents ++ [.becameSensed k r.material]) ∧
    (s.coils[k].occupancy = .sensed → cov < (classEntry s k).release →
      u.coils[k].occupancy = .vacant ∧ u.coils[k].confirm = 0 ∧
        u.posts.coilEvents = s.posts.coilEvents ++ [.released k r.material] ∧
        u.posts.releases = s.posts.releases ++ (if r.mode = .firing then [k] else [])) ∧
    (s.coils[k].occupancy = .sensed ∨ s.coils[k].occupancy = .member → (classEntry s k).release ≤ cov →
      u.coils[k].occupancy = s.coils[k].occupancy ∧ u.coils[k].confirm = s.coils[k].confirm ∧
        u.posts.coilEvents = s.posts.coilEvents ++
          (if s.coils[k].occupancy = .member ∧ s.coils[k].material ≠ r.material then
            [.materialChanged k s.coils[k].owner r.material] else [])) ∧
    (s.coils[k].occupancy = .member → cov < (classEntry s k).release →
      u.coils[k].occupancy = .member ∧
        ((∀ e ∈ s.posts.coilEvents, e.releases k = false) →
          u.posts.coilEvents = s.posts.coilEvents ++
            [.memberRelease k s.coils[k].owner r.material (r.mode == .firing) s.posts.ptFrameEnds.length s.posts.ptSeconds]) ∧
        ((∃ e ∈ s.posts.coilEvents, e.releases k = true) →
          u.posts.coilEvents = s.posts.coilEvents.map fun e =>
            match e with
            | .memberRelease c p m firing frames seconds =>
              .memberRelease c p m (firing || (decide (c = k) && r.mode == .firing)) frames seconds
            | e => e)) ∧
    (∀ (c : CoilId) (e : CoilEvent), e.releases c = true ↔ ∃ p m firing frames seconds, e = .memberRelease c p m firing frames seconds) ∧
    u.coils[k].fireMet = decide ((classEntry s k).fire ≤ cov) ∧
    u.posts.triggers = s.posts.triggers ++
      (if s.coils[k].occupancy = .member ∧ (classEntry s k).release ≤ cov ∧
          (s.coils[k].fireMet ≠ decide ((classEntry s k).fire ≤ cov) ∨
            (s.coils[k].unobserved = true ∧ s.coils[k].hot = false ∧ s.coils[k].disabled = false)) then
        [.eligibility k s.coils[k].owner] else [])

/-- The reading used and the range mode after a measurement are those of R6 and R7. -/
def Obligations.ReadingAndRangeOfAMeasurement : Prop :=
  ∀ fine coarse : Nat,
    (fine < 3584 → measuredV .probe .fine fine coarse = fine ∧ measuredRange .probe .fine fine = .fine) ∧
    (3584 ≤ fine → measuredV .probe .fine fine coarse = coarse * 8 ∧ measuredRange .probe .fine fine = .coarse) ∧
    (fine < 3072 → measuredV .probe .coarse fine coarse = fine ∧ measuredRange .probe .coarse fine = .fine) ∧
    (3072 ≤ fine → measuredV .probe .coarse fine coarse = coarse * 8 ∧ measuredRange .probe .coarse fine = .coarse) ∧
    ∀ range : RangeMode, measuredV .firing range fine coarse = coarse * 8 ∧ measuredRange .firing range fine = range

/-- The bucket after a heatsink temperature is that of R83's table, for a temperature of a board in AUTO and in MANUAL alike; a new derate
of the board is a derating change (R84), on which the recompute is made at once (log 46), and nothing else changes. -/
def Obligations.DeratingBucketFollowsTheHeatsink : Prop :=
  ∀ (s : State) (b : BoardId) (temp : Int),
    let old := s.ba.derating[b].bucket
    let new := (takeHeatsink s b temp).ba.derating[b].bucket
    let candidate : Nat := if 155 ≤ temp then 31 else if temp < 0 then 0 else (temp / 5).toNat
    let u : State := { s with ba := { s.ba with derating := s.ba.derating.set b { s.ba.derating[b] with bucket := new } } }
    (old.val < candidate → new.val = candidate) ∧
    (candidate = old.val → new = old) ∧
    (candidate < old.val → temp ≤ 5 * (candidate : Int) + 2 → new.val = candidate) ∧
    (candidate < old.val → 5 * (candidate : Int) + 2 < temp → new = old) ∧
    (takeHeatsink s b temp).ba.derating[b].manual = s.ba.derating[b].manual ∧
    takeHeatsink s b temp =
      if s.ba.derating[b].manual = none ∧ s.ts.work.t5[old] ≠ s.ts.work.t5[new] then recompute u else u

/-! ### The Heat Sequencer -/

/-- SET LEVEL, PAUSE and RESUME, each taken from the head of the heat cell queue, row by row of R53 to R56; a command whose action is not
that of the head changes nothing (log 2). The subject of HEAT REFUSED is the handle with bit 7 clear (log 27), where R53 says the handle
as carried. A handle byte 0xFF is P7.15 (log 44). A cell taken in SUPPLY LOW meets a hob that is not RUNNING (R163): where the halt of the
fall still waits it is taken first (`finishHalt`, stated under SupplyAcrossVOp; log 45). -/
def Obligations.HeatCellsAreCarriedOut : Prop :=
  (∀ s : State, Settled s → s.cp.heatQueue = [] →
    exec .setLevel s = .next s ∧ exec .pause s = .next s ∧ exec .resume s = .next s) ∧
    (∀ (i : Instr) (s : State) (cell : HeatCell) (rest : List HeatCell), Settled s → s.cp.heatQueue = cell :: rest →
      s.sup.hub = .supplyLow → s.fe.hob = .running →
      (i = .setLevel ∧ cell.action = .setLevel) ∨ (i = .pause ∧ cell.action = .pause) ∨ (i = .resume ∧ cell.action = .resume) →
      exec i s = exec i (finishHalt s) ∧ Settled (finishHalt s) ∧ (finishHalt s).fe.hob = .halted ∧
        (finishHalt s).cp.heatQueue = cell :: rest) ∧
    ∀ (s : State) (cell : HeatCell) (rest : List HeatCell), Settled s → s.cp.heatQueue = cell :: rest →
      let p := handleSlot cell.handle
      let r := s.pans[p]
      let u : State := { s with cp := { s.cp with heatQueue := rest } }
      let level := cell.level.toNat
      let others := s.hs.requests.filter (· ≠ p)
      let refused (reason shown : Nat) : State := queueNotice u .heatRefused (cell.handle &&& 0x7F#8) reason shown
      (cell.action ≠ .setLevel → exec .setLevel s = .next s) ∧
      (cell.action ≠ .pause → exec .pause s = .next s) ∧
      (cell.action ≠ .resume → exec .resume s = .next s) ∧
      (s.sup.hub ≠ .supplyLow ∨ s.fe.hob ≠ .running →
      (handleCurrent s cell.handle = false →
        (cell.action = .setLevel → exec .setLevel s = .next (refused 1 level)) ∧
        (cell.action = .pause → exec .pause s = .next (refused 1 0)) ∧
        (cell.action = .resume → exec .resume s = .next (refused 1 0))) ∧
      (handleCurrent s cell.handle = true → cell.action = .setLevel →
        (16 ≤ level → exec .setLevel s = .next (refused 2 level)) ∧
        (level < 16 → s.fe.hob ≠ .running → exec .setLevel s = .next (refused 5 level)) ∧
        (level < 16 → s.fe.hob = .running → r.pres.presence = .forming → exec .setLevel s = .next (refused 3 level)) ∧
        (s.fe.hob = .running → r.pres.presence ≠ .forming → level = 0 →
          exec .setLevel s = .next (heatSet u p .idle others)) ∧
        (level < 16 → s.fe.hob = .running → r.pres.presence = .lifted → 0 < level →
          exec .setLevel s = .next (refused 4 level)) ∧
        (level < 16 → s.fe.hob = .running → r.pres.presence.standing = true → 0 < level → r.pres.material = .unsuitable →
          exec .setLevel s = .next (refused 6 level)) ∧
        ∀ l : Level, l.val = level → s.fe.hob = .running → r.pres.presence.standing = true → 0 < level →
          r.pres.material ≠ .unsuitable →
          exec .setLevel s = .next (heatSet u p { HeatPart.idle with state := .level, level := l } (p :: others))) ∧
      (handleCurrent s cell.handle = true → cell.action = .pause →
        (r.heat.state = .level ∨ r.heat.state = .program →
          exec .pause s = .next
            (heatSet u p { r.heat with state := .paused, prior := some (modeLeft r.heat) } others)) ∧
        (r.heat.state = .suspended → exec .pause s = .next (heatSet u p { r.heat with state := .paused } s.hs.requests)) ∧
        (r.heat.state = .idle ∨ r.heat.state = .paused ∨ r.heat.state = .stopped →
          exec .pause s = .next (refused 8 0))) ∧
      (handleCurrent s cell.handle = true → cell.action = .resume →
        (r.heat.state ≠ .paused → exec .resume s = .next (refused 7 0)) ∧
        (r.heat.state = .paused → r.pres.presence = .lifted → exec .resume s = .next (refused 4 0)) ∧
        (r.heat.state = .paused → r.pres.presence ≠ .lifted → s.fe.hob ≠ .running →
          exec .resume s = .next (refused 5 0)) ∧
        (r.heat.state = .paused → r.pres.presence ≠ .lifted → s.fe.hob = .running → r.pres.material = .unsuitable →
          exec .resume s = .next (refused 6 0)) ∧
        (r.heat.state = .paused → r.pres.presence ≠ .lifted → s.fe.hob = .running → r.pres.material ≠ .unsuitable →
          exec .resume s = .next (heatSet u p (modeTaken r.heat) (p :: others)))))

/-- A lift, a return, a retirement and a material change, row by row of R65 to R68. A hob halt makes every context but the IDLE ones
STOPPED, STOP HOB every context but the STOPPED ones IDLE, both emptying the request order list; START HOB makes the STOPPED ones IDLE.
A return leaves a context already in LEVEL or PROGRAM, for which R66 has no row, and its place in the list (log 58). Program stores are
kept but for the one of a retired pan. What changed is posted in one heat change naming the contexts (R71). Where a founding finds the Pan
Tracker's posts waiting (`finishPans`) they are taken in their order, as these commands take them (log 55). -/
def Obligations.PostsChangeContexts : Prop :=
  (∀ (s : State) (p : PanSlot) (rest : List PanPost), Settled s →
    let r := s.pans[p]
    let u : State := { s with posts := { s.posts with pans := rest } }
    let others := s.hs.requests.filter (· ≠ p)
    let unsuitable : State :=
      queueNotice (heatSet u p .idle others) .heatRefused (s.handleOf p) 6 r.heat.level
    (s.posts.pans = .lift p :: rest →
      (r.heat.state = .level ∨ r.heat.state = .program →
        exec .heatLift s = .next
          (heatSet u p { r.heat with state := .suspended, prior := some (modeLeft r.heat) } others)) ∧
      (r.heat.state ≠ .level → r.heat.state ≠ .program → exec .heatLift s = .next u)) ∧
    (s.posts.pans = .back p :: rest →
      (r.heat.state = .suspended → r.pres.material ≠ .unsuitable →
        exec .heatReturn s = .next (heatSet u p (modeTaken r.heat) (p :: others))) ∧
      (r.heat.state = .suspended → r.pres.material = .unsuitable → exec .heatReturn s = .next unsuitable) ∧
      (r.heat.state ≠ .suspended → exec .heatReturn s = .next u)) ∧
    (s.posts.pans = .retirement p :: rest →
      exec .heatRetirement s = .next
        { heatSet u p .idle others with pans := s.pans.set p { r with heat := .idle, program := [] } }) ∧
    ∀ m : Material, s.posts.pans = .material p m :: rest →
      (r.heat.state = .level ∨ r.heat.state = .program → m = .unsuitable →
        exec .heatMaterialChange s = .next unsuitable) ∧
      ((r.heat.state ≠ .level ∧ r.heat.state ≠ .program) ∨ m ≠ .unsuitable → exec .heatMaterialChange s = .next u)) ∧
  (∀ (s : State) (rest : List HobPost), Settled s →
    let u : State := { s with posts := { s.posts with hob := rest } }
    (s.posts.hob = .halt :: rest →
      exec .heatHobHalt s = .next
        (contextsSet u (fun h => if h.state = .idle then h else { h with state := .stopped, prior := none }) [])) ∧
    (s.posts.hob = .stop :: rest →
      exec .heatStopHob s = .next (contextsSet u (fun h => if h.state = .stopped then h else .idle) [])) ∧
    (s.posts.hob = .start :: rest →
      exec .heatStartHob s = .next (contextsSet u (fun h => if h.state = .stopped then .idle else h) s.hs.requests))) ∧
  (∀ s : State, s.posts.pans = [] → finishPans s = s) ∧
  ∀ (i : Instr) (s u : State) (e : PanPost) (rest : List PanPost), Settled s → s.posts.pans = e :: rest →
    (match e with
      | .lift _ => i = .heatLift
      | .back _ => i = .heatReturn
      | .retirement _ => i = .heatRetirement
      | .material _ _ => i = .heatMaterialChange) →
    exec i s = .next u → finishPans s = finishPans u

/-- A one-second event takes one second from each step that counts (R62); the steps that reach 0 end as its tail (log 3). The end of a
timed step, row by row of R63; the step to end is the head of the tail (log 3). When the last of the tail has ended, one heat change names
every context the event changed (R71). A step whose position the store no longer holds ends without effect (log 39). -/
def Obligations.StepTimersCountAndEnd : Prop :=
  ((∀ s : State, Settled s → s.posts.hsSeconds = 0 → exec .heatStepTick s = .next s) ∧
    ∀ s : State, Settled s → 0 < s.posts.hsSeconds →
      let counts (p : PanSlot) : Bool :=
        decide (s.pans[p].heat.state = .program ∧ s.pans[p].heat.timed = true ∧
          (s.pans[p].pres.presence = .placed ∨ s.pans[p].pres.presence = .moving) ∧ s.fe.hob = .running ∧
          s.fe.lock = .locked)
      exec .heatStepTick s = .next
        { s with
          pans := Vector.ofFn fun p =>
            if counts p then
              { s.pans[p] with heat := { s.pans[p].heat with remaining := s.pans[p].heat.remaining - 1 } } else s.pans[p]
          hs := { s.hs with stepDue := allPans.filter fun p => counts p && decide (s.pans[p].heat.remaining ≤ 1) }
          posts := { s.posts with hsSeconds := s.posts.hsSeconds - 1 } }) ∧
  ∀ (s : State), s.sup.level ≠ .belowDig →
    (s.hs.stepDue = [] → exec .stepEnd s = .next s) ∧
    ∀ (p : PanSlot) (rest : List PanSlot), s.hs.stepDue = p :: rest →
      let h := s.pans[p].heat
      let ends (v : State) (changed : List PanSlot) : State :=
        { v with
          hs := { v.hs with
                  stepDue := rest, stepChanged := if rest = [] then [] else s.hs.stepChanged ++ changed }
          posts := { s.posts with
                     triggers := s.posts.triggers ++
                       (if rest = [] ∧ s.hs.stepChanged ++ changed ≠ [] then [.heatChange (s.hs.stepChanged ++ changed)] else []) } }
      let finished : State :=
        queueNotice
          { s with
            pans := s.pans.set p { s.pans[p] with heat := .idle }
            hs := { s.hs with requests := s.hs.requests.filter (· ≠ p) } }
          .programDone (s.handleOf p) h.position 0
      (¬ (h.state = .program ∧ h.timed = true ∧ h.remaining = 0) ∨ s.pans[p].program[h.position.val]? = none →
        exec .stepEnd s = .next (ends s [])) ∧
      ∀ step : ProgramStep, h.state = .program → h.timed = true → h.remaining = 0 →
        s.pans[p].program[h.position.val]? = some step →
        (∀ following : ProgramStep, step.action = .next → s.pans[p].program[h.position.val + 1]? = some following →
          exec .stepEnd s = .next
            (ends
              (queueNotice
                { s with
                  pans := s.pans.set p
                    { s.pans[p] with
                      heat := { h with
                                position := h.position + 1, level := following.level, remaining := following.duration
                                timed := decide (following.duration ≠ 0) } } }
                .stepDone (s.handleOf p) h.position (h.position + 1 : Fin 8))
              [p])) ∧
        (step.action = .next → s.pans[p].program[h.position.val + 1]? = none → exec .stepEnd s = .next (ends finished [p])) ∧
        (step.action = .hold →
          exec .stepEnd s = .next
            (ends
              (queueNotice { s with pans := s.pans.set p { s.pans[p] with heat := { h with timed := false } } }
                .stepDone (s.handleOf p) h.position h.position)
              [])) ∧
        (step.action = .off → exec .stepEnd s = .next (ends finished [p]))

/-! ### The Pan Tracker -/

/-- A becoming-SENSED whose coil still waits: with no neighbouring member and a FREE slot it founds a pan in the lowest one (R27, R28);
with one pan's members strictly the most it joins that pan (R30), if it has room; else, or with two or more sharing the highest count,
it stays as it is (R27), where the coil has no SENSED unowned neighbours. In general the coil and its waiting neighbours are examined
in turn until the queue is empty (R26). An examined coil with no neighbouring member and no FREE slot evicts the earliest LIFTED
record, retired with reason EVICTED (R29), or without one joins the orphan list, TABLE FULL opening an episode (R31); an orphan that
neighbours no member stays one, and one that does leaves the list (R32). The slot a pan is founded in is ready for it (`readySlot`): its
context IDLE and not listed, its store empty, its allocation 0 without a basis (R28, R51, R67, R72); where the retirement of the pan
before or the recompute on it still waits, they are taken first (log 55). In SUPPLY LOW no event of a coil reaches the Pan Tracker
(R23); it waits (log 52). -/
def Obligations.SensedCoilsFoundOrJoin : Prop :=
  (∀ s : State, Settled s → s.sup.hub = .supplyLow → exec .becameSensed s = .next s) ∧
  (∀ (s : State) (k : CoilId) (m : Material) (rest : List CoilEvent), Settled s → s.sup.hub ≠ .supplyLow → s.pt.examQueue = [] →
    s.posts.coilEvents = .becameSensed k m :: rest → (∀ j ∈ neighbours s k, waiting s j = false) →
    (waiting s k = false →
      exec .becameSensed s = .next { s with posts := { s.posts with coilEvents := rest } }) ∧
    (∀ p : PanSlot, waiting s k = true → (∀ q : PanSlot, neighbourCount s k q = 0) → k ∉ s.pt.orphans →
      s.pans[p].pres.presence = .free → (∀ q : PanSlot, q < p → s.pans[q].pres.presence ≠ .free) → SlotClear s p →
      exec .becameSensed s = .next
        { s with
          coils := s.coils.set k { s.coils[k] with occupancy := .member, owner := some p }
          pans := s.pans.set p
            { s.pans[p] with
              pres := { gen := s.pans[p].pres.gen + 1, presence := .forming, members := [k], x := s.ts.work.t1[k].x
                        y := s.ts.work.t1[k].y, area := s.coils[k].coverage, material := s.coils[k].material
                        settle := 0, changed := true, signature := none, liftedAt := none, grace := none } }
          posts := { s.posts with coilEvents := rest } }) ∧
    (∀ p : PanSlot, waiting s k = true → 0 < neighbourCount s k p →
      (∀ q : PanSlot, q ≠ p → neighbourCount s k q < neighbourCount s k p) →
      s.pans[p].pres.members.length < 12 →
      ∃ u, exec .becameSensed s = .next u ∧
        u = { s with
              coils := s.coils.set k { s.coils[k] with occupancy := .member, owner := some p }
              pans := s.pans.set p { s.pans[p] with pres := u.pans[p].pres }
              pt := { s.pt with orphans := s.pt.orphans.filter (· ≠ k) }
              posts := { s.posts with
                         coilEvents := rest, pans := u.posts.pans
                         triggers := s.posts.triggers ++
                           (if s.pans[p].pres.presence.standing then [.membership p] else [])
                         rebuilds := s.posts.rebuilds + (if s.pans[p].pres.presence.standing then 1 else 0) } } ∧
        u.pans[p].pres =
          { figured u p with
            gen := s.pans[p].pres.gen, members := insertCoil k s.pans[p].pres.members, settle := 0, changed := true
            presence := if s.pans[p].pres.presence = .placed then .moving else s.pans[p].pres.presence
            signature := s.pans[p].pres.signature, liftedAt := s.pans[p].pres.liftedAt, grace := s.pans[p].pres.grace }) ∧
    (∀ p : PanSlot, waiting s k = true → 0 < neighbourCount s k p →
      (∀ j : PanSlot, neighbourCount s k j ≤ neighbourCount s k p) →
      (∃ q : PanSlot, q ≠ p ∧ neighbourCount s k q = neighbourCount s k p) ∨ 12 ≤ s.pans[p].pres.members.length →
      exec .becameSensed s = .next
        { s with
          pt := { s.pt with orphans := s.pt.orphans.filter (· ≠ k) }
          posts := { s.posts with coilEvents := rest } })) ∧
  (∀ (s : State) (k : CoilId) (m : Material) (rest : List CoilEvent), Settled s → s.sup.hub ≠ .supplyLow →
    s.posts.coilEvents = .becameSensed k m :: rest →
    exec .becameSensed s = .next
      (emptyQueue
        { s with
          pt := { s.pt with examQueue := queued s.pt.examQueue (k :: waitingAround s k) }
          posts := { s.posts with coilEvents := rest } })) ∧
  (∀ s : State, s.pt.examQueue = [] → emptyQueue s = s) ∧
  (∀ (s : State) (k : CoilId) (rest : List CoilId), s.pt.examQueue = k :: rest → s.pt.examQueue.Nodup →
    emptyQueue s = emptyQueue (examine { s with pt := { s.pt with examQueue := rest } } k)) ∧
  ((∀ (s : State) (p : PanSlot), SlotClear (readySlot s p) p ∧ (SlotClear s p → readySlot s p = s)) ∧
    ∀ (s : State) (p : PanSlot),
      (.retirement p ∈ s.posts.pans → readySlot s p = readySlot (finishPans s) p) ∧
      (.retirement p ∉ s.posts.pans → (discarded s p).pans[p].alloc = .zero → readySlot s p = discarded s p) ∧
      (.retirement p ∉ s.posts.pans → (discarded s p).pans[p].alloc ≠ .zero → readySlot s p = recompute (discarded s p))) ∧
  ∀ (s : State) (k : CoilId),
    (waiting s k = false → examine s k = s) ∧
    (waiting s k = true → (∀ q : PanSlot, neighbourCount s k q = 0) →
      (k ∈ s.pt.orphans → examine s k = s) ∧
      (∀ p : PanSlot, k ∉ s.pt.orphans → s.pans[p].pres.presence = .free →
        (∀ q : PanSlot, q < p → s.pans[q].pres.presence ≠ .free) → examine s k = foundedIn (readySlot s p) k p) ∧
      (k ∉ s.pt.orphans → (∀ q : PanSlot, s.pans[q].pres.presence ≠ .free) →
        (∀ (p : PanSlot) (later : List PanSlot), s.pt.liftOrder = p :: later →
          examine s k = foundedIn (readySlot (retired s p .evicted) p) k p) ∧
        (s.pt.liftOrder = [] →
          examine s k =
            { if s.pt.orphans = [] then queueNotice s .tableFull (BitVec.ofNat 8 k.val) 0 0 else s with
              pt := { s.pt with orphans := insertCoil k s.pt.orphans } }))) ∧
    ∀ p : PanSlot, waiting s k = true → 0 < neighbourCount s k p →
      ((∀ q : PanSlot, q ≠ p → neighbourCount s k q < neighbourCount s k p) → s.pans[p].pres.members.length < 12 →
        examine s k = joinedTo s k p) ∧
      ((∀ j : PanSlot, neighbourCount s k j ≤ neighbourCount s k p) →
        (∃ q : PanSlot, q ≠ p ∧ neighbourCount s k q = neighbourCount s k p) ∨ 12 ≤ s.pans[p].pres.members.length →
        examine s k = { s with pt := { s.pt with orphans := s.pt.orphans.filter (· ≠ k) } })

/-- The release of a SENSED coil withdraws it (R34), and a material change recomputes its pan and posts a new material of a standing
one (R38). A member release waits until the Pan Tracker has taken the frame-ends and one-second events posted before it, and the other
coil-change events (R11, log 15). The coil becomes VACANT and unowned and leaves its pan's list, with a release notice if it was
firing. The last member of a FORMING pan frees the slot, and of a PLACED or MOVING pan lifts it: lifted-at, grace, the lift order, PAN
LIFTED, the posts of R44; a grace of 0 retires it at once. A pan that keeps members keeps the connected part with the most coverage
(R36) and sheds the others, SENSED and unowned, with its figures and settling begun anew, its posts and, standing, PAN SPLIT (R37). The
shed members are examined, then the waiting coils around the released coil, around the kept members and around the shed ones (log 23).
Where a slot became FREE the orphans are served once the examination queue is empty (R33; log 24). A coil that a split has unowned since is
released as a SENSED one if its coverage lies below RELEASE, and one not SENSED or MEMBER not at all (log 15). The coils examined may found
pans (FoundingsApart). In SUPPLY LOW none of these events reaches the Pan Tracker (R23); they wait (log 52). -/
def Obligations.ReleasesAreTaken : Prop :=
  (∀ s : State, Settled s → s.sup.hub = .supplyLow →
    exec .sensedReleased s = .next s ∧ exec .materialChanged s = .next s ∧ exec .memberRelease s = .next s) ∧
  ((∀ (s : State) (k : CoilId) (m : Material) (rest : List CoilEvent), Settled s → s.sup.hub ≠ .supplyLow → s.pt.examQueue = [] →
    s.posts.coilEvents = .released k m :: rest → (∀ j ∈ neighbours s k, waiting s j = false) →
    (s.coils[k].occupancy = .vacant ∨ s.coils[k].occupancy = .absent →
      exec .sensedReleased s = .next
        { s with
          pt := { s.pt with orphans := s.pt.orphans.filter (· ≠ k) }
          posts := { s.posts with coilEvents := rest } }) ∧
    (s.coils[k].occupancy = .sensed ∨ s.coils[k].occupancy = .member →
      exec .sensedReleased s = .next { s with posts := { s.posts with coilEvents := rest } })) ∧
    ∀ (s : State) (k : CoilId) (p : PanSlot) (m : Material) (rest : List CoilEvent), Settled s → s.sup.hub ≠ .supplyLow →
      s.posts.coilEvents = .materialChanged k (some p) m :: rest →
      (s.pans[p].pres.members = [] →
        exec .materialChanged s = .next { s with posts := { s.posts with coilEvents := rest } }) ∧
      (s.pans[p].pres.members ≠ [] →
        exec .materialChanged s = .next
          { s with
            pans := s.pans.set p { s.pans[p] with pres := figured s p }
            posts := { s.posts with
                       coilEvents := rest
                       pans := s.posts.pans ++
                         (if s.pans[p].pres.presence.standing ∧ s.pans[p].pres.material ≠ (figured s p).material then
                            [.material p (figured s p).material] else []) } })) ∧
  (∀ (s : State) (k : CoilId) (p : PanSlot) (former : Option PanSlot) (m : Material) (firing : Bool) (rest : List CoilEvent),
    Settled s → s.sup.hub ≠ .supplyLow → s.posts.coilEvents = .memberRelease k former m firing 0 0 :: rest →
    s.coils[k].occupancy = .member → s.coils[k].owner = some p →
    let released : Vector CoilRecord 64 :=
      s.coils.set k { s.coils[k] with occupancy := .vacant, confirm := 0, owner := none }
    let notices : List CoilId := s.posts.releases ++ (if firing then [k] else [])
    (∃ u, exec .memberRelease s = .next u ∧
      u = { s with
            coils := u.coils, pans := u.pans, pt := u.pt, hs := u.hs, ba := u.ba
            posts := { s.posts with
                       coilEvents := rest, releases := notices, pans := u.posts.pans, triggers := u.posts.triggers
                       rebuilds := u.posts.rebuilds }
            cp := { s.cp with notices := u.cp.notices, gap := u.cp.gap } } ∧
      u.coils[k] = { s.coils[k] with occupancy := .vacant, confirm := 0, owner := none } ∧ k ∉ u.pans[p].pres.members ∧
      FoundingsApart s u) ∧
    (s.pans[p].pres.members = [k] → s.pt.examQueue = [] → s.pt.orphans = [] → (∀ j : CoilId, waiting s j = false) →
      (s.pans[p].pres.presence = .forming →
        exec .memberRelease s = .next
          { s with
            coils := released
            pans := s.pans.set p { s.pans[p] with pres := .freed s.pans[p].pres.gen }
            posts := { s.posts with coilEvents := rest, releases := notices } }) ∧
      (s.pans[p].pres.presence = .placed ∨ s.pans[p].pres.presence = .moving → 0 < s.ts.work.grace →
        exec .memberRelease s = .next
          { queueNotice s .panLifted (s.handleOf p) s.ts.work.grace 0 with
            coils := released
            pans := s.pans.set p
              { s.pans[p] with
                pres := { s.pans[p].pres with
                          members := [], presence := .lifted, liftedAt := some s.fe.seconds
                          grace := some s.ts.work.grace } }
            pt := { s.pt with liftOrder := s.pt.liftOrder ++ [p] }
            posts := { s.posts with
                       coilEvents := rest, releases := notices, pans := s.posts.pans ++ [.lift p]
                       triggers := s.posts.triggers ++ [.membership p], rebuilds := s.posts.rebuilds + 1 } }))) ∧
  (∀ (s : State) (k : CoilId) (m : Material) (rest : List CoilEvent), Settled s → s.sup.hub ≠ .supplyLow →
    s.posts.coilEvents = .released k m :: rest →
    let gone : Prop := s.coils[k].occupancy = .vacant ∨ s.coils[k].occupancy = .absent
    let taken (orphans queue : List CoilId) : State :=
      emptyQueue
        { s with
          pt := { s.pt with orphans := orphans, examQueue := queued queue (waitingAround s k) }
          posts := { s.posts with coilEvents := rest } }
    (gone → exec .sensedReleased s = .next (taken (s.pt.orphans.filter (· ≠ k)) (s.pt.examQueue.filter (· ≠ k)))) ∧
    (¬ gone → exec .sensedReleased s = .next (taken s.pt.orphans s.pt.examQueue))) ∧
  (∀ (s : State) (k : CoilId) (former : Option PanSlot) (m : Material) (firing : Bool) (frames seconds : Nat)
      (rest : List CoilEvent), Settled s → s.posts.coilEvents = .memberRelease k former m firing frames seconds :: rest →
    0 < frames ∨ 0 < seconds → exec .memberRelease s = .next s) ∧
  ∀ (s : State) (k : CoilId) (former : Option PanSlot) (m : Material) (firing : Bool) (rest : List CoilEvent),
    Settled s → s.sup.hub ≠ .supplyLow → s.posts.coilEvents = .memberRelease k former m firing 0 0 :: rest →
    let popped : State := { s with posts := { s.posts with coilEvents := rest } }
    let told (v : State) : State :=
      { v with posts := { v.posts with releases := v.posts.releases ++ (if firing then [k] else []) } }
    let around (v : State) : State := { v with pt := { v.pt with examQueue := queued v.pt.examQueue (waitingAround v k) } }
    (∀ p : PanSlot, s.coils[k].occupancy = .member → s.coils[k].owner = some p →
      let d : State := memberGone popped k p
      let presence := s.pans[p].pres.presence
      (d.pans[p].pres.members = [] →
        (presence = .forming →
          exec .memberRelease s = .next
            (told (serveOrphans (emptyQueue (around
              { d with pans := d.pans.set p { d.pans[p] with pres := .freed s.pans[p].pres.gen } }))))) ∧
        (presence = .placed ∨ presence = .moving → 0 < s.ts.work.grace →
          exec .memberRelease s = .next (told (emptyQueue (around (liftedUp d p))))) ∧
        (presence = .placed ∨ presence = .moving → s.ts.work.grace = 0 →
          exec .memberRelease s = .next (told (serveOrphans (emptyQueue (around (retired (liftedUp d p) p .grace))))))) ∧
      ∀ kept : List CoilId, d.pans[p].pres.members ≠ [] → d.pans[p].pres.members.Pairwise (· < ·) →
        d.pans[p].pres.members.length ≤ 12 → KeptPart d d.pans[p].pres.members kept →
        exec .memberRelease s = .next (told (emptyQueue (splitInto d k p kept)))) ∧
    (s.coils[k].occupancy = .sensed → (classEntry s k).release ≤ s.coils[k].coverage →
      exec .memberRelease s = .next popped) ∧
    (s.coils[k].occupancy = .sensed → s.coils[k].coverage < (classEntry s k).release →
      exec .memberRelease s = .next
        (told
          { s with
            coils := s.coils.set k { s.coils[k] with occupancy := .vacant, confirm := 0, owner := none }
            posts := { s.posts with coilEvents := rest ++ [.released k m] } })) ∧
    (s.coils[k].occupancy = .vacant ∨ s.coils[k].occupancy = .absent → exec .memberRelease s = .next popped)

/-- A frame-end recomputes every pan's figures: the area is the sum of the members' coverage, the centroid their coverage-weighted mean,
or where the area is 0 their mean, rounded down, and the material the one that most members show, and of equals the first of UNSUITABLE,
LAYERED, FERRITIC, NONE (R24). At one at which one pan at most is FORMING or MOVING that pan's changed mark is cleared, or its settle
count rises; at settle frames a MOVING pan is PLACED with PAN MOVED, and a FORMING pan with PAN PLACED, or as the return of the one LIFTED
record that matches it (R40 to R43, R47, R48). In general the pans are taken in ascending order, each on the state the one before left
(log 37); a settling FORMING pan that no LIFTED record matches is PLACED, and with several matches the latest in the lift order takes it
up (R48), the coils waiting around examined and, the examination queue emptied, the orphans served (log 24). A member release that waits
has one frame-end less before it (R11, log 15). The coils examined may found pans (FoundingsApart). In SUPPLY LOW no frame-end reaches the
Pan Tracker (R23); it waits (log 52). -/
def Obligations.PansSettleAtFrameEnds : Prop :=
  (∀ (s : State) (ms : List CoilId), ms ≠ [] →
    let area : Nat := (ms.map fun k => s.coils[k].coverage).sum
    let mean (coordinate : T1Entry → Nat) : Nat :=
      if area = 0 then (ms.map fun k => coordinate s.ts.work.t1[k]).sum / ms.length
      else (ms.map fun k => s.coils[k].coverage * coordinate s.ts.work.t1[k]).sum / area
    let held (m : Material) : Nat := ms.countP fun k => decide (s.coils[k].material = m)
    let place (m : Material) : Nat := [Material.unsuitable, .layered, .ferritic, .none].idxOf m
    areaOf s ms = area ∧ centroidOf s ms (·.x) = mean (·.x) ∧ centroidOf s ms (·.y) = mean (·.y) ∧
      ∀ m : Material, (∀ n : Material, held n ≤ held m) → (∀ n : Material, held n = held m → place m ≤ place n) →
        materialOfPan s ms = m) ∧
  ((∀ s : State, Settled s → s.posts.ptFrameEnds = [] ∨ s.sup.hub = .supplyLow → exec .panTrackerFrameEnd s = .next s) ∧
    (∀ (s : State) (frame : BitVec 16) (rest : List (BitVec 16)), Settled s → s.sup.hub ≠ .supplyLow →
      s.posts.ptFrameEnds = frame :: rest → (∀ q : PanSlot, unsettled s.pans[q].pres = false) →
      exec .panTrackerFrameEnd s = .next
        { s with
          pans := Vector.ofFn fun q => { s.pans[q] with pres := figured s q }
          posts := { s.posts with
                     ptFrameEnds := rest, coilEvents := frameTaken s.posts.coilEvents
                     pans := s.posts.pans ++
                       (allPans.filter fun q =>
                         s.pans[q].pres.presence.standing && s.pans[q].pres.material != (figured s q).material).map fun q =>
                           .material q (figured s q).material } }) ∧
    ∀ (s : State) (frame : BitVec 16) (rest : List (BitVec 16)) (p : PanSlot), Settled s → s.sup.hub ≠ .supplyLow →
      s.posts.ptFrameEnds = frame :: rest → (∀ q : PanSlot, q ≠ p → unsettled s.pans[q].pres = false) →
      unsettled s.pans[p].pres = true →
      let g : PresencePart := figured s p
      let signature : Signature := ⟨g.x, g.y, g.area, g.material⟩
      let news : List PanPost :=
        (allPans.filter fun q =>
          s.pans[q].pres.presence.standing && s.pans[q].pres.material != (figured s q).material).map fun q =>
            .material q (figured s q).material
      let notice (kind : NoticeKind) (q : PanSlot) : ControllerPort :=
        (queueNotice s kind (s.handleOf q) (orient s.ts.work g.x g.y).1 (orient s.ts.work g.x g.y).2).cp
      ∃ u, exec .panTrackerFrameEnd s = .next u ∧
        u = { s with
              coils := u.coils, pans := u.pans, pt := u.pt, hs := u.hs, ba := u.ba
              cp := { s.cp with notices := u.cp.notices, gap := u.cp.gap }
              posts := { s.posts with
                         ptFrameEnds := rest, coilEvents := frameTaken s.posts.coilEvents, pans := u.posts.pans, triggers := u.posts.triggers
                         rebuilds := u.posts.rebuilds } } ∧
        FoundingsApart s u ∧
        (g.changed = true →
          u.pans = Vector.ofFn (fun q =>
            if q = p then { s.pans[q] with pres := { g with changed := false } }
            else { s.pans[q] with pres := figured s q }) ∧
          u.coils = s.coils ∧ u.pt = s.pt ∧ u.cp = s.cp ∧ u.posts.pans = s.posts.pans ++ news ∧
          u.posts.triggers = s.posts.triggers ∧ u.posts.rebuilds = s.posts.rebuilds) ∧
        (g.changed = false → g.settle + 1 < s.ts.work.settleFrames →
          u.pans = Vector.ofFn (fun q =>
            if q = p then { s.pans[q] with pres := { g with settle := g.settle + 1 } }
            else { s.pans[q] with pres := figured s q }) ∧
          u.coils = s.coils ∧ u.pt = s.pt ∧ u.cp = s.cp ∧ u.posts.pans = s.posts.pans ++ news ∧
          u.posts.triggers = s.posts.triggers ∧ u.posts.rebuilds = s.posts.rebuilds) ∧
        (g.changed = false → s.ts.work.settleFrames ≤ g.settle + 1 → g.presence = .moving ∨ s.pt.liftOrder = [] →
          u.pans = Vector.ofFn (fun q =>
            if q = p then
              { s.pans[q] with
                pres := { g with settle := g.settle + 1, presence := .placed, signature := some signature } }
            else { s.pans[q] with pres := figured s q }) ∧
          u.coils = s.coils ∧ u.pt = s.pt ∧ u.posts.pans = s.posts.pans ++ news ∧
          (g.presence = .moving →
            u.cp = notice .panMoved p ∧ u.posts.triggers = s.posts.triggers ∧ u.posts.rebuilds = s.posts.rebuilds) ∧
          (g.presence = .forming →
            u.cp = notice .panPlaced p ∧ u.posts.triggers = s.posts.triggers ++ [.membership p] ∧
              u.posts.rebuilds = s.posts.rebuilds + 1)) ∧
        ∀ (w : PanSlot) (old : Signature), g.changed = false → s.ts.work.settleFrames ≤ g.settle + 1 → g.presence = .forming →
          s.pt.liftOrder = [w] → s.pans[w].pres.members = [] → s.pans[w].pres.presence = .lifted →
          s.pans[w].pres.signature = some old → old.material = g.material →
          100 * (max old.area g.area - min old.area g.area) ≤ s.ts.work.areaTolerance * old.area →
          max (max old.x g.x - min old.x g.x) (max old.y g.y - min old.y g.y) ≤ s.ts.work.returnRadius →
          s.pt.examQueue = [] → s.pt.orphans = [] → (∀ j : CoilId, waiting s j = false) →
          (∀ j ∈ g.members, s.coils[j].occupancy = .member) →
          u.pans = Vector.ofFn (fun q =>
            if q = w then
              { s.pans[q] with
                pres := { s.pans[w].pres with
                          presence := .placed, members := g.members, settle := g.settle + 1, changed := false, x := g.x
                          y := g.y, area := g.area, material := g.material, signature := some signature
                          liftedAt := none, grace := none } }
            else if q = p then { s.pans[q] with pres := .freed g.gen }
            else { s.pans[q] with pres := figured s q }) ∧
          (∀ j : CoilId, u.coils[j] = if j ∈ g.members then { s.coils[j] with owner := some w } else s.coils[j]) ∧
          u.pt = { s.pt with liftOrder := [] } ∧ u.cp = notice .panReturned w ∧
          u.posts.triggers = s.posts.triggers ++ [.membership w] ∧ u.posts.rebuilds = s.posts.rebuilds + 1 ∧
          u.posts.pans = s.posts.pans ++ news ++ [.back w]) ∧
  (∀ (s : State) (frame : BitVec 16) (rest : List (BitVec 16)), Settled s → s.sup.hub ≠ .supplyLow →
    s.posts.ptFrameEnds = frame :: rest →
    exec .panTrackerFrameEnd s = .next
      (allPans.foldl settleCount
        { s with
          pans := Vector.ofFn fun q => { s.pans[q] with pres := figured s q }
          posts := { s.posts with
                     ptFrameEnds := rest, coilEvents := frameTaken s.posts.coilEvents
                     pans := s.posts.pans ++ allPans.flatMap fun q => materialPost s q (figured s q).material } })) ∧
  ∀ (s : State) (p : PanSlot),
    let r := s.pans[p].pres
    let t : State := { s with pans := s.pans.set p { s.pans[p] with pres := { r with settle := r.settle + 1 } } }
    (r.presence ≠ .forming → r.presence ≠ .moving → settleCount s p = s) ∧
    (r.presence = .forming ∨ r.presence = .moving →
      (r.changed = true →
        settleCount s p = { s with pans := s.pans.set p { s.pans[p] with pres := { r with changed := false } } }) ∧
      (r.changed = false → r.settle + 1 < s.ts.work.settleFrames → settleCount s p = t)) ∧
    (r.changed = false → s.ts.work.settleFrames ≤ r.settle + 1 →
      (r.presence = .moving → settleCount s p = { t with pans := placedNow t p, cp := centroidTold t .panMoved p }) ∧
      (r.presence = .forming → (∀ w ∈ s.pt.liftOrder, ¬ Matches t w p) →
        settleCount s p =
          { t with
            pans := placedNow t p
            cp := centroidTold t .panPlaced p
            posts := { s.posts with
                       triggers := s.posts.triggers ++ [.membership p], rebuilds := s.posts.rebuilds + 1 } }) ∧
      ∀ (earlier later : List PanSlot) (w : PanSlot), r.presence = .forming → s.pt.liftOrder = earlier ++ w :: later → w ≠ p →
        Matches t w p → (∀ v ∈ later, ¬ Matches t v p) →
        settleCount s p = serveOrphans (emptyQueue (returnedTo t w p)))

/-- A one-second event takes one second of grace from each LIFTED record (R45), those that reach 0 being its tail (log 3). A record so
retired is FREE with its generation, out of the lift order, with PAN RETIRED and the retirement posted (R46); with orphans waiting
its slot is then served: while an orphan waits and a slot is FREE, the lowest orphan leaves the list and is examined, and the
examination queue emptied (R33). -/
def Obligations.GraceRunsOut : Prop :=
  ((∀ s : State, Settled s → s.posts.ptSeconds = 0 → exec .panTrackerOneSecond s = .next s) ∧
    (∀ s : State, Settled s → 0 < s.posts.ptSeconds →
      let left (p : PanSlot) : Option Nat :=
        if s.pans[p].pres.presence = .lifted then s.pans[p].pres.grace.map (· - 1) else s.pans[p].pres.grace
      exec .panTrackerOneSecond s = .next
        { s with
          pans := Vector.ofFn fun p => { s.pans[p] with pres := { s.pans[p].pres with grace := left p } }
          pt := { s.pt with
                  graceDue := allPans.filter fun p => decide (s.pans[p].pres.presence = .lifted ∧ left p = some 0) }
          posts := { s.posts with ptSeconds := s.posts.ptSeconds - 1, coilEvents := secondTaken s.posts.coilEvents } }) ∧
    (∀ s : State, s.sup.level ≠ .belowDig → s.pt.graceDue = [] → exec .graceExpiry s = .next s) ∧
    ∀ (s : State) (p : PanSlot) (rest : List PanSlot), s.sup.level ≠ .belowDig → s.pt.graceDue = p :: rest →
      s.pans[p].pres.presence = .lifted → s.pans[p].pres.grace = some 0 → s.pt.orphans = [] →
      exec .graceExpiry s = .next
        { queueNotice s .panRetired (s.handleOf p) 0 0 with
          pans := s.pans.set p { s.pans[p] with pres := .freed s.pans[p].pres.gen }
          pt := { s.pt with graceDue := rest, liftOrder := s.pt.liftOrder.filter (· ≠ p) }
          posts := { s.posts with pans := s.posts.pans ++ [.retirement p] } }) ∧
  (∀ (s : State) (p : PanSlot) (rest : List PanSlot), s.sup.level ≠ .belowDig → s.pt.graceDue = p :: rest →
    (s.pans[p].pres.presence = .lifted ∧ s.pans[p].pres.grace = some 0 →
      exec .graceExpiry s = .next (serveOrphans (retired { s with pt := { s.pt with graceDue := rest } } p .grace))) ∧
    (¬ (s.pans[p].pres.presence = .lifted ∧ s.pans[p].pres.grace = some 0) →
      exec .graceExpiry s = .next { s with pt := { s.pt with graceDue := rest } })) ∧
  (∀ s : State, s.pt.orphans = [] ∨ (∀ p : PanSlot, s.pans[p].pres.presence ≠ .free) → serveOrphans s = s) ∧
  ∀ (s : State) (k : CoilId) (rest : List CoilId) (p : PanSlot), s.pt.examQueue = [] → s.pt.orphans = k :: rest →
    s.pans[p].pres.presence = .free →
    serveOrphans s =
      serveOrphans (emptyQueue (examine { s with pt := { s.pt with orphans := s.pt.orphans.filter (· ≠ k) } } k))

/-! ### The Budget Allocator -/

/-- A recompute completes, whatever heads the triggers. It writes every allocation part: capacity and demand (R75, R76; a coil of a class
above 2: log 11), the grant down the request order list (R77), the effective level (R79), zeros for a pan that does not heat. Each listed
pan, head first, is granted the least of its demand, what the pans before it left of the hob limit, and for each phase it draws on what
they left of the phase limit, scaled by K / Kj. The allocations sum to at most the hob limit, and their phase shares to at most the
phase limits (R78). LEVEL CHANGED is queued, in list order, for each pan whose pair differs from its basis where one of the two shows
a shortfall (R80). One rebuild is requested exactly when an allocation, the order, an eligible set, a coil limit or a limit is not
what the recompute before left (R81). It touches nothing else. The list holds the heating pans once each, as it does in every state a
run reaches (RequestsHeatInEveryStep). `recompute` names what the recompute does to the state, for the statements of the events that make it
at once. -/
def Obligations.RecomputeGrantsWithinLimits : Prop :=
  ((∀ s : State, Settled s → s.posts.triggers = [] → exec .recompute s = .next s) ∧
    (∀ (s : State) (e : Trigger) (rest : List Trigger), Settled s → s.posts.triggers = e :: rest →
      exec .recompute s = .next (recompute { s with posts := { s.posts with triggers := rest } })) ∧
    ∀ (s : State) (e : Trigger) (rest : List Trigger), Settled s → s.posts.triggers = e :: rest → RequestsHeat s →
      ∃ u, exec .recompute s = .next u ∧
        u = { s with
              pans := u.pans, ba := { s.ba with figures := u.ba.figures }
              posts := { s.posts with triggers := rest, rebuilds := u.posts.rebuilds }
              cp := { s.cp with notices := u.cp.notices, gap := u.cp.gap } } ∧
        (∀ p : PanSlot, u.pans[p] = { s.pans[p] with alloc := u.pans[p].alloc }) ∧
        (∀ p : PanSlot, s.pans[p].heat.state.heating = false → u.pans[p].alloc = ⟨0, 0, 0, 0, 0, 0, none⟩) ∧
        (∀ p : PanSlot, s.pans[p].heat.state.heating = true →
          let a := u.pans[p].alloc
          let limits (ph : Phase) : Nat :=
            ((s.pans[p].pres.members.filter fun k =>
              eligible s k && s.ts.work.phaseOf (coilBoard k) == ph).map fun k => coilLimit s k).sum
          a.k1 = limits .l1 ∧ a.k2 = limits .l2 ∧ a.k = a.k1 + a.k2 ∧
            a.d = min s.ts.work.t4[s.pans[p].heat.level].target a.k ∧ a.g ≤ a.d ∧
            a.effective ≤ s.pans[p].heat.level ∧
            (a.effective = 0 ∨ s.ts.work.t4[a.effective].target ≤ a.g) ∧
            (∀ l : Level, l ≤ s.pans[p].heat.level → s.ts.work.t4[l].target ≤ a.g → l ≤ a.effective) ∧
            a.basis = some (s.pans[p].heat.level, a.effective)) ∧
        (s.hs.requests.map fun p => u.pans[p].alloc.g).sum ≤ s.ts.work.hobLimit ∧
        (s.hs.requests.map fun p => u.pans[p].alloc.g * u.pans[p].alloc.k1 / u.pans[p].alloc.k).sum ≤
          s.ts.work.phaseLimit .l1 ∧
        (s.hs.requests.map fun p => u.pans[p].alloc.g * u.pans[p].alloc.k2 / u.pans[p].alloc.k).sum ≤
          s.ts.work.phaseLimit .l2 ∧
        (u.posts.rebuilds = s.posts.rebuilds ∨ u.posts.rebuilds = s.posts.rebuilds + 1) ∧
        (∀ (before later : List PanSlot) (p : PanSlot), s.hs.requests = before ++ p :: later →
          let a (q : PanSlot) : AllocPart := u.pans[q].alloc
          let m1 : Nat := s.ts.work.phaseLimit .l1 - (before.map fun q => (a q).g * (a q).k1 / (a q).k).sum
          let m2 : Nat := s.ts.work.phaseLimit .l2 - (before.map fun q => (a q).g * (a q).k2 / (a q).k).sum
          let mh : Nat := s.ts.work.hobLimit - (before.map fun q => (a q).g).sum
          (a p).g =
            min (min (a p).d mh)
              (min (if (a p).k1 = 0 then (a p).d else m1 * (a p).k / (a p).k1)
                (if (a p).k2 = 0 then (a p).d else m2 * (a p).k / (a p).k2))) ∧
        u.ba.figures =
          { order := s.hs.requests
            eligible := Vector.ofFn fun p =>
              if p ∈ s.hs.requests then
                (s.pans[p].pres.members.filter fun k => eligible s k).map fun k => (k, coilLimit s k) else []
            limit1 := s.ts.work.phaseLimit .l1, limit2 := s.ts.work.phaseLimit .l2, limitHob := s.ts.work.hobLimit } ∧
        u.cp =
          (s.hs.requests.foldl
            (fun v p =>
              let pair : Level × Level := (s.pans[p].heat.level, u.pans[p].alloc.effective)
              let basis : Level × Level := s.pans[p].alloc.basis.getD (pair.1, pair.1)
              if basis ≠ pair ∧ (basis.2 < basis.1 ∨ pair.2 < pair.1) then
                queueNotice v .levelChanged (s.handleOf p) pair.1.val pair.2.val else v)
            s).cp ∧
        u.posts.rebuilds = s.posts.rebuilds +
          (if u.ba.figures = s.ba.figures ∧ (∀ p : PanSlot, u.pans[p].alloc.g = s.pans[p].alloc.g) then 0 else 1) ∧
        (u.posts.rebuilds = s.posts.rebuilds → u.ba.figures = s.ba.figures ∧
          ∀ p : PanSlot, u.pans[p].alloc.g = s.pans[p].alloc.g)) ∧
  ∀ (s : State) (k : CoilId) (c : Fin 3), c.val = s.ts.work.t1[k].cls.val →
    let b := coilBoard k
    (eligible s k = true ↔
      s.coils[k].occupancy = .member ∧ s.coils[k].hot = false ∧ s.coils[k].disabled = false ∧ s.coils[k].unobserved = false ∧
        s.ts.work.t3[c].fire ≤ s.coils[k].coverage ∧ s.pu.legs[coilLeg k].state = .ready ∧ s.boards[b].state = .online) ∧
    coilLimit s k = s.ts.work.t3[c].rated * s.ba.derating[b].manual.getD s.ts.work.t5[s.ba.derating[b].bucket] / 128

/-! ### The Slot Scheduler -/

/-- A rebuild request, the Frame Engine's own at the head of its channel or another sender's, row by row of R92; the Frame Engine's own,
in RUNNING, is taken after its posts to the Heat Sequencer that still wait (R104; log 49). A build begins with the snapshot of R93, whose
list, eligible members, coil limits and limits are those of the last recompute. The end of GATHER empties the standby bank and begins
PLACE with the cursors of the first pan (log 33). The discard empties both banks and the schedule parts, voids the offers and swap notices
that wait (R101; log 40) and leaves the Slot Scheduler idle, in any stage. -/
def Obligations.BuildsBeginAndAreDiscarded : Prop :=
  ((∀ (s v : State), Settled s →
    (∃ rest : List SchedulerPost, s.posts.scheduler = .rebuild :: rest ∧
        v = (if s.fe.hob = .running then finishHob { s with posts := { s.posts with scheduler := rest } }
          else { s with posts := { s.posts with scheduler := rest } })) ∨
      (s.posts.scheduler.head? ≠ some .rebuild ∧ 0 < s.posts.rebuilds ∧
        v = { s with posts := { s.posts with rebuilds := s.posts.rebuilds - 1 } }) →
    (s.fe.hob ≠ .running → exec .rebuildRequest s = .next v) ∧
    (s.fe.hob = .running → s.ss.stage = .idle →
      exec .rebuildRequest s = .next { v with ss := gathering v s.ss }) ∧
    (s.fe.hob = .running → s.ss.stage ≠ .idle →
      exec .rebuildRequest s = .next { v with ss := { s.ss with rerun := true } })) ∧
    (∀ s : State, s.posts.hob = [] → finishHob s = s) ∧
    (∀ (i : Instr) (s u : State), Settled s →
      (i = .heatHobHalt ∧ s.posts.hob.head? = some .halt) ∨ (i = .heatStopHob ∧ s.posts.hob.head? = some .stop) ∨
        (i = .heatStartHob ∧ s.posts.hob.head? = some .start) →
      exec i s = .next u → finishHob s = finishHob u) ∧
    (∀ s : State,
      let g : Figures := s.ba.figures
      snapshotOf s =
        { f := s.fe.f
          pans := g.order.map fun p =>
            { pan := p, g := s.pans[p].alloc.g, eligible := g.eligible[p]
              floor := s.ts.work.t4[s.pans[p].heat.level].floor, ceiling := s.ts.work.t4[s.pans[p].heat.level].ceiling }
          limit1 := g.limit1, limit2 := g.limit2, limitHob := g.limitHob
          phases := Vector.ofFn fun b : BoardId => s.ts.work.t0[b].phase
          neighbours := g.order.flatMap fun p => g.eligible[p].map fun e => (e.1, s.ts.work.t2[e.1]) }) ∧
    (∀ s : State, Settled s → s.posts.scheduler.head? ≠ some .rebuild → s.posts.rebuilds = 0 →
      exec .rebuildRequest s = .next s) ∧
    (∀ (s : State) (n : Snapshot), Settled s → s.ss.stage = .gather → s.ss.snapshot = some n →
      exec .snapshotComplete s = .next
        { s with
          ss := { standbySet s (List.replicate n.f []) with
                  stage := .place
                  cursors := some (match n.pans with
                    | [] => []
                    | p :: _ => (List.range p.eligible.length).map fun m => (p.pan.val * 3 + m) % n.f) } }) ∧
    ∀ s : State, Settled s → s.ss.stage ≠ .gather → exec .snapshotComplete s = .next s) ∧
  ((∀ s : State, Settled s → s.posts.scheduler.head? ≠ some .discard → exec .discard s = .next s) ∧
    ∀ (s : State) (rest : List SchedulerPost), Settled s → s.posts.scheduler = .discard :: rest →
      exec .discard s = .next (discardTaken s rest))

/-- PLACE fills the standby bank: whatever the snapshot, every slot of the bank built has at most one firing per leg and per coil, no
firings of different pans on coils that neighbour one another in it, and setpoints within its phase limits and its hob limit
(R96); a pan's placed and dropped firings make up its firing count (R94, R97). The pans are taken head first. The setpoint of a pan is
its share, raised to the floor, lowered to the ceiling and to the smallest coil limit and rounded down to 10 W, and its firing count
follows (R94). Its firings are dealt round-robin to its members, the cursor of member m starting at slot (pan × 3 + m) mod F (R95). Each
goes to the end of the first slot from the member's cursor on, with the wrap, that passes the five tests of R96, the cursor moving past
it, or is dropped where none does, the cursor staying. When the sub-steps of PLACE are seen is log 33. -/
def Obligations.PlacedBanksPassTheirTests : Prop :=
  ((∀ (s : State) (n : Snapshot), Settled s → s.ss.stage = .place → s.ss.snapshot = some n →
    exec .placeComplete s = .next
      { s with
        ss := { standbySet s (placeAll n (List.replicate n.f [], []) n.pans).1 with
                stage := .check, cursors := none, results := some (placeAll n (List.replicate n.f [], []) n.pans).2 } }) ∧
    (∀ s : State, Settled s → s.ss.stage ≠ .place → exec .placeComplete s = .next s) ∧
    ∀ n : Snapshot,
      (placeAll n (List.replicate n.f [], []) n.pans).1.length = n.f ∧
      (∀ slot ∈ (placeAll n (List.replicate n.f [], []) n.pans).1,
        slot.Pairwise (fun x y => coilLeg x.coil ≠ coilLeg y.coil ∧ x.coil ≠ y.coil ∧
          (x.pan = y.pan ∨ snapAdjacent n x.coil y.coil = false)) ∧
        (∀ ph : Phase, setpoints (slot.filter fun x => n.phases[coilBoard x.coil] == ph) ≤ n.limit ph) ∧
        setpoints slot ≤ n.limitHob) ∧
      ((placeAll n (List.replicate n.f [], []) n.pans).2.map fun r => (r.pan, r.setpoint, r.placed + r.dropped)) =
        n.pans.map fun p => (p.pan, setpointOf p, firingCount n.f p)) ∧
  (∀ (n : Snapshot) (bank : Bank) (rs : List BuildResult) (p : SnapPan) (rest : List SnapPan),
    let d := dealPan n bank p
    placeAll n (bank, rs) [] = (bank, rs) ∧
      placeAll n (bank, rs) (p :: rest) =
        placeAll n (d.bank, rs ++ [⟨p.pan, setpointOf p, d.placed, firingCount n.f p - d.placed⟩]) rest ∧
      d = (List.range (firingCount n.f p)).foldl (dealOne n p)
        ⟨bank, (List.range p.eligible.length).map fun m => (p.pan.val * 3 + m) % n.f, 0⟩) ∧
  (∀ (f : Nat) (p : SnapPan),
    let share : Nat := min (max (p.g / p.eligible.length) p.floor) p.ceiling
    (∀ low : Nat, (low = share ∨ low ∈ p.eligible.map (·.2)) → low ≤ share → (∀ e ∈ p.eligible, low ≤ e.2) →
      setpointOf p = low / 10 * 10) ∧
    (p.g = 0 ∨ p.eligible = [] ∨ setpointOf p = 0 → firingCount f p = 0) ∧
    (p.g ≠ 0 → p.eligible ≠ [] → setpointOf p ≠ 0 →
      firingCount f p = min (p.g * f / setpointOf p) (f * p.eligible.length))) ∧
  ∀ (n : Snapshot) (p : SnapPan) (d : Dealing) (turn : Nat) (k : CoilId) (limit : Nat),
    let m : Nat := turn % p.eligible.length
    let sp : Nat := setpointOf p
    let place (i : Nat) : Nat := (d.cursors.getD m 0 + i) % n.f
    let slot (i : Nat) : List Firing := d.bank.getD (place i) []
    let passes (i : Nat) : Prop :=
      (∀ x ∈ slot i, coilLeg x.coil ≠ coilLeg k ∧ x.coil ≠ k ∧
        (x.pan = p.pan ∨
          ∀ e ∈ n.neighbours, ¬ (e.1 = x.coil ∧ k ∈ e.2) ∧ ¬ (e.1 = k ∧ x.coil ∈ e.2))) ∧
        (((slot i).filter fun x => decide (n.phases[coilBoard x.coil] = n.phases[coilBoard k])).map (·.setpoint)).sum + sp ≤
          (match n.phases[coilBoard k] with
            | .l1 => n.limit1
            | .l2 => n.limit2) ∧
        ((slot i).map (·.setpoint)).sum + sp ≤ n.limitHob
    p.eligible[m]? = some (k, limit) →
    (∀ i : Nat, i < n.f → passes i → (∀ j : Nat, j < i → ¬ passes j) →
      dealOne n p d turn =
        { bank := d.bank.set (place i) (slot i ++ [⟨k, p.pan, sp⟩])
          cursors := d.cursors.set m ((place i + 1) % n.f), placed := d.placed + 1 }) ∧
    ((∀ i : Nat, i < n.f → ¬ passes i) → dealOne n p d turn = d)

/-- The end of CHECK, row by row of R99, and the offer of R100; CHECK passes exactly when every slot of the standby bank passes the tests
of R98. While a discard waits the build is thrown away and not offered, START HOB taken meanwhile or not (R103, R104; log 40). -/
def Obligations.CheckDecidesTheBuild : Prop :=
  (∀ s : State, bankChecks s = true ↔
    ∀ slot ∈ bankOf s (standbyId s),
      slot.Pairwise (fun x y => coilLeg x.coil ≠ coilLeg y.coil ∧ x.coil ≠ y.coil ∧
        (x.pan = y.pan ∨ adjacent s x.coil y.coil = false)) ∧
      (∀ ph : Phase, setpoints (slot.filter fun x => s.ts.work.phaseOf (coilBoard x.coil) == ph) ≤ s.ts.work.phaseLimit ph) ∧
      setpoints slot ≤ s.ts.work.hobLimit) ∧
    ∀ s : State, Settled s →
      let thrown : Scheduler :=
        { standbySet s (List.replicate s.fe.f []) with snapshot := none, cursors := none, results := none }
      (s.ss.stage ≠ .check → exec .endOfCheck s = .next s) ∧
      (s.ss.stage = .check → s.fe.hob ≠ .running ∨ .discard ∈ s.posts.scheduler →
        exec .endOfCheck s = .next { s with ss := { thrown with stage := .idle } }) ∧
      (s.ss.stage = .check → s.fe.hob = .running → .discard ∉ s.posts.scheduler → bankChecks s = false →
        exec .endOfCheck s = .next { s with ss := gathering s thrown }) ∧
      (s.ss.stage = .check → s.fe.hob = .running → .discard ∉ s.posts.scheduler → bankChecks s = true → s.ss.rerun = true →
        s.ss.restarts < 3 →
        exec .endOfCheck s = .next { s with ss := gathering s { thrown with restarts := s.ss.restarts + 1 } }) ∧
      ∀ (n : Snapshot) (rs : List BuildResult), s.ss.stage = .check → s.fe.hob = .running → .discard ∉ s.posts.scheduler →
        bankChecks s = true → s.ss.rerun = false ∨ 3 ≤ s.ss.restarts → s.ss.snapshot = some n → s.ss.results = some rs →
        exec .endOfCheck s = .next
          { s with
            ss := { s.ss with stage := .ready, snapshot := none, cursors := none, results := none }
            pans := Vector.ofFn fun p =>
              match rs.find? fun e => e.pan == p with
              | some e => { s.pans[p] with scheduled := e.placed * e.setpoint / n.f, dropped := e.dropped }
              | none => { s.pans[p] with scheduled := 0, dropped := 0 }
            posts := { s.posts with offers := s.posts.offers + 1 } }

/-- An offer sets swap-pending in RUNNING and is ignored in STOPPED and HALTED. It is ignored, too, while a discard waits, START HOB taken
meanwhile or not: whichever of the two is taken first, no swap is made (R103, R104, R114; log 40). -/
def Obligations.OffersSetSwapPending : Prop :=
  ∀ s : State, Settled s → 0 < s.posts.offers →
    (s.fe.hob = .running → .discard ∉ s.posts.scheduler →
      exec .offer s = .next
        { s with fe := { s.fe with swapPending := true }, posts := { s.posts with offers := s.posts.offers - 1 } }) ∧
    (s.fe.hob ≠ .running ∨ .discard ∈ s.posts.scheduler →
      exec .offer s = .next { s with posts := { s.posts with offers := s.posts.offers - 1 } })

/-- A swap notice in READY clears the restart count and leaves the stage IDLE, or begins a new build where the rerun flag is set, which does
not proceed with the hob not RUNNING (R93); in any other stage it is ignored. -/
def Obligations.SwapNoticesEndTheOffer : Prop :=
  ∀ s : State, Settled s → 0 < s.posts.swaps →
    let u : State := { s with posts := { s.posts with swaps := s.posts.swaps - 1 } }
    (s.ss.stage ≠ .ready → exec .swapNotice s = .next u) ∧
    (s.ss.stage = .ready → s.ss.rerun = false →
      exec .swapNotice s = .next { u with ss := { s.ss with stage := .idle, restarts := 0 } }) ∧
    (s.ss.stage = .ready → s.ss.rerun = true → s.fe.hob = .running →
      exec .swapNotice s = .next { u with ss := gathering s { s.ss with restarts := 0 } }) ∧
    (s.ss.stage = .ready → s.ss.rerun = true → s.fe.hob ≠ .running →
      exec .swapNotice s = .next
        { u with
          ss := { s.ss with
                  stage := .idle, rerun := false, restarts := 0, snapshot := none, cursors := none, results := none } })

/-! ### Halts and faults -/

/-- A halt in RUNNING takes the steps of R117, and in STOPPED and HALTED changes nothing; a clear-halt makes a HALTED hob STOPPED and leaves
a STOPPED or RUNNING one. In SUPPLY LOW the clear-halt of a HALTED hob waits, so that it returns to READY in HALTED (R122, R176; log 51). -/
def Obligations.HobClaimsAreTaken : Prop :=
  ∀ (s : State) (rest : List HobClaim), Settled s →
    let u : State := { s with posts := { s.posts with hobClaims := rest } }
    (∀ c : HaltCause, s.posts.hobClaims = .halt c :: rest →
      (s.fe.hob = .running →
        exec .halt s = .next
          { s with
            fe := { s.fe with hob := .halted, unlockTimer := none, swapPending := false, emitted := Vector.replicate 8 0 }
            pans := noneDelivered s
            boards := allOff s
            posts := { s.posts with
                       hobClaims := rest, scheduler := s.posts.scheduler ++ [.discard], hob := s.posts.hob ++ [.halt]
                       halted := s.posts.halted ++ [c] }
            cp := { s.cp with silence := none } }) ∧
      (s.fe.hob ≠ .running → exec .halt s = .next u)) ∧
    (s.posts.hobClaims = .clear :: rest →
      (s.fe.hob = .halted → s.sup.hub ≠ .supplyLow → exec .clearHalt s = .next { u with fe := { s.fe with hob := .stopped } }) ∧
      (s.fe.hob = .halted → s.sup.hub = .supplyLow → exec .clearHalt s = .next s) ∧
      (s.fe.hob ≠ .halted → exec .clearHalt s = .next u))

/-- A protective event: while the hob is HALTED it leaves no record; else its kind joins the trap set, and an empty first-fault record
captures it with the owner's handle, the frame count and the slot index. Halt causes, an entry to HALTED and a mains loss are taken
row by row of R135 to R137. -/
def Obligations.FaultsAreCaptured : Prop :=
  (∀ (s : State) (kind : FaultKind) (board : Option BoardId) (leg : Option LegId) (coil : Option CoilId) (value : Nat),
    (s.fe.hob = .halted → protective s kind board leg coil value = s) ∧
    (∀ r : FaultRecord, s.fe.hob ≠ .halted → s.pu.firstFault = some r →
      protective s kind board leg coil value =
        { s with pu := { s.pu with traps := s.pu.traps ||| (1#11 <<< (kind.code - 1)) } }) ∧
    (s.fe.hob ≠ .halted → s.pu.firstFault = none →
      protective s kind board leg coil value =
        { s with
          pu := { s.pu with
                  traps := s.pu.traps ||| (1#11 <<< (kind.code - 1))
                  firstFault := some
                    { kind := kind, board := board, leg := leg, coil := coil, frame := s.fe.frameCount
                      slot := s.fe.slotIndex, value := value
                      handle := coil.bind fun k =>
                        if s.coils[k].occupancy = .member then s.coils[k].owner.map fun p => (p, s.pans[p].pres.gen)
                        else none } } })) ∧
    (∀ (s : State) (c : HaltCause) (rest : List HaltCause), Settled s → s.posts.haltCauses = c :: rest →
      let u : State := { s with posts := { s.posts with haltCauses := rest } }
      (s.fe.hob = .running →
        exec .haltCause s = .next
          { u with posts := { s.posts with haltCauses := rest, hobClaims := s.posts.hobClaims ++ [.halt c] } }) ∧
      (s.fe.hob = .stopped → exec .haltCause s = .next (protective u c.kind none none none 0)) ∧
      (s.fe.hob = .halted → exec .haltCause s = .next u)) ∧
    (∀ (s : State) (c : HaltCause) (rest : List HaltCause), Settled s → s.posts.halted = c :: rest →
      ∀ first : FaultRecord,
        (match s.pu.firstFault with
          | some r => r
          | none => { kind := c.kind, board := none, leg := none, coil := none, handle := none, frame := s.fe.frameCount
                      slot := s.fe.slotIndex, value := 0 }) = first →
        exec .hobEnteredHalted s = .next
          (queueNotice
            { s with
              pu := { s.pu with firstFault := some first, traps := s.pu.traps ||| (1#11 <<< (c.kind.code - 1)) }
              posts := { s.posts with halted := rest } }
            .hobHalted 0 c.kind.code 0)) ∧
    ∀ (s : State) (c : LossCause) (rest : List LossCause), Settled s → s.posts.losses = c :: rest →
      exec .mainsLossPost s = .next
        (protective { s with posts := { s.posts with losses := rest } } .mainsLost none none none
          (match c with | .outOfWindow => 0 | .noCrossing => 1))

/-! ### Legs -/

/-- A frame-end takes one frame from the cooldown of each TRIPPED leg (R132) and finds the windows that close by the difference of R131
(log 47), but none reaches the Protection Unit in SUPPLY LOW, where it waits (R125; log 52); the cooldowns that reach 0 and those windows
are its tail (log 3): such a leg becomes READY with its posts, and such a window closes, clearing the trip count but for a LOCKED leg. A
board out, a removal and a board in on the board's four legs, row by row of R133; a leg that leaves or enters READY is posted, and a board
out is a protective event while a removal is none (R141). -/
def Obligations.LegsLeaveAndReturn : Prop :=
  ((∀ s : State, Settled s → s.posts.puFrameEnds = [] ∨ s.sup.hub = .supplyLow → exec .protectionFrameEnd s = .next s) ∧
    (∀ (s : State) (frame : BitVec 16) (rest : List (BitVec 16)), Settled s → s.sup.hub ≠ .supplyLow →
    s.posts.puFrameEnds = frame :: rest →
    let left (l : LegId) : Option Nat :=
      if s.pu.legs[l].state = .tripped then s.pu.legs[l].cooldown.map (· - 1) else s.pu.legs[l].cooldown
    exec .protectionFrameEnd s = .next
      { s with
        pu := { s.pu with
                legs := Vector.ofFn fun l => { s.pu.legs[l] with cooldown := left l }
                cooldownDue := allLegs.filter fun l => decide (s.pu.legs[l].state = .tripped ∧ left l = some 0)
                windowDue := allLegs.filter fun l =>
                  match s.pu.legs[l].windowStart with
                  | none => false
                  | some w => decide (s.ts.work.retryWindow - 1 ≤ (frame - w).toNat) }
        posts := { s.posts with puFrameEnds := rest } }) ∧
    (∀ (s : State) (l : LegId) (rest : List LegId), s.sup.level ≠ .belowDig → s.pu.cooldownDue = l :: rest →
      s.pu.legs[l].state = .tripped → s.pu.legs[l].cooldown = some 0 →
      exec .cooldownExpiry s = .next
        { s with
          pu := { s.pu with
                  cooldownDue := rest, legs := s.pu.legs.set l { s.pu.legs[l] with state := .ready, cooldown := none } }
          posts := { s.posts with
                     cmClaims := s.posts.cmClaims ++ [.legIn l], triggers := s.posts.triggers ++ [.legState l] } }) ∧
    ∀ (s : State) (l : LegId) (rest : List LegId), s.sup.level ≠ .belowDig → s.pu.windowDue = l :: rest →
      exec .retryWindowClose s = .next
        { s with
          pu := { s.pu with
                  windowDue := rest
                  legs := s.pu.legs.set l
                    { s.pu.legs[l] with
                      windowStart := none
                      trips := if s.pu.legs[l].state = .locked then s.pu.legs[l].trips else 0 } } }) ∧
  (∀ (s : State) (b : BoardId), Settled s →
    let popped : List (BoardId × BoardPost) := dropFirst b s.posts.puBoards
    let were (state : LegState) : List LegId :=
      allLegs.filter fun l => decide (legBoard l = b ∧ s.pu.legs[l].state = state)
    let outs : State :=
      { s with
        pu := { s.pu with
                legs := Vector.ofFn fun l =>
                  if legBoard l = b ∧ (s.pu.legs[l].state = .ready ∨ s.pu.legs[l].state = .tripped) then
                    { s.pu.legs[l] with state := .offline, cooldown := none, overshoot := false }
                  else s.pu.legs[l] }
        posts := { s.posts with
                   puBoards := popped
                   cmClaims := s.posts.cmClaims ++ (were .ready).map .legOut
                   triggers := s.posts.triggers ++ (were .ready).map .legState } }
    (∀ failed : Bool, firstOf b s.posts.puBoards = some (.out failed) →
      exec (.protectionBoardOut b) s = .next
        (protective outs .boardLost (some b) none none (if failed then 1 else 0))) ∧
    (firstOf b s.posts.puBoards = some .removal → exec (.boardRemoval b) s = .next outs) ∧
    (firstOf b s.posts.puBoards = some .into →
      exec (.protectionBoardIn b) s = .next
        { s with
          pu := { s.pu with
                  legs := Vector.ofFn fun l =>
                    if legBoard l = b ∧ s.pu.legs[l].state = .offline then { s.pu.legs[l] with state := .ready }
                    else s.pu.legs[l] }
          posts := { s.posts with
                     puBoards := popped
                     cmClaims := s.posts.cmClaims ++ (were .offline).map .legIn
                     triggers := s.posts.triggers ++ (were .offline).map .legState } }))

/-! ### Claims on the Coil Monitor -/

/-- The claims of R17: BOARD is added to the sets of a board's four legs, or LEG to one leg's; the present coils of a leg whose set was
empty gain UNOBSERVED with confirm run 0, and a member that was AVAILABLE is an eligibility change (R19). An in takes BOARD or LEG away
and leaves the coils. A hot claim adds HOT and a cool claim removes it, one naming an ABSENT coil being ignored; a member that stops or
starts being AVAILABLE is an eligibility change (R19). -/
def Obligations.ClaimsSetAvailabilityFlags : Prop :=
  (∀ (s : State), Settled s →
    let lose (hit : LegId → Bool) : Vector CoilRecord 64 :=
      Vector.ofFn fun k =>
        if hit (coilLeg k) = true ∧ outOfService s (coilLeg k) = false then unseen s.coils[k] else s.coils[k]
    let changes (hit : LegId → Bool) : List Trigger :=
      (allCoils.filter fun k =>
        decide (hit (coilLeg k) = true ∧ outOfService s (coilLeg k) = false ∧ s.coils[k].occupancy = .member ∧
          s.coils[k].available = true)).map fun k => .eligibility k s.coils[k].owner
    (∀ (b : BoardId) (failed : Bool), firstOf b s.posts.cmBoards = some (.out failed) →
      exec (.coilBoardOut b) s = .next
        { s with
          legOut := Vector.ofFn fun l => if legBoard l = b then { s.legOut[l] with board := true } else s.legOut[l]
          coils := lose fun l => decide (legBoard l = b)
          posts := { s.posts with
                     cmBoards := dropFirst b s.posts.cmBoards
                     triggers := s.posts.triggers ++ changes fun l => decide (legBoard l = b) } }) ∧
    (∀ b : BoardId, firstOf b s.posts.cmBoards = some .into →
      exec (.coilBoardIn b) s = .next
        { s with
          legOut := Vector.ofFn fun l => if legBoard l = b then { s.legOut[l] with board := false } else s.legOut[l]
          posts := { s.posts with cmBoards := dropFirst b s.posts.cmBoards } }) ∧
    (∀ (l : LegId) (rest : List CoilClaim), s.posts.cmClaims = .legOut l :: rest →
      exec .coilLegOut s = .next
        { s with
          legOut := s.legOut.set l { s.legOut[l] with leg := true }
          coils := lose fun j => decide (j = l)
          posts := { s.posts with
                     cmClaims := rest, triggers := s.posts.triggers ++ changes fun j => decide (j = l) } }) ∧
    ∀ (l : LegId) (rest : List CoilClaim), s.posts.cmClaims = .legIn l :: rest →
      exec .coilLegIn s = .next
        { s with
          legOut := s.legOut.set l { s.legOut[l] with leg := false }
          posts := { s.posts with cmClaims := rest } }) ∧
  (∀ (s : State) (k : CoilId) (rest : List CoilClaim), Settled s →
    let u : State := { s with posts := { s.posts with cmClaims := rest } }
    let set (hot : Bool) : State :=
      { s with
        coils := s.coils.set k { s.coils[k] with hot := hot }
        posts := { s.posts with
                   cmClaims := rest
                   triggers := s.posts.triggers ++
                     (if s.coils[k].occupancy = .member ∧ s.coils[k].hot ≠ hot ∧ s.coils[k].disabled = false ∧
                          s.coils[k].unobserved = false then
                        [.eligibility k s.coils[k].owner] else []) } }
    (s.posts.cmClaims = .hot k :: rest →
      (s.coils[k].occupancy = .absent → exec .hotClaim s = .next u) ∧
      (s.coils[k].occupancy ≠ .absent → exec .hotClaim s = .next (set true))) ∧
    (s.posts.cmClaims = .cool k :: rest →
      (s.coils[k].occupancy = .absent → exec .coolClaim s = .next u) ∧
      (s.coils[k].occupancy ≠ .absent → exec .coolClaim s = .next (set false))))

/-! ### Headlines -/

/-- Every command that comes as a cell is read back from the cell that carries it, with every operand at every value a well-formed command
may have: no field of a layout is dropped. The time of the cell and the strap's level are not in it: the command hands them in (logs 1
and 7). -/
def Obligations.CellsReadBack : Prop :=
  ∀ (i : Instr) (link : Link) (cell : Cell), i.wf = true → cellOf i = some (link, cell) →
    readCell link (timeOf i) (strapOf i) cell = some i

/-- The invariants hold at reset. -/
def Obligations.InvariantsHoldAtReset : Prop :=
  QueuesFit State.reset ∧ RequestsHeat State.reset ∧ RunningOnly State.reset ∧ NothingToExamine State.reset ∧
    MembersAgree State.reset

/-- No step overfills the notice queue of 32 places, the heat cell queue of 16, or the status queue of four: BUSY and NOT READY statuses
take at most three places, and the order's own takes one exactly in STATUS. With it stays what keeps it so: the order state says
whether there is an order, reply cells wait in DATA-IN only, and the store works for an order in COMPLETING or in RECALLING. -/
def Obligations.QueuesFitInEveryStep : Prop :=
  ∀ s u : State, QueuesFit s → step s = .next u → QueuesFit u

/-- In every step the request order list keeps holding each pan in LEVEL or PROGRAM exactly once and no other pan. -/
def Obligations.RequestsHeatInEveryStep : Prop :=
  ∀ s u : State, RequestsHeat s → step s = .next u → RequestsHeat u

/-- In every step a hob that is not RUNNING has no silence timer, no unlock timer, no swap pending, no emitted energy and nothing
delivered. While a discard waits no swap is pending and a hob RUNNING again awaits its first swap; with none waiting, a hob that is not
RUNNING has an IDLE Slot Scheduler and two empty banks. -/
def Obligations.RunningOnlyInEveryStep : Prop :=
  ∀ s u : State, RunningOnly s → step s = .next u → RunningOnly u

/-- Every step empties the examination queue before it ends. -/
def Obligations.ExaminationEndsInEveryStep : Prop :=
  ∀ s u : State, NothingToExamine s → step s = .next u → NothingToExamine u

/-- In every step the member lists, the owner fields, the presence states and the lift order keep agreeing. -/
def Obligations.MembersAgreeInEveryStep : Prop :=
  ∀ s u : State, MembersAgree s → step s = .next u → MembersAgree u

end
end

