-- ==== Sys2Proof/Laws/Fold.lean ====
section
/-! SUPPORT. A loop over indices that rewrites one entry of a vector at a time, and a loop that appends. -/

namespace Sys2Proof.Laws

/-- Writing back what is there changes nothing. -/
theorem set_same {α : Type} {n : Nat} (v : Vector α n) (i : Fin n) : v.set i v[i] = v := by
  apply Vector.ext
  intro j hj
  by_cases h : i.val = j
  · subst h; simp
  · simp

/-- The entry at `j` after one write. -/
theorem set_get {α : Type} {n : Nat} (v : Vector α n) (i j : Fin n) (a : α) : (v.set i a)[j] = if i = j then a else v[j] := by
  simp only [Fin.getElem_fin, Vector.getElem_set, Fin.ext_iff]

/-- A loop over distinct indices that rewrites each entry once. -/
theorem foldl_set_get {α : Type} {n : Nat} (g : Fin n → α → α) (l : List (Fin n)) (hl : l.Nodup) (v : Vector α n) (j : Fin n) :
    (l.foldl (fun (v : Vector α n) (i : Fin n) => v.set i (g i v[i])) v)[j] = if j ∈ l then g j v[j] else v[j] := by
  induction l generalizing v with
  | nil => simp
  | cons a l ih =>
    rw [List.foldl_cons, ih (List.nodup_cons.mp hl).2, set_get]
    by_cases h : a = j
    · subst h; simp [(List.nodup_cons.mp hl).1]
    · have : j ≠ a := fun e => h e.symm
      simp [h, this]

/-- A loop over every index rewrites every entry. -/
theorem foldl_set_all {α : Type} {n : Nat} (g : Fin n → α → α) (v : Vector α n) :
    (List.finRange n).foldl (fun (v : Vector α n) (i : Fin n) => v.set i (g i v[i])) v = Vector.ofFn fun i => g i v[i] := by
  apply Vector.ext
  intro j hj
  have := foldl_set_get g (List.finRange n) (List.nodup_finRange n) v ⟨j, hj⟩
  simpa using this

/-- A loop that appends a list for each element. -/
theorem foldl_append {α β : Type} (f : α → List β) (l : List α) (b : List β) :
    l.foldl (fun b a => b ++ f a) b = b ++ l.flatMap f := by
  induction l generalizing b with
  | nil => simp
  | cons a l ih => simp [ih]

end Sys2Proof.Laws
end

