-- ==== Sys2Proof/Laws/State.lean ====
section
/-! SUPPORT. What each update of State writes and what it leaves: one fact per field, true by rfl, for simp. -/

namespace Sys2Proof.Machine.State

@[simp] theorem modCoil_coils (s : State) (k : CoilId) (f : CoilRecord → CoilRecord) : (s.modCoil k f).coils = s.coils.set k (f s.coils[k]) := rfl
@[simp] theorem modCoil_keeps (s : State) (k : CoilId) (f : CoilRecord → CoilRecord) :
    (s.modCoil k f).pending = s.pending ∧ (s.modCoil k f).now = s.now ∧ (s.modCoil k f).draws = s.draws ∧
      (s.modCoil k f).upLine = s.upLine ∧ (s.modCoil k f).boardLines = s.boardLines ∧ (s.modCoil k f).sup = s.sup ∧
      (s.modCoil k f).ts = s.ts ∧ (s.modCoil k f).legOut = s.legOut ∧ (s.modCoil k f).pans = s.pans ∧
      (s.modCoil k f).pt = s.pt ∧ (s.modCoil k f).hs = s.hs ∧ (s.modCoil k f).ba = s.ba ∧ (s.modCoil k f).ss = s.ss ∧
      (s.modCoil k f).fe = s.fe ∧ (s.modCoil k f).pu = s.pu ∧ (s.modCoil k f).boards = s.boards ∧
      (s.modCoil k f).cp = s.cp ∧ (s.modCoil k f).posts = s.posts := by
  refine ⟨?_, ?_, ?_, ?_, ?_, ?_, ?_, ?_, ?_, ?_, ?_, ?_, ?_, ?_, ?_, ?_, ?_, ?_⟩ <;> rfl

@[simp] theorem modLegOut_legOut (s : State) (l : LegId) (f : OutSet → OutSet) : (s.modLegOut l f).legOut = s.legOut.set l (f s.legOut[l]) := rfl
@[simp] theorem modLegOut_keeps (s : State) (l : LegId) (f : OutSet → OutSet) :
    (s.modLegOut l f).pending = s.pending ∧ (s.modLegOut l f).now = s.now ∧ (s.modLegOut l f).draws = s.draws ∧
      (s.modLegOut l f).upLine = s.upLine ∧ (s.modLegOut l f).boardLines = s.boardLines ∧ (s.modLegOut l f).sup = s.sup ∧
      (s.modLegOut l f).ts = s.ts ∧ (s.modLegOut l f).coils = s.coils ∧ (s.modLegOut l f).pans = s.pans ∧
      (s.modLegOut l f).pt = s.pt ∧ (s.modLegOut l f).hs = s.hs ∧ (s.modLegOut l f).ba = s.ba ∧
      (s.modLegOut l f).ss = s.ss ∧ (s.modLegOut l f).fe = s.fe ∧ (s.modLegOut l f).pu = s.pu ∧
      (s.modLegOut l f).boards = s.boards ∧ (s.modLegOut l f).cp = s.cp ∧ (s.modLegOut l f).posts = s.posts := by
  refine ⟨?_, ?_, ?_, ?_, ?_, ?_, ?_, ?_, ?_, ?_, ?_, ?_, ?_, ?_, ?_, ?_, ?_, ?_⟩ <;> rfl

@[simp] theorem modPan_pans (s : State) (p : PanSlot) (f : PanRecord → PanRecord) : (s.modPan p f).pans = s.pans.set p (f s.pans[p]) := rfl
@[simp] theorem modPan_keeps (s : State) (p : PanSlot) (f : PanRecord → PanRecord) :
    (s.modPan p f).pending = s.pending ∧ (s.modPan p f).now = s.now ∧ (s.modPan p f).draws = s.draws ∧
      (s.modPan p f).upLine = s.upLine ∧ (s.modPan p f).boardLines = s.boardLines ∧ (s.modPan p f).sup = s.sup ∧
      (s.modPan p f).ts = s.ts ∧ (s.modPan p f).coils = s.coils ∧ (s.modPan p f).legOut = s.legOut ∧
      (s.modPan p f).pt = s.pt ∧ (s.modPan p f).hs = s.hs ∧ (s.modPan p f).ba = s.ba ∧ (s.modPan p f).ss = s.ss ∧
      (s.modPan p f).fe = s.fe ∧ (s.modPan p f).pu = s.pu ∧ (s.modPan p f).boards = s.boards ∧ (s.modPan p f).cp = s.cp ∧
      (s.modPan p f).posts = s.posts := by
  refine ⟨?_, ?_, ?_, ?_, ?_, ?_, ?_, ?_, ?_, ?_, ?_, ?_, ?_, ?_, ?_, ?_, ?_, ?_⟩ <;> rfl

@[simp] theorem modPres_pans (s : State) (p : PanSlot) (f : PresencePart → PresencePart) : (s.modPres p f).pans = s.pans.set p { s.pans[p] with pres := f s.pans[p].pres } := rfl
@[simp] theorem modPres_keeps (s : State) (p : PanSlot) (f : PresencePart → PresencePart) :
    (s.modPres p f).pending = s.pending ∧ (s.modPres p f).now = s.now ∧ (s.modPres p f).draws = s.draws ∧
      (s.modPres p f).upLine = s.upLine ∧ (s.modPres p f).boardLines = s.boardLines ∧ (s.modPres p f).sup = s.sup ∧
      (s.modPres p f).ts = s.ts ∧ (s.modPres p f).coils = s.coils ∧ (s.modPres p f).legOut = s.legOut ∧
      (s.modPres p f).pt = s.pt ∧ (s.modPres p f).hs = s.hs ∧ (s.modPres p f).ba = s.ba ∧ (s.modPres p f).ss = s.ss ∧
      (s.modPres p f).fe = s.fe ∧ (s.modPres p f).pu = s.pu ∧ (s.modPres p f).boards = s.boards ∧
      (s.modPres p f).cp = s.cp ∧ (s.modPres p f).posts = s.posts := by
  refine ⟨?_, ?_, ?_, ?_, ?_, ?_, ?_, ?_, ?_, ?_, ?_, ?_, ?_, ?_, ?_, ?_, ?_, ?_⟩ <;> rfl

@[simp] theorem modHeat_pans (s : State) (p : PanSlot) (f : HeatPart → HeatPart) : (s.modHeat p f).pans = s.pans.set p { s.pans[p] with heat := f s.pans[p].heat } := rfl
@[simp] theorem modHeat_keeps (s : State) (p : PanSlot) (f : HeatPart → HeatPart) :
    (s.modHeat p f).pending = s.pending ∧ (s.modHeat p f).now = s.now ∧ (s.modHeat p f).draws = s.draws ∧
      (s.modHeat p f).upLine = s.upLine ∧ (s.modHeat p f).boardLines = s.boardLines ∧ (s.modHeat p f).sup = s.sup ∧
      (s.modHeat p f).ts = s.ts ∧ (s.modHeat p f).coils = s.coils ∧ (s.modHeat p f).legOut = s.legOut ∧
      (s.modHeat p f).pt = s.pt ∧ (s.modHeat p f).hs = s.hs ∧ (s.modHeat p f).ba = s.ba ∧ (s.modHeat p f).ss = s.ss ∧
      (s.modHeat p f).fe = s.fe ∧ (s.modHeat p f).pu = s.pu ∧ (s.modHeat p f).boards = s.boards ∧
      (s.modHeat p f).cp = s.cp ∧ (s.modHeat p f).posts = s.posts := by
  refine ⟨?_, ?_, ?_, ?_, ?_, ?_, ?_, ?_, ?_, ?_, ?_, ?_, ?_, ?_, ?_, ?_, ?_, ?_⟩ <;> rfl

@[simp] theorem modLeg_pu (s : State) (l : LegId) (f : LegRecord → LegRecord) : (s.modLeg l f).pu = { s.pu with legs := s.pu.legs.set l (f s.pu.legs[l]) } := rfl
@[simp] theorem modLeg_keeps (s : State) (l : LegId) (f : LegRecord → LegRecord) :
    (s.modLeg l f).pending = s.pending ∧ (s.modLeg l f).now = s.now ∧ (s.modLeg l f).draws = s.draws ∧
      (s.modLeg l f).upLine = s.upLine ∧ (s.modLeg l f).boardLines = s.boardLines ∧ (s.modLeg l f).sup = s.sup ∧
      (s.modLeg l f).ts = s.ts ∧ (s.modLeg l f).coils = s.coils ∧ (s.modLeg l f).legOut = s.legOut ∧
      (s.modLeg l f).pans = s.pans ∧ (s.modLeg l f).pt = s.pt ∧ (s.modLeg l f).hs = s.hs ∧ (s.modLeg l f).ba = s.ba ∧
      (s.modLeg l f).ss = s.ss ∧ (s.modLeg l f).fe = s.fe ∧ (s.modLeg l f).boards = s.boards ∧ (s.modLeg l f).cp = s.cp ∧
      (s.modLeg l f).posts = s.posts := by
  refine ⟨?_, ?_, ?_, ?_, ?_, ?_, ?_, ?_, ?_, ?_, ?_, ?_, ?_, ?_, ?_, ?_, ?_, ?_⟩ <;> rfl

@[simp] theorem modBoard_boards (s : State) (b : BoardId) (f : BoardPort → BoardPort) : (s.modBoard b f).boards = s.boards.set b (f s.boards[b]) := rfl
@[simp] theorem modBoard_keeps (s : State) (b : BoardId) (f : BoardPort → BoardPort) :
    (s.modBoard b f).pending = s.pending ∧ (s.modBoard b f).now = s.now ∧ (s.modBoard b f).draws = s.draws ∧
      (s.modBoard b f).upLine = s.upLine ∧ (s.modBoard b f).boardLines = s.boardLines ∧ (s.modBoard b f).sup = s.sup ∧
      (s.modBoard b f).ts = s.ts ∧ (s.modBoard b f).coils = s.coils ∧ (s.modBoard b f).legOut = s.legOut ∧
      (s.modBoard b f).pans = s.pans ∧ (s.modBoard b f).pt = s.pt ∧ (s.modBoard b f).hs = s.hs ∧
      (s.modBoard b f).ba = s.ba ∧ (s.modBoard b f).ss = s.ss ∧ (s.modBoard b f).fe = s.fe ∧ (s.modBoard b f).pu = s.pu ∧
      (s.modBoard b f).cp = s.cp ∧ (s.modBoard b f).posts = s.posts := by
  refine ⟨?_, ?_, ?_, ?_, ?_, ?_, ?_, ?_, ?_, ?_, ?_, ?_, ?_, ?_, ?_, ?_, ?_, ?_⟩ <;> rfl

@[simp] theorem modPans_pans (s : State) (f : PanSlot → PanRecord → PanRecord) : (s.modPans f).pans = Vector.ofFn fun p => f p s.pans[p] := rfl
@[simp] theorem modPans_keeps (s : State) (f : PanSlot → PanRecord → PanRecord) :
    (s.modPans f).pending = s.pending ∧ (s.modPans f).now = s.now ∧ (s.modPans f).draws = s.draws ∧
      (s.modPans f).upLine = s.upLine ∧ (s.modPans f).boardLines = s.boardLines ∧ (s.modPans f).sup = s.sup ∧
      (s.modPans f).ts = s.ts ∧ (s.modPans f).coils = s.coils ∧ (s.modPans f).legOut = s.legOut ∧
      (s.modPans f).pt = s.pt ∧ (s.modPans f).hs = s.hs ∧ (s.modPans f).ba = s.ba ∧ (s.modPans f).ss = s.ss ∧
      (s.modPans f).fe = s.fe ∧ (s.modPans f).pu = s.pu ∧ (s.modPans f).boards = s.boards ∧ (s.modPans f).cp = s.cp ∧
      (s.modPans f).posts = s.posts := by
  refine ⟨?_, ?_, ?_, ?_, ?_, ?_, ?_, ?_, ?_, ?_, ?_, ?_, ?_, ?_, ?_, ?_, ?_, ?_⟩ <;> rfl

@[simp] theorem modPosts_posts (s : State) (f : Posts → Posts) : (s.modPosts f).posts = f s.posts := rfl
@[simp] theorem modPosts_keeps (s : State) (f : Posts → Posts) :
    (s.modPosts f).pending = s.pending ∧ (s.modPosts f).now = s.now ∧ (s.modPosts f).draws = s.draws ∧
      (s.modPosts f).upLine = s.upLine ∧ (s.modPosts f).boardLines = s.boardLines ∧ (s.modPosts f).sup = s.sup ∧
      (s.modPosts f).ts = s.ts ∧ (s.modPosts f).coils = s.coils ∧ (s.modPosts f).legOut = s.legOut ∧
      (s.modPosts f).pans = s.pans ∧ (s.modPosts f).pt = s.pt ∧ (s.modPosts f).hs = s.hs ∧ (s.modPosts f).ba = s.ba ∧
      (s.modPosts f).ss = s.ss ∧ (s.modPosts f).fe = s.fe ∧ (s.modPosts f).pu = s.pu ∧ (s.modPosts f).boards = s.boards ∧
      (s.modPosts f).cp = s.cp := by
  refine ⟨?_, ?_, ?_, ?_, ?_, ?_, ?_, ?_, ?_, ?_, ?_, ?_, ?_, ?_, ?_, ?_, ?_, ?_⟩ <;> rfl

@[simp] theorem modSup_sup (s : State) (f : Supply → Supply) : (s.modSup f).sup = f s.sup := rfl
@[simp] theorem modSup_keeps (s : State) (f : Supply → Supply) :
    (s.modSup f).pending = s.pending ∧ (s.modSup f).now = s.now ∧ (s.modSup f).draws = s.draws ∧
      (s.modSup f).upLine = s.upLine ∧ (s.modSup f).boardLines = s.boardLines ∧ (s.modSup f).ts = s.ts ∧
      (s.modSup f).coils = s.coils ∧ (s.modSup f).legOut = s.legOut ∧ (s.modSup f).pans = s.pans ∧
      (s.modSup f).pt = s.pt ∧ (s.modSup f).hs = s.hs ∧ (s.modSup f).ba = s.ba ∧ (s.modSup f).ss = s.ss ∧
      (s.modSup f).fe = s.fe ∧ (s.modSup f).pu = s.pu ∧ (s.modSup f).boards = s.boards ∧ (s.modSup f).cp = s.cp ∧
      (s.modSup f).posts = s.posts := by
  refine ⟨?_, ?_, ?_, ?_, ?_, ?_, ?_, ?_, ?_, ?_, ?_, ?_, ?_, ?_, ?_, ?_, ?_, ?_⟩ <;> rfl

@[simp] theorem modTs_ts (s : State) (f : TableStore → TableStore) : (s.modTs f).ts = f s.ts := rfl
@[simp] theorem modTs_keeps (s : State) (f : TableStore → TableStore) :
    (s.modTs f).pending = s.pending ∧ (s.modTs f).now = s.now ∧ (s.modTs f).draws = s.draws ∧
      (s.modTs f).upLine = s.upLine ∧ (s.modTs f).boardLines = s.boardLines ∧ (s.modTs f).sup = s.sup ∧
      (s.modTs f).coils = s.coils ∧ (s.modTs f).legOut = s.legOut ∧ (s.modTs f).pans = s.pans ∧ (s.modTs f).pt = s.pt ∧
      (s.modTs f).hs = s.hs ∧ (s.modTs f).ba = s.ba ∧ (s.modTs f).ss = s.ss ∧ (s.modTs f).fe = s.fe ∧
      (s.modTs f).pu = s.pu ∧ (s.modTs f).boards = s.boards ∧ (s.modTs f).cp = s.cp ∧ (s.modTs f).posts = s.posts := by
  refine ⟨?_, ?_, ?_, ?_, ?_, ?_, ?_, ?_, ?_, ?_, ?_, ?_, ?_, ?_, ?_, ?_, ?_, ?_⟩ <;> rfl

@[simp] theorem modPt_pt (s : State) (f : PanLists → PanLists) : (s.modPt f).pt = f s.pt := rfl
@[simp] theorem modPt_keeps (s : State) (f : PanLists → PanLists) :
    (s.modPt f).pending = s.pending ∧ (s.modPt f).now = s.now ∧ (s.modPt f).draws = s.draws ∧
      (s.modPt f).upLine = s.upLine ∧ (s.modPt f).boardLines = s.boardLines ∧ (s.modPt f).sup = s.sup ∧
      (s.modPt f).ts = s.ts ∧ (s.modPt f).coils = s.coils ∧ (s.modPt f).legOut = s.legOut ∧ (s.modPt f).pans = s.pans ∧
      (s.modPt f).hs = s.hs ∧ (s.modPt f).ba = s.ba ∧ (s.modPt f).ss = s.ss ∧ (s.modPt f).fe = s.fe ∧
      (s.modPt f).pu = s.pu ∧ (s.modPt f).boards = s.boards ∧ (s.modPt f).cp = s.cp ∧ (s.modPt f).posts = s.posts := by
  refine ⟨?_, ?_, ?_, ?_, ?_, ?_, ?_, ?_, ?_, ?_, ?_, ?_, ?_, ?_, ?_, ?_, ?_, ?_⟩ <;> rfl

@[simp] theorem modHs_hs (s : State) (f : HeatLists → HeatLists) : (s.modHs f).hs = f s.hs := rfl
@[simp] theorem modHs_keeps (s : State) (f : HeatLists → HeatLists) :
    (s.modHs f).pending = s.pending ∧ (s.modHs f).now = s.now ∧ (s.modHs f).draws = s.draws ∧
      (s.modHs f).upLine = s.upLine ∧ (s.modHs f).boardLines = s.boardLines ∧ (s.modHs f).sup = s.sup ∧
      (s.modHs f).ts = s.ts ∧ (s.modHs f).coils = s.coils ∧ (s.modHs f).legOut = s.legOut ∧ (s.modHs f).pans = s.pans ∧
      (s.modHs f).pt = s.pt ∧ (s.modHs f).ba = s.ba ∧ (s.modHs f).ss = s.ss ∧ (s.modHs f).fe = s.fe ∧
      (s.modHs f).pu = s.pu ∧ (s.modHs f).boards = s.boards ∧ (s.modHs f).cp = s.cp ∧ (s.modHs f).posts = s.posts := by
  refine ⟨?_, ?_, ?_, ?_, ?_, ?_, ?_, ?_, ?_, ?_, ?_, ?_, ?_, ?_, ?_, ?_, ?_, ?_⟩ <;> rfl

@[simp] theorem modSs_ss (s : State) (f : Scheduler → Scheduler) : (s.modSs f).ss = f s.ss := rfl
@[simp] theorem modSs_keeps (s : State) (f : Scheduler → Scheduler) :
    (s.modSs f).pending = s.pending ∧ (s.modSs f).now = s.now ∧ (s.modSs f).draws = s.draws ∧
      (s.modSs f).upLine = s.upLine ∧ (s.modSs f).boardLines = s.boardLines ∧ (s.modSs f).sup = s.sup ∧
      (s.modSs f).ts = s.ts ∧ (s.modSs f).coils = s.coils ∧ (s.modSs f).legOut = s.legOut ∧ (s.modSs f).pans = s.pans ∧
      (s.modSs f).pt = s.pt ∧ (s.modSs f).hs = s.hs ∧ (s.modSs f).ba = s.ba ∧ (s.modSs f).fe = s.fe ∧
      (s.modSs f).pu = s.pu ∧ (s.modSs f).boards = s.boards ∧ (s.modSs f).cp = s.cp ∧ (s.modSs f).posts = s.posts := by
  refine ⟨?_, ?_, ?_, ?_, ?_, ?_, ?_, ?_, ?_, ?_, ?_, ?_, ?_, ?_, ?_, ?_, ?_, ?_⟩ <;> rfl

@[simp] theorem modFe_fe (s : State) (f : FrameEngine → FrameEngine) : (s.modFe f).fe = f s.fe := rfl
@[simp] theorem modFe_keeps (s : State) (f : FrameEngine → FrameEngine) :
    (s.modFe f).pending = s.pending ∧ (s.modFe f).now = s.now ∧ (s.modFe f).draws = s.draws ∧
      (s.modFe f).upLine = s.upLine ∧ (s.modFe f).boardLines = s.boardLines ∧ (s.modFe f).sup = s.sup ∧
      (s.modFe f).ts = s.ts ∧ (s.modFe f).coils = s.coils ∧ (s.modFe f).legOut = s.legOut ∧ (s.modFe f).pans = s.pans ∧
      (s.modFe f).pt = s.pt ∧ (s.modFe f).hs = s.hs ∧ (s.modFe f).ba = s.ba ∧ (s.modFe f).ss = s.ss ∧
      (s.modFe f).pu = s.pu ∧ (s.modFe f).boards = s.boards ∧ (s.modFe f).cp = s.cp ∧ (s.modFe f).posts = s.posts := by
  refine ⟨?_, ?_, ?_, ?_, ?_, ?_, ?_, ?_, ?_, ?_, ?_, ?_, ?_, ?_, ?_, ?_, ?_, ?_⟩ <;> rfl

@[simp] theorem modPu_pu (s : State) (f : Protection → Protection) : (s.modPu f).pu = f s.pu := rfl
@[simp] theorem modPu_keeps (s : State) (f : Protection → Protection) :
    (s.modPu f).pending = s.pending ∧ (s.modPu f).now = s.now ∧ (s.modPu f).draws = s.draws ∧
      (s.modPu f).upLine = s.upLine ∧ (s.modPu f).boardLines = s.boardLines ∧ (s.modPu f).sup = s.sup ∧
      (s.modPu f).ts = s.ts ∧ (s.modPu f).coils = s.coils ∧ (s.modPu f).legOut = s.legOut ∧ (s.modPu f).pans = s.pans ∧
      (s.modPu f).pt = s.pt ∧ (s.modPu f).hs = s.hs ∧ (s.modPu f).ba = s.ba ∧ (s.modPu f).ss = s.ss ∧
      (s.modPu f).fe = s.fe ∧ (s.modPu f).boards = s.boards ∧ (s.modPu f).cp = s.cp ∧ (s.modPu f).posts = s.posts := by
  refine ⟨?_, ?_, ?_, ?_, ?_, ?_, ?_, ?_, ?_, ?_, ?_, ?_, ?_, ?_, ?_, ?_, ?_, ?_⟩ <;> rfl

@[simp] theorem modCp_cp (s : State) (f : ControllerPort → ControllerPort) : (s.modCp f).cp = f s.cp := rfl
@[simp] theorem modCp_keeps (s : State) (f : ControllerPort → ControllerPort) :
    (s.modCp f).pending = s.pending ∧ (s.modCp f).now = s.now ∧ (s.modCp f).draws = s.draws ∧
      (s.modCp f).upLine = s.upLine ∧ (s.modCp f).boardLines = s.boardLines ∧ (s.modCp f).sup = s.sup ∧
      (s.modCp f).ts = s.ts ∧ (s.modCp f).coils = s.coils ∧ (s.modCp f).legOut = s.legOut ∧ (s.modCp f).pans = s.pans ∧
      (s.modCp f).pt = s.pt ∧ (s.modCp f).hs = s.hs ∧ (s.modCp f).ba = s.ba ∧ (s.modCp f).ss = s.ss ∧
      (s.modCp f).fe = s.fe ∧ (s.modCp f).pu = s.pu ∧ (s.modCp f).boards = s.boards ∧ (s.modCp f).posts = s.posts := by
  refine ⟨?_, ?_, ?_, ?_, ?_, ?_, ?_, ?_, ?_, ?_, ?_, ?_, ?_, ?_, ?_, ?_, ?_, ?_⟩ <;> rfl

@[simp] theorem arrive_now (s : State) (t : Time) : (s.arrive t).now = max s.now t := rfl
@[simp] theorem arrive_keeps (s : State) (t : Time) :
    (s.arrive t).pending = s.pending ∧ (s.arrive t).draws = s.draws ∧ (s.arrive t).upLine = s.upLine ∧
      (s.arrive t).boardLines = s.boardLines ∧ (s.arrive t).sup = s.sup ∧ (s.arrive t).ts = s.ts ∧
      (s.arrive t).coils = s.coils ∧ (s.arrive t).legOut = s.legOut ∧ (s.arrive t).pans = s.pans ∧
      (s.arrive t).pt = s.pt ∧ (s.arrive t).hs = s.hs ∧ (s.arrive t).ba = s.ba ∧ (s.arrive t).ss = s.ss ∧
      (s.arrive t).fe = s.fe ∧ (s.arrive t).pu = s.pu ∧ (s.arrive t).boards = s.boards ∧ (s.arrive t).cp = s.cp ∧
      (s.arrive t).posts = s.posts := by
  refine ⟨?_, ?_, ?_, ?_, ?_, ?_, ?_, ?_, ?_, ?_, ?_, ?_, ?_, ?_, ?_, ?_, ?_, ?_⟩ <;> rfl

/-- A coil record after a change of one coil record. -/
theorem modCoil_get (s : State) (k j : CoilId) (f : CoilRecord → CoilRecord) :
    (s.modCoil k f).coils[j] = if j = k then f s.coils[k] else s.coils[j] := by
  simp only [modCoil_coils, Fin.getElem_fin, Vector.getElem_set]
  by_cases h : j = k
  · subst h; simp
  · have : k.val ≠ j.val := fun e => h (Fin.ext e.symm)
    simp [h, this]

/-- A pan record after a change of one pan record. -/
theorem modPan_get (s : State) (p q : PanSlot) (f : PanRecord → PanRecord) :
    (s.modPan p f).pans[q] = if q = p then f s.pans[p] else s.pans[q] := by
  simp only [modPan_pans, Fin.getElem_fin, Vector.getElem_set]
  by_cases h : q = p
  · subst h; simp
  · have : p.val ≠ q.val := fun e => h (Fin.ext e.symm)
    simp [h, this]

/-- A pan record after a change of one presence part. -/
theorem modPres_get (s : State) (p q : PanSlot) (f : PresencePart → PresencePart) :
    (s.modPres p f).pans[q] = if q = p then { s.pans[p] with pres := f s.pans[p].pres } else s.pans[q] := modPan_get s p q _

/-- A pan record after a change of one heat part. -/
theorem modHeat_get (s : State) (p q : PanSlot) (f : HeatPart → HeatPart) :
    (s.modHeat p f).pans[q] = if q = p then { s.pans[p] with heat := f s.pans[p].heat } else s.pans[q] := modPan_get s p q _

/-- A Board Port after a change of one. -/
theorem modBoard_get (s : State) (b c : BoardId) (f : BoardPort → BoardPort) :
    (s.modBoard b f).boards[c] = if c = b then f s.boards[b] else s.boards[c] := by
  simp only [modBoard_boards, Fin.getElem_fin, Vector.getElem_set]
  by_cases h : c = b
  · subst h; simp
  · have : b.val ≠ c.val := fun e => h (Fin.ext e.symm)
    simp [h, this]

/-- A leg record after a change of one. -/
theorem modLeg_get (s : State) (l m : LegId) (f : LegRecord → LegRecord) :
    (s.modLeg l f).pu.legs[m] = if m = l then f s.pu.legs[l] else s.pu.legs[m] := by
  simp only [modLeg_pu, Fin.getElem_fin, Vector.getElem_set]
  by_cases h : m = l
  · subst h; simp
  · have : l.val ≠ m.val := fun e => h (Fin.ext e.symm)
    simp [h, this]

/-- Every pan record after a change of all. -/
theorem modPans_get (s : State) (p : PanSlot) (f : PanSlot → PanRecord → PanRecord) : (s.modPans f).pans[p] = f p s.pans[p] := by
  simp

end Sys2Proof.Machine.State
end

