-- ==== Sys2Proof/Laws/Ops.lean ====
section
/-! SUPPORT. What the shared operations do, said once: how a command runs, how an order is taken and ends, notices, off-nows, energies, the
change of a leg's state, a protective event, a trip, member releases, the examination queue, retirement, and the heat change of a tail. -/

namespace Sys2Proof.Machine

/-! ### How a command runs -/

/-- With no tail waiting there is nothing to finish. -/
theorem finishDue_drained {s : State} (h : Drained s) : finishDue s = s := by
  obtain ⟨h1, h2, h3, h4⟩ := h
  simp [finishDue, repeatTail, h1, h2, h3, h4]

/-- A command acts at once on a settled state. -/
theorem run_settled {s : State} (h : Settled s) (f : State → State) : run s f = .next (f s) := by
  simp [run, h.1, finishDue_drained h.2]

/-- A command that takes one step of a tail acts above V_dig. -/
theorem runTail_above {s : State} (h : s.sup.level ≠ .belowDig) (f : State → State) : runTail s f = .next (f s) := by
  simp [runTail, h]

/-- A command of a pin acts at once where no tail waits. -/
theorem runPin_drained {s : State} (h : Drained s) (f : State → State) : runPin s f = .next (f s) := by
  simp [runPin, finishDue_drained h]

/-- Below V_dig a command of a pin acts on the state as it is. -/
theorem runPin_below {s : State} (h : s.sup.level = .belowDig) (f : State → State) : runPin s f = .next (f s) := by
  simp [runPin, h]

/-- Below V_dig a command changes nothing. -/
theorem run_below {s : State} (h : s.sup.level = .belowDig) (f : State → State) : run s f = .next s := by simp [run, h]

/-- R23, R125: no event of the slots is taken in SUPPLY LOW. -/
theorem runSlots_low {s : State} (h : Settled s) (l : s.sup.hub = .supplyLow) (f : State → State) : runSlots s f = .next s := by
  rw [runSlots, run_settled h, if_pos l]

/-- R23, R125: in any other hub state an event of the slots is taken at once. -/
theorem runSlots_settled {s : State} (h : Settled s) (l : s.sup.hub ≠ .supplyLow) (f : State → State) : runSlots s f = .next (f s) := by
  rw [runSlots, run_settled h, if_neg l]

/-! ### Orders -/

/-- R155: what a valid cell does. -/
theorem hearCell_eq (s : State) (t : Time) : hearCell s t = heard s t := rfl

/-- R156: the state in which an order is judged. -/
theorem openOrder_heard (s : State) (t : Time) (tag : Byte) (code : Nat) : openOrder (hearCell s t) tag code = taken s t tag code := rfl

/-- R156: an order that is taken is judged in the state `taken`. -/
theorem takeOrder_free {s : State} (h : OrderFree s) (t : Time) (tag : Byte) (code : Nat) (judge : State → State) :
    takeOrder s t tag code judge = judge (taken s t tag code) := by
  obtain ⟨-, h1, h2⟩ := h
  simp [takeOrder, ← openOrder_heard, hearCell, h1, h2]

/-- R166: IDENTIFY HUB is taken in every hub state. -/
theorem takeOrder_identify {s : State} (h : s.cp.order = none) (t : Time) (tag : Byte) (judge : State → State) :
    takeOrder s t tag 1 judge = judge (taken s t tag 1) := by
  simp [takeOrder, ← openOrder_heard, hearCell, h]

/-- R157: a BUSY or NOT READY status. -/
theorem answerStatus_eq (s : State) (tag : Byte) (condition : Condition) : answerStatus s tag condition = answered s tag condition := rfl

/-- R157: the order in progress ends GOOD. -/
theorem endGood_eq {s : State} {o : Order} (h : s.cp.order = some o) : endGood s = endedGood s o.tag := by
  simp [endGood, endOrder, h, endedGood, ended, State.modCp]

/-- R157: the order in progress ends CHECK. -/
theorem endCheck_eq {s : State} {o : Order} (h : s.cp.order = some o) (key : SenseKey) (field detail : Nat) :
    endCheck s key field detail = endedCheck s o.tag key field detail := by
  simp [endCheck, endOrder, h, endedCheck, ended, State.modCp]

/-- R157: without an order nothing ends. -/
theorem endOrder_none {s : State} (h : s.cp.order = none) (condition : Condition) (sense : SenseRecord) : endOrder s condition sense = s := by
  simp [endOrder, h]

/-- R158: the entry to DATA-OUT of the order in progress. -/
theorem enterDataOut_eq {s : State} {o : Order} (h : s.cp.order = some o) (expected : Nat) (job : OrderJob) :
    enterDataOut s expected job = inDataOut s { o with expected := expected, taken := 0, job := job } := by
  simp [enterDataOut, inDataOut, h, State.modCp]

/-! ### Notices -/

/-- R164: a notice touches the notice queue and the gap flag only. -/
theorem queueNotice_frame (s : State) (kind : NoticeKind) (subject : Byte) (first second : Nat) :
    queueNotice s kind subject first second =
      { s with
        cp := { s.cp with
                notices := (queueNotice s kind subject first second).cp.notices
                gap := (queueNotice s kind subject first second).cp.gap } } := by
  unfold queueNotice
  split
  · split <;> rfl
  · rfl

/-- R164: what a notice leaves. -/
@[simp] theorem queueNotice_keeps (s : State) (kind : NoticeKind) (subject : Byte) (first second : Nat) :
    (queueNotice s kind subject first second).pending = s.pending ∧
      (queueNotice s kind subject first second).now = s.now ∧
      (queueNotice s kind subject first second).draws = s.draws ∧
      (queueNotice s kind subject first second).upLine = s.upLine ∧
      (queueNotice s kind subject first second).boardLines = s.boardLines ∧
      (queueNotice s kind subject first second).sup = s.sup ∧
      (queueNotice s kind subject first second).ts = s.ts ∧
      (queueNotice s kind subject first second).coils = s.coils ∧
      (queueNotice s kind subject first second).legOut = s.legOut ∧
      (queueNotice s kind subject first second).pans = s.pans ∧
      (queueNotice s kind subject first second).pt = s.pt ∧
      (queueNotice s kind subject first second).hs = s.hs ∧
      (queueNotice s kind subject first second).ba = s.ba ∧
      (queueNotice s kind subject first second).ss = s.ss ∧
      (queueNotice s kind subject first second).fe = s.fe ∧
      (queueNotice s kind subject first second).pu = s.pu ∧
      (queueNotice s kind subject first second).boards = s.boards ∧
      (queueNotice s kind subject first second).posts = s.posts := by
  rw [queueNotice_frame]
  exact ⟨rfl, rfl, rfl, rfl, rfl, rfl, rfl, rfl, rfl, rfl, rfl, rfl, rfl, rfl, rfl, rfl, rfl, rfl⟩

/-- R164: a queued notice depends on the notice queue, the gap flag, the booking mask and the frame count only. -/
theorem queueNotice_cp {s t : State} (hc : s.cp = t.cp) (hf : s.fe.frameCount = t.fe.frameCount) (kind : NoticeKind) (subject : Byte)
    (first second : Nat) :
    (queueNotice s kind subject first second).cp = (queueNotice t kind subject first second).cp := by
  unfold queueNotice booked
  simp only [hc, hf]
  split
  · split <;> simp [State.modCp, hc]
  · exact hc

/-- R164: no queue grows past its 32 places. -/
theorem queueNotice_fits {s : State} (h : s.cp.notices.length ≤ 32) (kind : NoticeKind) (subject : Byte) (first second : Nat) :
    (queueNotice s kind subject first second).cp.notices.length ≤ 32 := by
  unfold queueNotice
  split
  · split
    · simp [State.modCp]; omega
    · simpa [State.modCp] using h
  · exact h

/-! ### Energies and off-nows -/

/-- R110: every emitted energy and delivered field is 0. -/
theorem clearEnergies_eq (s : State) :
    clearEnergies s = { s with fe := { s.fe with emitted := Vector.replicate 8 0 }, pans := noneDelivered s } := rfl

/-- R110: the frame in progress is cut. -/
theorem cutFrame_eq (s : State) :
    cutFrame s =
      { s with fe := { s.fe with emitted := Vector.replicate 8 0, frameOpen := false }, pans := noneDelivered s } := rfl

/-- R121: an off-now to one board. -/
theorem sendOffNow_eq (s : State) (b : BoardId) (legs : Vector Bool 4) :
    sendOffNow s b legs =
      { s with
        boards :=
          if s.boards[b].state = .online ∧ s.sup.hub = .ready then
            s.boards.set b
              { s.boards[b] with
                txOffNow := some (Vector.ofFn fun i => legs[i] || (s.boards[b].txOffNow.getD (Vector.replicate 4 false))[i]) }
          else s.boards } := by
  unfold sendOffNow
  split <;> rfl

/-- A loop over boards that rewrites one port at a time, by the hub state and the port as it stands. -/
theorem foldl_boards (F : State → BoardId → State) (g : Supply → BoardPort → BoardPort)
    (hF : ∀ t b, F t b = { t with boards := t.boards.set b (g t.sup t.boards[b]) }) (l : List BoardId) (s : State) :
    l.foldl F s =
      { s with boards := l.foldl (fun (v : Vector BoardPort 4) (b : BoardId) => v.set b (g s.sup v[b])) s.boards } := by
  induction l generalizing s with
  | nil => rfl
  | cons b l ih => rw [List.foldl_cons, hF, ih, List.foldl_cons]

/-- R121: the port of a board after an off-now to all its legs. -/
theorem sendOffNow_all (s : State) (b : BoardId) :
    sendOffNow s b (Vector.replicate 4 true) =
      { s with
        boards := s.boards.set b
          (if s.boards[b].state = .online ∧ s.sup.hub = .ready then
            { s.boards[b] with txOffNow := some (Vector.replicate 4 true) } else s.boards[b]) } := by
  have key : ∀ (x : Option (Vector Bool 4)),
      (Vector.ofFn fun i : Fin 4 => (Vector.replicate 4 true)[i] || (x.getD (Vector.replicate 4 false))[i]) =
        Vector.replicate 4 true := by
    intro x; apply Vector.ext; intro i hi; simp
  rw [sendOffNow_eq, key]
  split
  · rfl
  · rw [Laws.set_same]

/-- R110, R116, R117: an off-now to every ONLINE board. -/
theorem offNowAll_eq (s : State) : offNowAll s = { s with boards := allOff s } := by
  unfold offNowAll
  rw [foldl_boards _ (fun (u : Supply) (p : BoardPort) =>
    if p.state = .online ∧ u.hub = .ready then { p with txOffNow := some (Vector.replicate 4 true) } else p) sendOffNow_all]
  unfold allBoards
  rw [Laws.foldl_set_all fun (_ : BoardId) (p : BoardPort) =>
    if p.state = .online ∧ s.sup.hub = .ready then { p with txOffNow := some (Vector.replicate 4 true) } else p]
  rfl

/-! ### Legs and faults -/

/-- R137, R138: while the hob is HALTED a protective event leaves no record. -/
theorem protective_halted {s : State} (h : s.fe.hob = .halted) (kind : FaultKind) (board : Option BoardId) (leg : Option LegId)
    (coil : Option CoilId) (value : Nat) : protective s kind board leg coil value = s := by
  simp [protective, h]

/-- R137, R138: a protective event touches the first-fault record and the trap set only. -/
theorem protective_frame (s : State) (kind : FaultKind) (board : Option BoardId) (leg : Option LegId) (coil : Option CoilId)
    (value : Nat) :
    protective s kind board leg coil value =
      { s with
        pu := { s.pu with
                firstFault := (protective s kind board leg coil value).pu.firstFault
                traps := (protective s kind board leg coil value).pu.traps } } := by
  unfold protective capture
  split
  · rfl
  · split <;> rfl

/-- R126: a change of leg state touches that leg's record, the claims on the Coil Monitor and the recompute triggers only. -/
theorem changeLeg_frame (s : State) (l : LegId) (f : LegRecord → LegRecord) :
    ∃ r, changeLeg s l f =
      { s with
        pu := { s.pu with legs := s.pu.legs.set l r }
        posts := { s.posts with
                   cmClaims := (changeLeg s l f).posts.cmClaims, triggers := (changeLeg s l f).posts.triggers } } := by
  unfold changeLeg
  dsimp only
  split
  · exact ⟨_, rfl⟩
  · split <;> exact ⟨_, rfl⟩

/-! ### Member releases (R11, R20) -/

/-- R11: what a frame-end taken does to the posts. -/
theorem popFrameEnd_eq (s : State) :
    popFrameEnd s =
      { s with
        posts := { s.posts with ptFrameEnds := s.posts.ptFrameEnds.tail, coilEvents := frameTaken s.posts.coilEvents } } := by
  have h : s.posts.coilEvents.map CoilEvent.afterFrameEnd = frameTaken s.posts.coilEvents :=
    List.map_congr_left fun e _ => by cases e <;> rfl
  simp only [popFrameEnd, State.modPosts, h]

/-- R11: what a one-second event taken does to the posts. -/
theorem popSecond_eq (s : State) :
    popSecond s =
      { s with posts := { s.posts with ptSeconds := s.posts.ptSeconds - 1, coilEvents := secondTaken s.posts.coilEvents } } := by
  have h : s.posts.coilEvents.map CoilEvent.afterSecond = secondTaken s.posts.coilEvents :=
    List.map_congr_left fun e _ => by cases e <;> rfl
  simp only [popSecond, State.modPosts, h]

/-- R11: a member release joins the events behind what the Pan Tracker has yet to take, where none of the coil waits. -/
theorem postMemberRelease_new {s : State} {k : CoilId} (h : ∀ e ∈ s.posts.coilEvents, e.releases k = false) (p : Option PanSlot)
    (m : Material) (firing : Bool) :
    postMemberRelease s k p m firing =
      { s with
        posts := { s.posts with
                   coilEvents := s.posts.coilEvents ++
                     [.memberRelease k p m firing s.posts.ptFrameEnds.length s.posts.ptSeconds] } } := by
  have h' : s.posts.coilEvents.any (·.releases k) = false := by simpa using h
  simp [postMemberRelease, State.modPosts, h']

/-- R11: one that waits already stands for it too (log 15). -/
theorem postMemberRelease_again {s : State} {k : CoilId} (h : ∃ e ∈ s.posts.coilEvents, e.releases k = true) (p : Option PanSlot)
    (m : Material) (firing : Bool) :
    postMemberRelease s k p m firing =
      { s with posts := { s.posts with coilEvents := s.posts.coilEvents.map (·.again k firing) } } := by
  have h' : s.posts.coilEvents.any (·.releases k) = true := by simpa using h
  simp [postMemberRelease, State.modPosts, h']

/-! ### The Pan Tracker -/

/-- R26: what joins the examination queue. -/
theorem enqueue_eq (s : State) (ks : List CoilId) :
    enqueue s ks = { s with pt := { s.pt with examQueue := queued s.pt.examQueue ks } } := by
  simp [enqueue, State.modPt, queued]

/-- R26: the waiting neighbours of a coil join the queue. -/
theorem enqueueAround_eq (s : State) (k : CoilId) :
    enqueueAround s k = { s with pt := { s.pt with examQueue := queued s.pt.examQueue (waitingAround s k) } } :=
  enqueue_eq s _

/-- R24: the figures of a pan and the post of a new material. -/
theorem refigure_eq (s : State) (p : PanSlot) :
    refigure s p =
      { s with
        pans := s.pans.set p { s.pans[p] with pres := figured s p }
        posts := { s.posts with pans := s.posts.pans ++ materialPost s p (figured s p).material } } := by
  unfold refigure figured materialPost
  dsimp only
  split
  · simp only [Presence.standing, ne_eq, not_true_eq_false, and_false, if_false, List.append_nil]
    exact (congrArg (fun v => { s with pans := v }) (Laws.set_same s.pans p)).symm
  · split <;> simp [State.modPres, State.modPan, postPan, State.modPosts]

/-- R46: the retirement of a LIFTED record. -/
theorem retire_eq (s : State) (p : PanSlot) (reason : Reason) : retire s p reason = retired s p reason := by
  unfold retire retired
  dsimp only
  generalize hu : postPan _ _ = u
  have hc : u.cp = s.cp := by rw [← hu]; rfl
  have hf : u.fe.frameCount = s.fe.frameCount := by rw [← hu]; rfl
  rw [queueNotice_frame u, queueNotice_cp hc hf, hc, queueNotice_frame s, ← hu]
  rfl

/-- R71: where only the context of `p` can have changed, whether one has is read off `p`. -/
theorem contextsChanged_nil {s t : State} {p : PanSlot} (h : ∀ q : PanSlot, q ≠ p → t.pans[q] = s.pans[q]) :
    contextsChanged s t = [] ↔ contextView s p = contextView t p := by
  rw [contextsChanged, List.filter_eq_nil_iff]
  constructor
  · intro all
    simpa using all p (List.mem_finRange p)
  · intro e q _
    by_cases hq : q = p
    · simp [hq, e]
    · simp [contextView, h q hq]

/-- R67: a slot's context is discarded and its store emptied. -/
theorem heatRetired_eq (s : State) (p : PanSlot) : heatRetired s p = discarded s p := by
  have set : (s.pans.set p { s.pans[p] with heat := .idle }).set p
      { (s.pans.set p { s.pans[p] with heat := .idle })[p] with program := [] } =
      s.pans.set p { s.pans[p] with heat := .idle, program := [] } := by
    rw [Laws.set_get, if_pos rfl]
    apply Vector.ext
    intro j hj
    simp only [Vector.getElem_set]
    split <;> simp_all
  have key : ((toIdle s p).modPan p fun r => { r with program := [] }) =
      { s with
        pans := s.pans.set p { s.pans[p] with heat := .idle, program := [] }
        hs := { s.hs with requests := s.hs.requests.filter (· ≠ p) } } := by
    rw [← set]; rfl
  have others : ∀ q : PanSlot, q ≠ p → ((toIdle s p).modPan p fun r => { r with program := [] }).pans[q] = s.pans[q] := by
    intro q hq
    rw [key]
    exact (Laws.set_get s.pans p q _).trans (if_neg (Ne.symm hq))
  have view : contextView ((toIdle s p).modPan p fun r => { r with program := [] }) p = (.idle, 0, 0) := by
    rw [key, contextView]
    simp only [Laws.set_get, if_pos]
    rfl
  have changed := contextsChanged_nil others
  rw [view] at changed
  unfold heatRetired postHeatChange
  simp only [changed]
  rw [key]
  unfold discarded heatSet contextView
  by_cases c : (s.pans[p].heat.state, s.pans[p].heat.level, s.pans[p].heat.position) = (HeatState.idle, (0 : Level), (0 : Fin 8)) ∧
      s.hs.requests = s.hs.requests.filter (· ≠ p)
  · rw [if_pos c, if_pos]
    · simp
    · obtain ⟨h1, h2⟩ := c
      simp only [Prod.mk.injEq] at h1
      exact ⟨h1.1.symm, h1.2.1.symm, h1.2.2.symm, h2.symm⟩
  · rw [if_neg c, if_neg]
    · rfl
    · rintro ⟨h1, h2, h3, h4⟩
      exact c ⟨by rw [← h1, ← h2, ← h3]; rfl, h4.symm⟩

/-- With no post of the Pan Tracker waiting there is nothing to take. -/
theorem finishPans_nil {s : State} (h : s.posts.pans = []) : finishPans s = s := by
  rw [finishPans, h, List.foldl_nil, State.modPosts, ← h]

/-- Taking a post of the Pan Tracker neither reads nor changes those that wait. -/
theorem takePanPost_modPosts (s : State) (rest : List PanPost) (e : PanPost) :
    takePanPost (s.modPosts fun q => { q with pans := rest }) e = (takePanPost s e).modPosts fun q => { q with pans := rest } := by
  have notice (t : State) (kind : NoticeKind) (subject : Byte) (a b : Nat) :
      queueNotice (t.modPosts fun q => { q with pans := rest }) kind subject a b =
        (queueNotice t kind subject a b).modPosts fun q => { q with pans := rest } := by
    have h : (t.modPosts fun q => { q with pans := rest }).cp = t.cp := rfl
    rw [queueNotice_frame, queueNotice_cp h rfl, queueNotice_frame t]
    rfl
  have heat (p : PanSlot) (t : State) :
      postHeatChange (s.modPosts fun q => { q with pans := rest }) (t.modPosts fun q => { q with pans := rest }) p =
        (postHeatChange s t p).modPosts fun q => { q with pans := rest } := by
    unfold postHeatChange
    split <;> split <;> first | rfl | contradiction
  cases e with
  | lift p =>
    simp only [takePanPost, heatLifted]
    split
    · rename_i h; rw [if_pos (by exact h)]; exact heat p (hold s p .suspended)
    · rename_i h; rw [if_neg (by exact h)]
  | back p =>
    change heatReturned _ p = (heatReturned s p).modPosts _
    by_cases h : s.pans[p].heat.state = .suspended
    · by_cases g : s.pans[p].pres.material = .unsuitable
      · rw [heatReturned, if_pos (by exact h), if_pos (by exact g), heatReturned, if_pos h, if_pos g, ← heat]
        exact congrArg (postHeatChange _ · p) (notice (toIdle s p) _ _ _ _)
      · rw [heatReturned, if_pos (by exact h), if_neg (by exact g), heatReturned, if_pos h, if_neg g]
        exact heat p (resumeContext s p)
    · have gone : ∀ t : State, t.pans[p].heat.state ≠ .suspended → heatReturned t p = t := fun t n => if_neg n
      rw [gone s h]
      exact gone _ h
  | retirement p => exact heat p ((toIdle s p).modPan p fun r => { r with program := [] })
  | material p m =>
    simp only [takePanPost, heatMaterial]
    split
    · rename_i h
      rw [if_pos (by exact h), ← heat]
      exact congrArg (postHeatChange _ · p) (notice (toIdle s p) _ _ _ _)
    · rename_i h; rw [if_neg (by exact h)]

/-- The posts of the Pan Tracker that wait are taken from the head. -/
theorem finishPans_cons {s : State} {e : PanPost} {rest : List PanPost} (h : s.posts.pans = e :: rest) :
    finishPans s = finishPans (takePanPost (s.modPosts fun q => { q with pans := rest }) e) := by
  have waits : (takePanPost (s.modPosts fun q => { q with pans := rest }) e).posts.pans = rest := by
    rw [takePanPost_modPosts]; rfl
  rw [finishPans, finishPans, waits, h, List.foldl_cons, takePanPost_modPosts, takePanPost_modPosts]
  rfl

/-- R28: where no retirement of it waits, a slot's context is discarded as it stands. -/
theorem clearContext_eq {s : State} {p : PanSlot} (h : PanPost.retirement p ∉ s.posts.pans) : clearContext s p = discarded s p := by
  rw [clearContext, if_neg h, heatRetired_eq]

/-- R28, R67: a slot that is clear is left as it is. -/
theorem discarded_clear {s : State} {p : PanSlot} (h : SlotClear s p) : discarded s p = s := by
  obtain ⟨-, heat, listed, store, -⟩ := h
  have list : s.hs.requests.filter (· ≠ p) = s.hs.requests := by
    rw [List.filter_eq_self]
    intro q hq
    exact decide_eq_true fun e => listed (e ▸ hq)
  have pan : { s.pans[p] with heat := .idle, program := [] } = s.pans[p] := by rw [← heat, ← store]
  unfold discarded heatSet
  simp only [list, pan, heat, and_self, if_true, List.append_nil, Laws.set_same]

/-- R28, R67, R72: a founding finds a slot that is clear ready. -/
theorem readySlot_clear {s : State} {p : PanSlot} (h : SlotClear s p) : readySlot s p = s := by
  have e : clearContext s p = s := by rw [clearContext_eq h.1, discarded_clear h]
  rw [readySlot, e, if_pos h.2.2.2.2]

/-! ### What is taken before a release of R1 (R11, R20) -/

/-- R20: with nothing posted to the Pan Tracker nothing is taken. -/
theorem finishTracker_nil {s : State} (f : s.posts.ptFrameEnds = []) (n : s.posts.ptSeconds = 0) (e : s.posts.coilEvents = []) :
    finishTracker s = s := by
  simp [finishTracker, f, n, e]

/-- R20: a change of the structural-valid flag that releases no member waits for nothing. -/
theorem finishReleases_idle {s : State} {work : Tables} {valid : Bool} (h : releasesMember s work valid = false) :
    finishReleases s work valid = s := by
  simp [finishReleases, h]

/-! ### Deratings (R84, R85) -/

/-- R84: a board whose derate is kept is no derating change. -/
theorem takeDerating_same {before after : State} (h : ∀ b : BoardId, derate before b = derate after b) :
    takeDerating before after = after := by
  rw [takeDerating, if_neg]
  simp [derateChanged, h]

/-- R85: on a new derate the recompute is made at once. -/
theorem takeDerating_changed {before after : State} {b : BoardId} (h : derate before b ≠ derate after b) :
    takeDerating before after = recompute after := by
  rw [takeDerating, if_pos]
  rw [derateChanged, List.any_eq_true]
  exact ⟨b, List.mem_finRange b, by simpa using h⟩

/-! ### The halt at the rise above V_op (R122, R176) -/

/-- R117: the first halt among the claims is the first one that no clear-halt hides. -/
theorem firstHalt_eq (l : List HobClaim) :
    (∀ (c : HaltCause) (rest : List HobClaim), firstHalt l = some (c, rest) ↔ l.dropWhile (· == HobClaim.clear) = .halt c :: rest) ∧
      (firstHalt l = none ↔ l.dropWhile (· == HobClaim.clear) = []) := by
  induction l with
  | nil => simp [firstHalt]
  | cons e l ih =>
    cases e with
    | halt c =>
      have e : (HobClaim.halt c :: l).dropWhile (· == HobClaim.clear) = .halt c :: l := rfl
      rw [e]
      simp [firstHalt]
    | clear => exact ih

/-- R135: with a RUNNING hob the halt causes that wait are claims on the Frame Engine. -/
theorem finishCauses_running {s : State} (h : s.fe.hob = .running) :
    finishCauses s =
      { s with
        posts := { s.posts with haltCauses := [], hobClaims := s.posts.hobClaims ++ s.posts.haltCauses.map HobClaim.halt } } := by
  have key : ∀ (l : List HaltCause) (t : State), t.fe.hob = .running →
      l.foldl takeHaltCause t =
        { t with posts := { t.posts with hobClaims := t.posts.hobClaims ++ l.map HobClaim.halt } } := by
    intro l
    induction l with
    | nil => intro t _; simp
    | cons c l ih =>
      intro t ht
      have e : takeHaltCause t c = postHobClaim t (.halt c) := by simp [takeHaltCause, ht]
      rw [List.foldl_cons, e, ih (postHobClaim t (.halt c)) ht]
      simp [postHobClaim, State.modPosts]
  exact key s.posts.haltCauses (s.modPosts fun q => { q with haltCauses := [] }) h

/-- R135: with a STOPPED hob they are protective events. -/
theorem finishCauses_stopped {s : State} (h : s.fe.hob = .stopped) :
    finishCauses s =
      s.posts.haltCauses.foldl (fun t c => protective t c.kind none none none 0) { s with posts := { s.posts with haltCauses := [] } } := by
  have key : ∀ (l : List HaltCause) (t : State), t.fe.hob = .stopped →
      l.foldl takeHaltCause t = l.foldl (fun t c => protective t c.kind none none none 0) t := by
    intro l
    induction l with
    | nil => intro t _; rfl
    | cons c l ih =>
      intro t ht
      have e : takeHaltCause t c = protective t c.kind none none none 0 := by simp [takeHaltCause, ht]
      have hob : (protective t c.kind none none none 0).fe.hob = .stopped := by rw [protective_frame]; exact ht
      rw [List.foldl_cons, List.foldl_cons, e, ih _ hob]
  exact key s.posts.haltCauses (s.modPosts fun q => { q with haltCauses := [] }) h

/-- R135: with a HALTED hob they are ignored. -/
theorem finishCauses_halted {s : State} (h : s.fe.hob = .halted) :
    finishCauses s = { s with posts := { s.posts with haltCauses := [] } } := by
  have key : ∀ (l : List HaltCause) (t : State), t.fe.hob = .halted → l.foldl takeHaltCause t = t := by
    intro l
    induction l with
    | nil => intro t _; rfl
    | cons c l ih =>
      intro t ht
      have e : takeHaltCause t c = t := by simp [takeHaltCause, ht]
      rw [List.foldl_cons, e, ih t ht]
  exact key s.posts.haltCauses (s.modPosts fun q => { q with haltCauses := [] }) h

/-- R135: without a halt cause nothing is taken. -/
theorem finishCauses_nil {s : State} (h : s.posts.haltCauses = []) : finishCauses s = s := by
  rw [finishCauses, h, List.foldl_nil, State.modPosts, ← h]

/-- R122: with a hob that is not RUNNING and no halt cause there is nothing to finish. -/
theorem finishHalt_idle {s : State} (h : s.fe.hob ≠ .running) (c : s.posts.haltCauses = []) : finishHalt s = s := by
  rw [finishHalt, if_neg h, finishCauses_nil c]

/-- R138: with no entry to HALTED waiting there is nothing to tell. -/
theorem finishHalted_nil {s : State} (h : s.posts.halted = []) : finishHalted s = s := by
  rw [finishHalted, h, List.foldl_nil, State.modPosts, ← h]

/-- R163: with the hub READY or the hob not RUNNING a heat cell meets the hob as it is. -/
theorem meetHalt_idle {s : State} (h : s.sup.hub ≠ .supplyLow ∨ s.fe.hob ≠ .running) : meetHalt s = s :=
  if_neg fun c => h.elim (fun n => n c.1) fun n => n c.2

/-- R163: in SUPPLY LOW a heat cell meets a RUNNING hob's halt taken. -/
theorem meetHalt_low {s : State} (h : s.sup.hub = .supplyLow) (r : s.fe.hob = .running) : meetHalt s = finishHalt s :=
  if_pos ⟨h, r⟩

/-! ### The discard (R90, R103) -/

/-- R103: what taking a discard leaves. -/
theorem takeDiscard_eq (s : State) (rest : List SchedulerPost) :
    takeDiscard (s.modPosts fun q => { q with scheduler := rest }) = discardTaken s rest := rfl

/-- The posts behind the last discard are those that follow it. -/
theorem behindDiscards_eq (front : List SchedulerPost) {rest : List SchedulerPost} (h : SchedulerPost.discard ∉ rest) :
    behindDiscards (front ++ .discard :: rest) = rest := by
  have keep : ∀ a ∈ rest.reverse, decide (a ≠ SchedulerPost.discard) = true := fun a ha =>
    decide_eq_true fun e => h (e ▸ List.mem_reverse.mp ha)
  rw [behindDiscards, List.reverse_append, List.reverse_cons, List.append_assoc, List.takeWhile_append_of_pos keep]
  simp

/-- R90: a return to READY that finds no discard waiting leaves the banks. -/
theorem finishDiscard_idle {s : State} (h : ¬ DiscardWaits s) : finishDiscard s = s := if_neg h

/-- R90: a return to READY takes the last discard that waits, and what stood in front of it is gone. -/
theorem finishDiscard_eq {s : State} {front rest : List SchedulerPost} (h : s.posts.scheduler = front ++ .discard :: rest)
    (last : SchedulerPost.discard ∉ rest) : finishDiscard s = discardTaken s rest := by
  have waits : DiscardWaits s := by simp [DiscardWaits, h]
  have behind : behindDiscards s.posts.scheduler = rest := h ▸ behindDiscards_eq front last
  rw [finishDiscard, if_pos waits, ← behind]
  rfl

/-- R103, R104: while a discard waits an offer sets no swap pending. -/
theorem takeOffer_held {s : State} (h : DiscardWaits s) : takeOffer s = s := if_neg fun c => c.2 h

/-- R103, R104: while a discard waits the end of CHECK offers nothing. -/
theorem endOfCheck_held {s : State} (h : DiscardWaits s) (c : s.ss.stage = .check) :
    endOfCheck s = (dropBuild s).modSs fun t => { t with stage := .idle } := by
  rw [endOfCheck, if_neg (not_not_intro c), if_pos (.inr h)]

/-! ### What START HOB finds taken (R87, R104) -/

/-- Taking a post of the Frame Engine neither reads nor changes those that wait. -/
theorem takeHobPost_modPosts (s : State) (rest : List HobPost) (e : HobPost) :
    takeHobPost (s.modPosts fun q => { q with hob := rest }) e =
      (takeHobPost s e).modPosts fun q => { q with hob := rest } := by
  cases e <;> simp only [takeHobPost, heatHalted, heatStopped, heatStarted, postHeatChanges] <;> split <;> split <;>
    first | rfl | contradiction

/-- The posts that wait are taken from the head. -/
theorem finishHob_cons {s : State} {e : HobPost} {rest : List HobPost} (h : s.posts.hob = e :: rest) :
    finishHob s = finishHob (takeHobPost (s.modPosts fun q => { q with hob := rest }) e) := by
  have waits : (takeHobPost (s.modPosts fun q => { q with hob := rest }) e).posts.hob = rest := by
    rw [takeHobPost_modPosts]; rfl
  rw [finishHob, finishHob, waits, h, List.foldl_cons, takeHobPost_modPosts, takeHobPost_modPosts]
  rfl

/-- With no post waiting there is nothing to take. -/
theorem finishHob_nil {s : State} (h : s.posts.hob = []) : finishHob s = s := by
  rw [finishHob, h, List.foldl_nil, State.modPosts, ← h]

/-- R92, R104: with the halt or stop before it and the recompute on it taken, START HOB finds only rebuild requests to ignore. -/
theorem finishStop_idle {s : State} (h : s.posts.hob = []) (o : s.ba.figures.order = []) :
    finishStop s = { s with posts := { s.posts with rebuilds := 0 } } := by
  rw [finishStop, finishHob_nil h]
  dsimp only
  rw [if_pos o]
  rfl

/-- R104: START HOB finds the first post that waits taken before the others. -/
theorem finishStop_cons {s : State} {e : HobPost} {rest : List HobPost} (h : s.posts.hob = e :: rest) :
    finishStop s = finishStop (takeHobPost (s.modPosts fun q => { q with hob := rest }) e) := by
  rw [finishStop, finishHob_cons h, finishStop]

/-! ### Trips (R130) -/

/-- R130: a leg that is not READY does not trip. -/
theorem trip_idle {s : State} {l : LegId} (h : s.pu.legs[l].state ≠ .ready) (cause : TripCause) (coil : Option CoilId) (value : Nat) :
    trip s l cause coil value = s := by
  rw [trip, if_pos h]

/-! ### Steps (R71) -/

/-- R71: a tail with nothing left and nothing changed posts nothing. -/
theorem postStepChanges_nothing {s : State} (h : s.hs.stepDue ≠ [] ∨ s.hs.stepChanged = []) : postStepChanges s = s := by
  unfold postStepChanges
  split
  · rename_i p rest h1 h2
    rcases h with h | h
    · exact absurd h1 h
    · rw [h] at h2; cases h2
  · rfl

/-- R71: the end of the tail posts one heat change naming every context that changed. -/
theorem postStepChanges_end {s : State} (h : s.hs.stepDue = []) (c : s.hs.stepChanged ≠ []) :
    postStepChanges s =
      { s with
        hs := { s.hs with stepChanged := [] }
        posts := { s.posts with triggers := s.posts.triggers ++ [.heatChange s.hs.stepChanged] } } := by
  unfold postStepChanges
  split
  · rename_i h2; rw [h2]; rfl
  · rename_i h2
    obtain ⟨p, rest, e⟩ := List.exists_cons_of_ne_nil c
    exact absurd e (h2 p rest h)

end Sys2Proof.Machine
end

