-- ==== Sys2Proof/Laws/PerInstr.lean ====
section
/-! SUPPORT. One fact per command: the cell that carries it holds its check (R178). -/

namespace Sys2Proof.Laws

/-- Bytes 2 to 13 of a cell are what it was made of. -/
theorem payloadOf_mkCell (kind second : Byte) (p : Payload) : payloadOf (mkCell kind second p) = p := by
  apply Vector.ext
  intro i hi
  simp only [payloadOf, mkCell, Vector.getElem_ofFn]
  rw [if_neg (by omega), if_neg (by omega), dif_pos (by omega)]
  congr 1

/-- A 16-bit field is its high byte and its low byte. -/
theorem split16 (v : BitVec 16) : v.extractLsb' 8 8 ++ v.extractLsb' 0 8 = v := by
  apply BitVec.eq_of_getLsbD_eq
  intro i hi
  rw [BitVec.getLsbD_append]
  by_cases h : i < 8
  · simp [h]
  · simp [h, show i - 8 < 8 by omega, show 8 + (i - 8) = i by omega]

/-- R178: a cell the hub makes holds its check. -/
theorem checkHolds_mkCell (kind second : Byte) (p : Payload) : checkHolds (mkCell kind second p) = true := by
  have h0 : (mkCell kind second p)[0] = kind := by simp [mkCell]
  have h1 : (mkCell kind second p)[1] = second := by simp [mkCell]
  have h14 : (mkCell kind second p)[14] = (checkOf kind second p).extractLsb' 8 8 := by simp [mkCell]
  have h15 : (mkCell kind second p)[15] = (checkOf kind second p).extractLsb' 0 8 := by simp [mkCell]
  simp only [checkHolds, h0, h1, h14, h15, payloadOf_mkCell, beq_iff_eq]
  exact (split16 _).symm

namespace Cells

/-- The cell that carries the command, where the command comes as a cell, holds its check. -/
def Statement (i : Instr) : Prop := ∀ link cell, cellOf i = some (link, cell) → checkHolds cell = true

/-- A command carried by a made cell. -/
theorem of_made {i : Instr} {l : Link} {k s : Byte} {p : Payload} (h : cellOf i = some (l, mkCell k s p)) : Statement i := by
  intro link cell hc
  rw [h, Option.some.injEq, Prod.mk.injEq] at hc
  rw [← hc.2, checkHolds_mkCell]

/-- A command that does not come as a cell. -/
theorem of_none {i : Instr} (h : cellOf i = none) : Statement i := by
  intro link cell hc
  rw [h] at hc
  cases hc

theorem supplyRiseAboveVDig : Statement .supplyRiseAboveVDig := of_none rfl
theorem supplyFallBelowVDig : Statement .supplyFallBelowVDig := of_none rfl
theorem supplyRiseAboveVOp : Statement .supplyRiseAboveVOp := of_none rfl
theorem supplyFallBelowVOp : Statement .supplyFallBelowVOp := of_none rfl
theorem resetLineAssertion : Statement .resetLineAssertion := of_none rfl
theorem resetLineRelease : Statement .resetLineRelease := of_none rfl
theorem serviceStrapRelease : Statement .serviceStrapRelease := of_none rfl
theorem zeroCrossing (t : Time) : Statement (.zeroCrossing t) := of_none rfl
theorem mainsSilence (t : Time) : Statement (.mainsSilence t) := of_none rfl
theorem unlockTimerExpiry (t : Time) : Statement (.unlockTimerExpiry t) := of_none rfl
theorem timeBaseSecond : Statement .timeBaseSecond := of_none rfl
theorem panTrackerOneSecond : Statement .panTrackerOneSecond := of_none rfl
theorem graceExpiry : Statement .graceExpiry := of_none rfl
theorem heatStepTick : Statement .heatStepTick := of_none rfl
theorem stepEnd : Statement .stepEnd := of_none rfl
theorem panTrackerFrameEnd : Statement .panTrackerFrameEnd := of_none rfl
theorem protectionFrameEnd : Statement .protectionFrameEnd := of_none rfl
theorem cooldownExpiry : Statement .cooldownExpiry := of_none rfl
theorem retryWindowClose : Statement .retryWindowClose := of_none rfl
theorem censusDeadlineExpiry (b : BoardId) (t : Time) : Statement (.censusDeadlineExpiry b t) := of_none rfl
theorem silenceTimerExpiry (t : Time) : Statement (.silenceTimerExpiry t) := of_none rfl
theorem recallComplete : Statement .recallComplete := of_none rfl
theorem commitRowWritten : Statement .commitRowWritten := of_none rfl
theorem cellCheckFailed (link : Link) (cell : Cell) : Statement (.cellCheckFailed link cell) := of_none rfl
theorem identifyHub (t : Time) (tag : Byte) : Statement (.identifyHub t tag) := of_made rfl
theorem resetHub (t : Time) (tag : Byte) : Statement (.resetHub t tag) := of_made rfl
theorem setPace (t : Time) (tag window : Byte) (timeout : BitVec 16) : Statement (.setPace t tag window timeout) := of_made rfl
theorem bookNotices (t : Time) (tag : Byte) (mask : BitVec 24) : Statement (.bookNotices t tag mask) := of_made rfl
theorem fetchSense (t : Time) (tag : Byte) : Statement (.fetchSense t tag) := of_made rfl
theorem startHob (t : Time) (tag : Byte) : Statement (.startHob t tag) := of_made rfl
theorem stopHob (t : Time) (tag : Byte) : Statement (.stopHob t tag) := of_made rfl
theorem clearFault (t : Time) (tag : Byte) : Statement (.clearFault t tag) := of_made rfl
theorem readPan (t : Time) (tag slot : Byte) : Statement (.readPan t tag slot) := of_made rfl
theorem readCoil (t : Time) (tag coil : Byte) : Statement (.readCoil t tag coil) := of_made rfl
theorem readFault (t : Time) (tag : Byte) : Statement (.readFault t tag) := of_made rfl
theorem loadProgram (t : Time) (tag handle count : Byte) : Statement (.loadProgram t tag handle count) := of_made rfl
theorem runProgram (t : Time) (tag handle : Byte) : Statement (.runProgram t tag handle) := of_made rfl
theorem writeTable (t : Time) (tag table start count : Byte) : Statement (.writeTable t tag table start count) := of_made rfl
theorem readTable (t : Time) (tag table start count : Byte) : Statement (.readTable t tag table start count) := of_made rfl
theorem commitTables (t : Time) (tag : Byte) : Statement (.commitTables t tag) := of_made rfl
theorem recallTables (t : Time) (tag : Byte) : Statement (.recallTables t tag) := of_made rfl
theorem serviceEnter (t : Time) (tag : Byte) (strap : Bool) : Statement (.serviceEnter t tag strap) := of_made rfl
theorem serviceExit (t : Time) (tag : Byte) : Statement (.serviceExit t tag) := of_made rfl
theorem disableCoil (t : Time) (tag coil : Byte) : Statement (.disableCoil t tag coil) := of_made rfl
theorem enableCoil (t : Time) (tag coil : Byte) : Statement (.enableCoil t tag coil) := of_made rfl
theorem setDerate (t : Time) (tag board value : Byte) : Statement (.setDerate t tag board value) := of_made rfl
theorem illegalOrder (t : Time) (tag code : Byte) : Statement (.illegalOrder t tag code) := of_made rfl
theorem data (t : Time) (tag : Byte) (payload : Payload) : Statement (.data t tag payload) := of_made rfl
theorem heat (t : Time) (handle action level : Byte) : Statement (.heat t handle action level) := of_made rfl
theorem abort (t : Time) (tag : Byte) : Statement (.abort t tag) := of_made rfl
theorem keepalive (t : Time) : Statement (.keepalive t) := of_made rfl
theorem setLevel : Statement .setLevel := of_none rfl
theorem pause : Statement .pause := of_none rfl
theorem resume : Statement .resume := of_none rfl
theorem upstreamTransmit : Statement .upstreamTransmit := of_none rfl
theorem boardTransmit (b : BoardId) (t : Time) : Statement (.boardTransmit b t) := of_none rfl
theorem sense (b : BoardId) (cell : SenseCell) : Statement (.sense b cell) := of_made rfl
theorem ident (b : BoardId) (t : Time) (cell : IdentCell) : Statement (.ident b t cell) := of_made rfl
theorem memberRelease : Statement .memberRelease := of_none rfl
theorem becameSensed : Statement .becameSensed := of_none rfl
theorem sensedReleased : Statement .sensedReleased := of_none rfl
theorem materialChanged : Statement .materialChanged := of_none rfl
theorem heatLift : Statement .heatLift := of_none rfl
theorem heatReturn : Statement .heatReturn := of_none rfl
theorem heatRetirement : Statement .heatRetirement := of_none rfl
theorem heatMaterialChange : Statement .heatMaterialChange := of_none rfl
theorem heatHobHalt : Statement .heatHobHalt := of_none rfl
theorem heatStopHob : Statement .heatStopHob := of_none rfl
theorem heatStartHob : Statement .heatStartHob := of_none rfl
theorem recompute : Statement .recompute := of_none rfl
theorem rebuildRequest : Statement .rebuildRequest := of_none rfl
theorem placeComplete : Statement .placeComplete := of_none rfl
theorem endOfCheck : Statement .endOfCheck := of_none rfl
theorem offer : Statement .offer := of_none rfl
theorem swapNotice : Statement .swapNotice := of_none rfl
theorem discard : Statement .discard := of_none rfl
theorem haltCause : Statement .haltCause := of_none rfl
theorem halt : Statement .halt := of_none rfl
theorem hobEnteredHalted : Statement .hobEnteredHalted := of_none rfl
theorem clearHalt : Statement .clearHalt := of_none rfl
theorem releaseNotice : Statement .releaseNotice := of_none rfl
theorem offNowRequest : Statement .offNowRequest := of_none rfl
theorem mainsLossPost : Statement .mainsLossPost := of_none rfl
theorem protectionBoardOut (b : BoardId) : Statement (.protectionBoardOut b) := of_none rfl
theorem protectionBoardIn (b : BoardId) : Statement (.protectionBoardIn b) := of_none rfl
theorem boardRemoval (b : BoardId) : Statement (.boardRemoval b) := of_none rfl
theorem coilBoardOut (b : BoardId) : Statement (.coilBoardOut b) := of_none rfl
theorem coilBoardIn (b : BoardId) : Statement (.coilBoardIn b) := of_none rfl
theorem coilLegOut : Statement .coilLegOut := of_none rfl
theorem coilLegIn : Statement .coilLegIn := of_none rfl
theorem hotClaim : Statement .hotClaim := of_none rfl
theorem coolClaim : Statement .coolClaim := of_none rfl
theorem snapshotComplete : Statement .snapshotComplete := of_none rfl

end Cells

end Sys2Proof.Laws
end

