-- ==== Sys2Proof/Tests/Slice0.lean ====
section
/-! SUPPORT. Tests: the checks of WellFormed on ill-formed terms, the worked figures of the spec, one step of some commands, and for every
statement with hypotheses states and operands that meet them, clause by clause, at boundary values. -/

namespace Sys2Proof.Tests

open Machine

set_option Elab.async false

/-! ### States -/

/-- A READY hub with nothing placed. -/
def ready : State := { State.reset with sup := ⟨.aboveOp, false, false, .ready, true⟩ }
/-- The supply below V_dig. -/
def dark : State := { State.reset with sup := ⟨.belowDig, false, false, .dormant, false⟩ }
/-- A start-up recall in progress. -/
def starting : State := { ready with sup := ⟨.aboveOp, false, false, .recalling, true⟩, ts := { State.reset.ts with recalling := true } }
/-- SUPPLY LOW. -/
def supplyLow : State := { ready with sup := ⟨.belowOp, false, false, .supplyLow, true⟩ }

/-- Three coils in a row on three legs of board 0, and one coil on board 1. -/
def rowNeighbours (k : CoilId) : List CoilId := if k = 0 then [4] else if k = 4 then [0, 8] else if k = 8 then [4] else []
/-- Tables for them. -/
def work : Tables :=
  { Config.tablesReset with
    t0 := #v[⟨true, .l1⟩, ⟨true, .l2⟩, ⟨false, .l1⟩, ⟨false, .l1⟩]
    t1 := Vector.ofFn fun k =>
      if k = 0 ∨ k = 4 ∨ k = 8 ∨ k = 16 then ⟨true, 10 * k.val, 50, 0⟩ else ⟨false, 0, 0, 0⟩
    t2 := Vector.ofFn rowNeighbours }
/-- Tables that row 1 refuses: coil 0 lists coil 4, which does not list coil 0. -/
def brokenWork : Tables := { work with t2 := Vector.ofFn fun k => if k = 0 then [4] else [] }

/-- A coil record with a ferritic base over it. -/
def coil (o : Occupancy) (p : Option PanSlot) (coverage : Nat) : CoilRecord :=
  { CoilRecord.reset with occupancy := o, owner := p, coverage := coverage, material := .ferritic, fireMet := true }
/-- Coils 0 and 4 in pan slot 0, coil 8 contested, coil 16 vacant. -/
def fourCoils : Vector CoilRecord 64 :=
  Vector.ofFn fun k =>
    if k = 0 ∨ k = 4 then coil .member (some 0) 150 else if k = 8 then coil .sensed none 100
    else if k = 16 then coil .vacant none 0 else .reset
/-- A PLACED pan of generation 3 on coils 0 and 4, at level 9. -/
def placedPan : PanRecord :=
  { PanRecord.reset with
    pres := { PresencePart.freed 3 with
              presence := .placed, members := [0, 4], x := 20, y := 50, area := 300, material := .ferritic
              signature := some ⟨20, 50, 300, .ferritic⟩ }
    heat := { HeatPart.idle with state := .level, level := 9 }
    program := [⟨9, 60, .next⟩, ⟨4, 0, .next⟩]
    alloc := ⟨1600, 1600, 0, 1500, 1500, 9, some (9, 9)⟩ }
/-- A board in service. -/
def onlineBoard : BoardPort := { BoardPort.reset with state := .online, requestTime := some 0 }

/-- A RUNNING hob on LOCKED mains with that pan, in slot 3 of a frame; the next slot fires coil 0. -/
def hob : State :=
  { ready with
    ts := ⟨work, true, false, none, false, Config.tablesReset, Vector.replicate 7 false⟩
    coils := fourCoils
    pans := Vector.ofFn fun p => if p = 0 then placedPan else .reset
    hs := ⟨[0], [], [], []⟩
    ss := { Scheduler.reset with bankA := (emptyBank 16).set 4 [⟨0, 0, 100⟩] }
    fe := { FrameEngine.reset with
            hob := .running, lock := .locked, lastCrossing := some 0, frameOpen := true, slotIndex := 3, serial := 7, frameCount := 2 }
    pu := { Protection.reset with
            legs := Vector.ofFn fun l => if l.val < 8 then { LegRecord.reset with state := .ready } else .reset }
    boards := #v[onlineBoard, onlineBoard, .reset, .reset]
    cp := { ControllerPort.reset with silence := some 0 } }
/-- The same hob, STOPPED. -/
def stopped : State := { hob with fe := { hob.fe with hob := .stopped }, cp := .reset }
/-- The same hob, HALTED. -/
def halted : State := { stopped with fe := { stopped.fe with hob := .halted } }

/-- The hob with another pan record in slot 0. -/
def withPan (f : PanRecord → PanRecord) : State := hob.modPan 0 f
/-- The hob with another presence part in slot 0. -/
def withPres (f : PresencePart → PresencePart) : State := hob.modPres 0 f
/-- The hob with another heat part in slot 0. -/
def withHeat (f : HeatPart → HeatPart) : State := hob.modHeat 0 f
/-- The hob with other items of the Controller Port. -/
def withCp (f : ControllerPort → ControllerPort) : State := hob.modCp f
/-- The hob with posts waiting. -/
def withPosts (f : Posts → Posts) : State := hob.modPosts f
/-- The hob with another port of board 0. -/
def withBoard (f : BoardPort → BoardPort) : State := hob.modBoard 0 f
/-- The hob with other items of the Frame Engine. -/
def withFe (f : FrameEngine → FrameEngine) : State := hob.modFe f
/-- The hob with other items of the Slot Scheduler. -/
def withSs (f : Scheduler → Scheduler) : State := hob.modSs f
/-- The hob with an order in progress. -/
def inOrder (state : OrderState) (o : Order) (credit : Nat) : State :=
  withCp fun cp => { cp with state := state, order := some o, credit := credit }

/-- An order cell for which no data is expected. -/
def plainOrder : Order := ⟨8, 7, 0, 0, .plain⟩

/-- The state a command answers. -/
def after (i : Instr) (s : State) : State :=
  match exec i s with
  | .next u => u
  | .fault e => nomatch e
  | .refused _ => s

/-! ### WellFormed -/

theorem test_wf_illegalOrder : (Instr.illegalOrder 0 1 22).wf = false ∧ (Instr.illegalOrder 0 1 23).wf = true := by decide
theorem test_wf_cellCheckFailed : (Instr.cellCheckFailed .controller (orderCell 1 6 [])).wf = false := by decide +kernel
theorem test_wf_cellCheckFailed_ok :
    (Instr.cellCheckFailed .controller ((orderCell 1 6 []).set 14 0)).wf = true := by decide +kernel
theorem test_wf_sense : (Instr.sense 0 ⟨0, 4, 0, 0, 0, 0, 0, 0, 0, false, false, 0⟩).wf = false := by decide
theorem test_wf_ident : (Instr.ident 0 0 ⟨0x41, 4, 16, 3⟩).wf = false := by decide

/-! ### Worked figures of the spec -/

/-- spec/00_scope.md section 3.1: coil 37. -/
theorem test_coil37 : coilBoard 37 = 2 ∧ coilLeg 37 = 9 ∧ coilLocal 37 = 1 ∧ coilSelector 37 = 1 := by decide
/-- Section 1.5.1: the five measurements of a medium coil. -/
theorem test_ranges :
    (measuredV .probe .fine 3100 390, measuredRange .probe .fine 3100) = (3100, .fine) ∧
      (measuredV .probe .fine 3700 470, measuredRange .probe .fine 3700) = (3760, .coarse) ∧
      (measuredV .probe .coarse 3300 420, measuredRange .probe .coarse 3300) = (3360, .coarse) ∧
      (measuredV .probe .coarse 3000 380, measuredRange .probe .coarse 3000) = (3000, .fine) ∧
      (measuredV .firing .fine 0 1500, measuredRange .firing .fine 0) = (12000, .fine) := by decide
/-- Sections 1.5.1 and 1.6: coverage. -/
theorem test_coverage :
    [3100, 3760, 3360, 3000, 12000, 7300, 5290, 5289].map (coverageOf 600 14000) = [37, 47, 41, 35, 170, 100, 70, 69] ∧
      coverageOf 400 9000 3000 = 60 ∧ coverageOf 800 20000 3000 = 22 := by decide
/-- Section 4.10: the claims of the three pans. -/
def threeClaims (p : PanSlot) : Claim := if p = 6 then ⟨8000, 0, 3300⟩ else if p = 1 then ⟨2800, 2800, 3700⟩ else ⟨0, 4200, 2500⟩
theorem test_grants :
    grants threeClaims ⟨3680, 3680, 7360⟩ [6, 1, 3] = [(6, 3300), (1, 760), (3, 2500)] ∧
      grants threeClaims ⟨3680, 3680, 7360⟩ [1, 6, 3] = [(1, 3700), (6, 1830), (3, 1830)] := by decide
theorem test_effectiveLevel :
    effectiveLevel Config.tablesReset 760 15 = 5 ∧ effectiveLevel Config.tablesReset 1830 14 = 10 ∧
      effectiveLevel Config.tablesReset 99 9 = 0 := by decide +kernel
/-- R80: the table of outcomes. -/
theorem test_levelChanged :
    levelChanged (9, 9) (9, 9) = false ∧ levelChanged (12, 12) (12, 4) = true ∧ levelChanged (9, 9) (9, 6) = true ∧
      levelChanged (9, 6) (9, 7) = true ∧ levelChanged (9, 6) (12, 6) = true ∧ levelChanged (9, 6) (9, 9) = true ∧
      levelChanged (5, 5) (9, 9) = false := by decide
/-- Section 4.11: the buckets of one board. -/
theorem test_buckets :
    ([72, 76, 81, 79, 78, 77, 74, 72, 60] : List Int).foldl (fun a t => a ++ [bucketAfter (a.getLast?.getD 14) t]) [] =
      [14, 15, 16, 16, 16, 15, 15, 14, 12] := by decide
/-- Sections 5.4 to 5.6: the pans placed. -/
def snapOf (pans : List SnapPan) (n : List (CoilId × List CoilId)) : Snapshot := ⟨16, pans, 3680, 3680, 7360, #v[.l1, .l1, .l2, .l2], n⟩
def level9Pan : SnapPan := ⟨2, 1500, [(20, 1400), (21, 1400), (24, 1400), (28, 1400)], 300, 1200⟩
def level2Pan : SnapPan := ⟨5, 200, [(33, 1400), (37, 1400)], 300, 600⟩
def built (n : Snapshot) : Bank × List BuildResult := placeAll n (emptyBank 16, []) n.pans
theorem test_place_level9 : (built (snapOf [level9Pan] [])).2 = [⟨2, 370, 48, 16⟩] := by decide +kernel
theorem test_place_level2 :
    (built (snapOf [{ level9Pan with pan := 5, g := 200, ceiling := 600 }] [])).1.map (·.map (·.coil)) =
      [[21], [24, 20], [28, 21, 24], [28, 20], [21], [], [], [], [], [], [], [], [], [], [], [20]] := by decide +kernel
theorem test_place_neighbours :
    (built (snapOf [level9Pan, level2Pan] [(28, [33]), (33, [28])])).2 = [⟨2, 370, 48, 16⟩, ⟨5, 300, 5, 5⟩] ∧
      (built (snapOf [level2Pan, level9Pan] [(28, [33]), (33, [28])])).2 = [⟨5, 300, 10, 0⟩, ⟨2, 370, 43, 21⟩] := by decide +kernel
/-- R178: the check of a KEEPALIVE cell holds and one bit off does not. -/
theorem test_check : checkHolds (mkCell 0x05 0 (payload [])) = true ∧ checkHolds ((mkCell 0x05 0 (payload [])).set 0 0x04) = false := by
  decide +kernel
/-- Section 11.1: a handle byte. -/
theorem test_handle : handleByte 6 9 = 0x69 ∧ handleSlot 0xE9 = 6 ∧ handleGen 0xE9 = 9 := by decide
/-- R171: the orientation. -/
theorem test_orient :
    orient { work with t6 := work.t6.set 16 1 } 100 50 = (973, 100) ∧ orient { work with t6 := work.t6.set 17 1 } 100 50 = (923, 50) := by
  decide +kernel

/-! ### One step -/

theorem test_keepalive : after (.keepalive 500) hob = { hob with now := 500, cp := { hob.cp with silence := some 500 } } := by
  decide +kernel
theorem test_slot_fires :
    ((after (.zeroCrossing 10000) hob).boards[0].txDrive.map fun d => (d.serial, d.kind, d.legs[0])) = some (8, .active, .fire 0 100 0) := by
  decide +kernel
theorem test_emission_keeps : (emission { hob with fe := { hob.fe with slotIndex := 4 } }).kept = [⟨0, 0, 100⟩] := by decide +kernel
theorem test_setLevel_zero :
    ((after .setLevel (withCp fun cp => { cp with heatQueue := [⟨0x03, .setLevel, 0⟩] })).pans[0].heat,
      (after .setLevel (withCp fun cp => { cp with heatQueue := [⟨0x03, .setLevel, 0⟩] })).hs.requests) = (HeatPart.idle, []) := by
  decide +kernel
theorem test_recompute :
    ((after .recompute (withPosts fun q => { q with triggers := [.recalled] })).pans[0].alloc) = ⟨1600, 1600, 0, 1500, 1500, 9, some (9, 9)⟩ := by
  decide +kernel
theorem test_becameSensed_joins :
    (after .becameSensed (withPosts fun q => { q with coilEvents := [.becameSensed 8 .ferritic] })).pans[0].pres.members = [0, 4, 8] := by
  decide +kernel
theorem test_boot :
    (after .recallComplete starting).sup.hub = .ready ∧ (after .recallComplete starting).ts.valid = false := by decide +kernel

/-! ### Witnesses: states and operands that meet the hypotheses of each statement -/

theorem test_witness_StepTakesTheFrontCommand :
    { ready with pending := [.keepalive 5, .stepEnd] }.pending = .keepalive 5 :: [.stepEnd] ∧ ready.pending = [] := by decide +kernel

theorem test_witness_TailsFinishFirst :
    { hob with pt := { hob.pt with graceDue := [1] } }.sup.level ≠ .belowDig ∧ TakesTail .timeBaseSecond = false ∧
      dark.sup.level = .belowDig ∧ ActsOnPins .timeBaseSecond = false := by decide +kernel

theorem test_witness_ResetsLeaveTheStoreOnly :
    Settled hob ∧ (Drained ready ∧ ready.sup.seenReleased = true) ∧ (Drained State.reset ∧ State.reset.sup.seenReleased = false) ∧
      dark.sup.level = .belowDig := by decide +kernel

/-- A commit in progress. -/
def committing (table : Fin 7) (row : Nat) : State :=
  { inOrder .completing ⟨16, 7, 0, 0, .plain⟩ 0 with ts := { hob.ts with commit := some ⟨table, row⟩ } }

theorem test_witness_SupplyAcrossVDig :
    ((committing 2 7).sup.level ≠ .belowDig ∧ Drained (committing 2 7)) ∧ dark.sup.level = .belowDig ∧ dark.ts.commit = none ∧
      Settled hob := by decide +kernel

theorem test_witness_SupplyRises :
    (Settled State.reset ∧ State.reset.sup.level = .belowOp ∧ State.reset.sup.hub = .dormant ∧ State.reset.sup.resetLine = false) ∧
      (let s : State := { State.reset with sup := { State.reset.sup with resetLine := true } };
        Settled s ∧ s.sup.level = .belowOp ∧ s.sup.hub = .dormant ∧ s.sup.resetLine = true) ∧
      (Settled supplyLow ∧ supplyLow.sup.level = .belowOp ∧ supplyLow.sup.hub = .supplyLow) ∧
      (Settled ready ∧ ready.sup.level = .aboveOp) := by decide +kernel

/-- RECALL TABLES in progress. -/
def recalling : State := { inOrder .completing plainOrder 0 with ts := { hob.ts with recalling := true } }

theorem test_witness_SupplyFalls :
    (Settled hob ∧ hob.sup.level = .aboveOp ∧ hob.sup.hub = .ready ∧ hob.ts.commit = none ∧ hob.ts.recalling = false) ∧
      (Settled (committing 2 7) ∧ (committing 2 7).sup.level = .aboveOp ∧ (committing 2 7).sup.hub = .ready ∧
        (committing 2 7).ts.commit.isSome = true) ∧
      (Settled recalling ∧ recalling.sup.hub = .ready ∧ recalling.ts.commit = none ∧ recalling.ts.recalling = true ∧
        recalling.cp.order = some plainOrder) ∧
      (Settled starting ∧ starting.sup.level = .aboveOp ∧ starting.sup.hub = .recalling) ∧
      (let s : State := { ready with sup := ⟨.aboveOp, true, false, .dormant, true⟩ };
        Settled s ∧ s.sup.level = .aboveOp ∧ s.sup.hub = .dormant) ∧
      (Settled State.reset ∧ State.reset.sup.level = .belowOp) := by decide +kernel

/-- Service mode, with one board not yet configured in the ports and one to be closed. -/
def service (w : Tables) : State :=
  { stopped with
    ts := { stopped.ts with work := w, service := true, valid := false }
    coils := stopped.coils.set 16 .reset
    boards := (stopped.boards.set 1 .reset).set 3 onlineBoard }

theorem test_witness_StrapReleaseForcesExit :
    (Settled ready ∧ ready.ts.service = false) ∧ (Settled (service work) ∧ (service work).ts.service = true) ∧
      ((validate (service brokenWork).ts.work).isSome = true ∧ (service brokenWork).coils[0].occupancy ≠ .absent) ∧
      ((validate (service work).ts.work).isNone = true ∧ (service work).ts.work.t1[16].present = true ∧
        (service work).coils[16].occupancy = .absent ∧ (service work).ts.work.t1[63].present = false) := by decide +kernel

/-- LOCKING with a count, the last crossing at 0. -/
def locking (count : Nat) (h : HubState) : State :=
  { withFe fun fe => { fe with lock := .locking, lockCount := count } with sup := { hob.sup with hub := h } }
/-- UNLOCKED. -/
def unlocked : State := withFe fun fe => { fe with lock := .unlocked }

theorem inWindow_iff (s : State) (t : Nat) (h : s.fe.lastCrossing = some (0 : Nat)) (f : s.fe.freq = 50) :
    InWindow s t ↔ 8800 ≤ t ∧ t ≤ 11200 := by
  constructor
  · rintro ⟨l, hl, h1, h2⟩
    rw [h, Option.some.injEq] at hl
    subst hl
    rw [f, if_neg (by decide)] at h1 h2
    have h3 : 88 * 10000 ≤ 100 * (t - 0) := h1
    have h4 : 100 * (t - 0) ≤ 112 * 10000 := h2
    omega
  · rintro ⟨h1, h2⟩
    have h3 : 88 * 10000 ≤ 100 * (t - 0) := by omega
    have h4 : 100 * (t - 0) ≤ 112 * 10000 := by omega
    refine ⟨0, h, ?_, ?_⟩ <;> rw [f, if_neg (by decide)]
    · exact h3
    · exact h4

theorem test_witness_CrossingsBringLock :
    (Settled unlocked ∧ unlocked.fe.lock = .unlocked) ∧
      (Settled (locking 3 .ready) ∧ (locking 3 .ready).fe.lock = .locking ∧ ¬ InWindow (locking 3 .ready) (max 0 8799)) ∧
      (InWindow (locking 6 .ready) (max 0 8800) ∧ (locking 6 .ready).fe.lockCount < 7) ∧
      (Settled (locking 7 .supplyLow) ∧ InWindow (locking 7 .supplyLow) (max 0 11200) ∧ 7 ≤ (locking 7 .supplyLow).fe.lockCount ∧
        (locking 7 .supplyLow).sup.hub ≠ .ready) ∧
      (let s : State := { hob with sup := supplyLow.sup };
        Settled s ∧ s.fe.lock = .locked ∧ InWindow s (max 0 11200) ∧ s.sup.hub ≠ .ready) := by
  refine ⟨by decide +kernel, ⟨by decide +kernel, by decide +kernel, ?_⟩, ⟨?_, by decide +kernel⟩, ⟨by decide +kernel, ?_, by decide +kernel, by decide +kernel⟩,
    ⟨by decide +kernel, by decide +kernel, ?_, by decide +kernel⟩⟩ <;> rw [inWindow_iff _ _ rfl rfl] <;> decide

theorem test_witness_LossOfLock :
    (Settled hob ∧ hob.fe.lock = .locked ∧ ¬ InWindow hob (max 0 11201)) ∧ Silent hob (max 0 12500) ∧ ¬ Silent hob (max 0 12499) ∧
      (Settled (locking 3 .ready) ∧ Silent (locking 3 .ready) (max 0 12500)) ∧ unlocked.fe.lock = .unlocked := by
  refine ⟨⟨by decide +kernel, by decide +kernel, ?_⟩, ⟨0, rfl, by decide +kernel⟩, ?_, ⟨by decide +kernel, ⟨0, rfl, by decide +kernel⟩⟩,
    by decide +kernel⟩
  · rw [inWindow_iff _ _ rfl rfl]; decide
  · rintro ⟨l, hl, h⟩
    obtain rfl : 0 = l := Option.some.inj hl
    revert h
    decide +kernel

theorem test_witness_TimersPostTheirEvents :
    (let s := withFe fun fe => { fe with unlockTimer := some 5 };
      Settled s ∧ s.fe.unlockTimer = some 5 ∧ 2000000 ≤ max s.now 2000005 - 5 ∧ max s.now 2000004 - 5 < 2000000) ∧
      hob.fe.unlockTimer = none ∧ hob.cp.silence = some 0 ∧ hob.cp.timeout * 1000 ≤ max hob.now 500000 - 0 ∧
      max hob.now 499999 - 0 < hob.cp.timeout * 1000 ∧ ready.cp.silence = none := by decide +kernel

theorem test_witness_SlotStarts :
    Settled hob ∧ hob.sup.hub = .ready ∧ hob.fe.lock = .locked ∧ InWindow hob (max hob.now 10000) ∧ hob.boards[2].state ≠ .online ∧
      hob.boards[0].state = .online ∧ hob.boards[0].slot = none := by
  refine ⟨by decide +kernel, by decide +kernel, by decide +kernel, ?_, by decide +kernel, by decide +kernel, by decide +kernel⟩
  rw [inWindow_iff _ _ rfl rfl]
  decide +kernel

theorem test_witness_EmissionStaysWithinLimits :
    let s : State := { hob with fe := { hob.fe with slotIndex := 4 } }
    (⟨0, 0, 100⟩ : Firing) ∈ (emission s).kept ∧ driveLeg s (emission s).kept 0 0 = .fire 0 100 0 := by decide +kernel

/-- Three BUSY statuses wait. -/
def crowded : State := withCp fun cp => { cp with order := some plainOrder, statuses := List.replicate 3 ⟨1, .busy, .noSense, false⟩ }

theorem test_witness_OrdersTurnedAwayOrIllegal :
    (orderParts (.startHob 5 9) = some (5, 9, 6) ∧ Settled starting ∧ starting.sup.hub ≠ .ready ∧ 6 ≠ 1) ∧
      (orderParts (.identifyHub 5 9) = some (5, 9, 1) ∧ Settled crowded ∧ crowded.cp.order.isSome = true) ∧
      (crowded.cp.statuses.filter fun c => !c.own).length = 3 ∧ OrderFree ready := by decide +kernel

theorem test_witness_ReadOrdersReply :
    (Settled starting ∧ starting.cp.order = none) ∧ OrderFree hob ∧ (63#8).toNat < 64 ∧ 64 ≤ (64#8).toNat ∧ (7#8).toNat < 8 ∧
      8 ≤ (8#8).toNat ∧ 7 ≤ (7#8).toNat ∧ lastEntry 0 < (4#8).toNat ∧ ((3#8).toNat ≤ lastEntry 0 ∧ lastEntry 0 + 1 < (5#8).toNat) ∧
      (0 < (4#8).toNat ∧ (4#8).toNat ≤ lastEntry 0 + 1) := by decide +kernel

theorem test_witness_SetPaceAgrees :
    OrderFree hob ∧
      (let s := withCp fun cp => { cp with order := some ⟨3, 7, 0, 0, .pace 2 100⟩, dataIn := [payload [2]] };
        Settled s ∧ s.cp.statuses = [] ∧ s.cp.pendingCredit = 0 ∧ s.cp.order = some ⟨3, 7, 0, 0, .pace 2 100⟩ ∧
          s.cp.dataIn = [payload [2]]) ∧
      (let s := withCp fun cp => { cp with order := some ⟨3, 7, 0, 0, .pace 2 100⟩, statuses := [⟨7, .good, .noSense, true⟩] };
        Settled s ∧ s.cp.statuses = [⟨7, .good, .noSense, true⟩]) := by decide +kernel

theorem test_witness_NoticesAreBookedAndQueued :
    (ControllerPort.reset.mask.getLsbD (NoticeKind.hobHalted.code - 1) = true ∧ (0#20).getLsbD (NoticeKind.hobHalted.code - 1) = false) ∧
      (List.replicate 31 (⟨.hobHalted, 0, 0, 0, 0, false⟩ : Notice)).length < 32 ∧
      32 ≤ (List.replicate 32 (⟨.hobHalted, 0, 0, 0, 0, false⟩ : Notice)).length ∧ OrderFree hob := by decide +kernel

theorem test_witness_StartAndStopHobAreJudged :
    (OrderFree hob ∧ hob.fe.hob ≠ .stopped ∧ hob.fe.hob = .running) ∧ (OrderFree (service work) ∧ (service work).fe.hob = .stopped ∧ (service work).ts.service = true) ∧
      (OrderFree ready ∧ ready.fe.hob = .stopped ∧ ready.ts.service = false ∧ ready.ts.valid = false) ∧
      (let s : State := { stopped with boards := Vector.replicate 4 .reset };
        OrderFree s ∧ s.ts.valid = true ∧ ∀ b : BoardId, s.ts.work.t0[b].configured = true → s.boards[b].state ≠ .online) ∧
      (OrderFree stopped ∧ stopped.ts.service = false ∧ stopped.ts.valid = true ∧
        ∃ b : BoardId, stopped.ts.work.t0[b].configured = true ∧ stopped.boards[b].state = .online) := by decide +kernel

/-- The hob with other leg records. -/
def withLeg (l : LegId) (r : LegRecord) : State := hob.modLeg l fun _ => r

theorem test_witness_ClearFaultClears :
    OrderFree (withLeg 1 ⟨.locked, 3, some 1, none, false⟩) ∧ (withLeg 1 ⟨.locked, 3, some 1, none, false⟩).pu.legs[1].state = .locked := by
  decide +kernel

theorem test_witness_ProgramOrdersAreJudged :
    (OrderFree hob ∧ (0#8).toNat = 0 ∧ 8 < (9#8).toNat ∧ 0 < (1#8).toNat ∧ (8#8).toNat ≤ 8) ∧ handleCurrent hob 0x04 = false ∧
      (let s := withPres fun r => { r with presence := .forming };
        OrderFree s ∧ handleCurrent s 0x03 = true ∧ s.pans[handleSlot 0x03].pres.presence.standing = false) ∧
      (let s := withHeat fun h => { h with state := .paused, prior := some .program };
        OrderFree s ∧ handleCurrent s 0x03 = true ∧ s.pans[handleSlot 0x03].pres.presence.standing = true ∧
          s.pans[handleSlot 0x03].heat.state = .paused ∧ s.pans[handleSlot 0x03].heat.prior = some .program) ∧
      (handleCurrent hob 0x03 = true ∧ hob.pans[handleSlot 0x03].pres.presence.standing = true ∧
        hob.pans[handleSlot 0x03].heat.state ≠ .program ∧ hob.pans[handleSlot 0x03].heat.state ≠ .paused) := by decide +kernel

theorem test_witness_RunProgramIsJudged :
    (let s := withPan fun r => { r with program := [] };
      OrderFree s ∧ handleCurrent s 0x03 = true ∧ s.pans[handleSlot 0x03].program = []) ∧
      (OrderFree stopped ∧ handleCurrent stopped 0x03 = true ∧ stopped.pans[handleSlot 0x03].program = ⟨9, 60, .next⟩ :: [⟨4, 0, .next⟩] ∧
        stopped.fe.hob ≠ .running) ∧
      (let s := withPres fun r => { r with presence := .forming };
        OrderFree s ∧ handleCurrent s 0x03 = true ∧ s.fe.hob = .running ∧ s.pans[handleSlot 0x03].pres.presence.standing = false) ∧
      (let s := withPres fun r => { r with material := .unsuitable };
        OrderFree s ∧ handleCurrent s 0x03 = true ∧ s.pans[handleSlot 0x03].pres.presence.standing = true ∧
          s.pans[handleSlot 0x03].pres.material = .unsuitable) ∧
      (handleCurrent hob 0x03 = true ∧ hob.fe.hob = .running ∧ hob.pans[handleSlot 0x03].pres.material ≠ .unsuitable) := by decide +kernel

theorem test_witness_WriteTableIsJudged :
    OrderFree hob ∧ 7 ≤ (7#8).toNat ∧ (4#8).toNat < 7 ∧ 3 < (4#8).toNat ∧ (0#8).toNat < 1 ∧ ((1#8).toNat ≤ 15 ∧ 1 ≤ (1#8).toNat ∧ 15 < (16#8).toNat) ∧
      ((3#8).toNat ≤ 3 ∧ 0 < (4#8).toNat ∧ (4#8).toNat ≤ 4 ∧ hob.ts.service = false) ∧ OrderFree (service work) ∧
      (service work).ts.service = true := by decide +kernel

theorem test_witness_ServiceOrdersValidateTheTables :
    validate brokenWork = some (1, 0) ∧ validate work = none ∧ (OrderFree hob ∧ hob.fe.hob = .running) ∧
      (OrderFree stopped ∧ stopped.fe.hob ≠ .running ∧ stopped.ts.service = false) ∧ OrderFree (service brokenWork) ∧
      (OrderFree (service work) ∧ (service work).ts.service = true) ∧ (service work).ts.work.t0[3].configured = false ∧
      ((service work).ts.work.t0[1].configured = true ∧ (service work).boards[1].state = .unconfigured) ∧
      (service work).boards[0].state ≠ .unconfigured := by decide +kernel

theorem test_witness_CommitWritesTheStore :
    (OrderFree (service work) ∧ (service work).ts.service = true) ∧ (OrderFree ready ∧ ready.ts.service = false ∧ ready.ts.valid = false) ∧
      (OrderFree hob ∧ hob.ts.valid = true) ∧ (Settled hob ∧ hob.ts.commit = none) ∧
      (Settled (committing 2 30) ∧ (committing 2 30).ts.commit = some ⟨2, 30⟩ ∧ (committing 2 30).cp.order = some ⟨16, 7, 0, 0, .plain⟩ ∧
        (committing 2 30).cp.aborting = false ∧ 30 + 1 < 32 ∧ 32 ≤ 31 + 1) ∧
      ((3 : Fin 7).val = (2 : Fin 7).val + 1 ∧ (committing 6 2).ts.commit = some ⟨6, 2⟩ ∧ 3 ≤ 2 + 1) ∧
      ((committing 2 30).modCp fun cp => { cp with aborting := true }).cp.aborting = true := by decide +kernel

theorem test_witness_RecallReloadsTheTables :
    (OrderFree hob ∧ hob.fe.hob = .running) ∧ (OrderFree (service work) ∧ (service work).fe.hob ≠ .running ∧ (service work).ts.service = true) ∧
      (OrderFree stopped ∧ stopped.fe.hob ≠ .running ∧ stopped.ts.service = false) ∧ (Settled hob ∧ hob.ts.recalling = false) ∧
      (Settled starting ∧ starting.ts.recalling = true ∧ starting.cp.state ≠ .completing) ∧
      (Settled recalling ∧ recalling.cp.state = .completing ∧ recalling.cp.order = some plainOrder ∧ recalling.cp.aborting = false) ∧
      (recalling.modCp fun cp => { cp with aborting := true }).cp.aborting = true := by decide +kernel

theorem test_witness_CoilAndDerateOrdersAreJudged :
    OrderFree hob ∧ 64 ≤ (64#8).toNat ∧ ((63 : CoilId).val = (63#8).toNat ∧ hob.coils[63].occupancy = .absent) ∧
      ((0 : CoilId).val = (0#8).toNat ∧ hob.coils[0].occupancy ≠ .absent) ∧ 4 ≤ (4#8).toNat ∧ (3 : BoardId).val = (3#8).toNat ∧
      (128 < (129#8).toNat ∧ (254#8).toNat < 255) ∧ (128#8).toNat ≤ 128 ∧ (255#8).toNat = 255 := by decide +kernel

/-- WRITE TABLE of five entries of T5, three taken. -/
def writing (credit taken : Nat) : State := inOrder .dataOut ⟨14, 7, 5, taken, .table 5 14⟩ credit
/-- WRITE TABLE of T1. -/
def writingT1 : State := inOrder .dataOut ⟨14, 7, 5, 0, .table 1 0⟩ 1

theorem test_witness_TableEntriesAreTaken :
    (Settled hob ∧ hob.cp.order = none) ∧ (Settled (writing 1 3) ∧ (writing 1 3).cp.state = .dataOut ∧ (writing 1 3).cp.order = some ⟨14, 7, 5, 3, .table 5 14⟩) ∧
      (writing 0 3).cp.credit = 0 ∧ (0 < writingT1.cp.credit ∧ writingT1.ts.service = false) ∧ writeEntry work 5 17 (payload [129]) = none ∧
      (writeEntry work 5 17 (payload [128])).isSome = true ∧ 3 + 1 < 5 ∧ 5 ≤ 4 + 1 := by decide +kernel

/-- LOAD PROGRAM of two steps. -/
def loading (handle : Byte) (taken : Nat) : State := inOrder .dataOut ⟨12, 7, 2, taken, .program handle⟩ 1

theorem test_witness_ProgramStepsAreHeld :
    (Settled (loading 0x03 0) ∧ (loading 0x03 0).cp.state = .dataOut ∧ (loading 0x03 0).cp.order = some ⟨12, 7, 2, 0, .program 0x03⟩ ∧
        0 < (loading 0x03 0).cp.credit) ∧
      (payload [16])[0].toNat ≥ 16 ∧ (payload [0, 0, 0, 3])[3].toNat > 2 ∧
      ((15 : Level).val = (payload [15, 0, 60, 2])[0].toNat ∧ (60 : Nat) = (payload [15, 0, 60, 2])[1].toNat * 256 + (payload [15, 0, 60, 2])[2].toNat ∧
        (payload [15, 0, 60, 2])[3].toNat ≤ 2) ∧
      0 + 1 < 2 ∧ 2 ≤ 1 + 1 ∧ handleCurrent (loading 0x03 1) 0x03 = true ∧ handleCurrent (loading 0x04 1) 0x04 = false := by decide +kernel

/-- The heat cell queue with `n` cells. -/
def heatCells (n : Nat) : State := withCp fun cp => { cp with heatQueue := List.replicate n ⟨0x03, .pause, 0⟩ }

theorem test_witness_HeatCellsJoinTheQueue :
    Settled hob ∧ (0#8).toNat = 0 ∧ 3 < (4#8).toNat ∧ (starting.sup.hub ≠ .ready ∧ starting.sup.hub ≠ .supplyLow) ∧ hob.sup.hub = .ready ∧
      supplyLow.sup.hub = .supplyLow ∧ (heatCells 15).cp.heatQueue.length < 16 ∧ 16 ≤ (heatCells 16).cp.heatQueue.length := by decide +kernel

theorem test_witness_AbortKeepaliveAndFailedCells :
    (Settled hob ∧ hob.cp.state = .idle) ∧ (inOrder .status plainOrder 0).cp.state = .status ∧
      ((writing 1 3).cp.order = some ⟨14, 7, 5, 3, .table 5 14⟩ ∧ (writing 1 3).cp.state = .dataOut) ∧
      ((inOrder .dataIn plainOrder 0).cp.order = some plainOrder ∧ (inOrder .dataIn plainOrder 0).cp.state = .dataIn) ∧
      (Settled recalling ∧ recalling.cp.state = .completing) := by decide +kernel

theorem test_witness_UpstreamTransmitterPrefers :
    (Settled crowded ∧ crowded.cp.statuses = ⟨1, .busy, .noSense, false⟩ :: List.replicate 2 ⟨1, .busy, .noSense, false⟩) ∧
      (let s := withCp fun cp => { cp with order := some plainOrder, statuses := [⟨7, .good, .noSense, true⟩] };
        Settled s ∧ s.cp.order = some plainOrder ∧ plainOrder.job = .plain) ∧
      (let s := withCp fun cp => { cp with order := some plainOrder, pendingCredit := 1 };
        Settled s ∧ s.cp.statuses = [] ∧ 0 < s.cp.pendingCredit) ∧
      (let s := withCp fun cp => { cp with order := some plainOrder, dataIn := [payload [1], payload [2]] };
        s.cp.dataIn = payload [1] :: [payload [2]] ∧ s.cp.pendingCredit = 0) ∧
      (let s := withCp fun cp => { cp with notices := [⟨.hobHalted, 0, 0, 0, 0, false⟩] };
        Settled s ∧ s.cp.statuses = [] ∧ s.cp.dataIn = [] ∧ s.cp.notices = ⟨.hobHalted, 0, 0, 0, 0, false⟩ :: []) ∧
      hob.cp.notices = [] := by decide +kernel

theorem test_witness_OffNowsAreNamedAndSentFirst :
    (let s := withPosts fun q => { q with releases := [63], offNows := [15] };
      Settled s ∧ s.posts.releases = 63 :: [] ∧ s.posts.offNows = 15 :: []) ∧
      (hob.posts.releases = [] ∧ hob.posts.offNows = []) ∧ (Settled supplyLow ∧ supplyLow.sup.hub ≠ .ready) ∧
      (withBoard fun p => { p with txOffNow := some (Vector.replicate 4 true) }).boards[0].txOffNow = some (Vector.replicate 4 true) ∧
      (let s := withBoard fun p => { p with txDrive := some ⟨1, .idle, Vector.replicate 4 .none⟩ };
        s.boards[0].txOffNow = none ∧ s.boards[0].txDrive = some ⟨1, .idle, Vector.replicate 4 .none⟩) ∧
      (withBoard fun p => { p with txIdent := true }).boards[0].txIdent = true ∧
      (hob.boards[0].txDrive = none ∧ hob.boards[0].txIdent = false) := by decide +kernel

/-- A WAITING board, its request sent at 10. -/
def waitingBoard : State := withBoard fun p => { p with state := .waiting, requestTime := some 10, deadline := some 500010 }

theorem test_witness_BoardsEnterAndLeaveService :
    (Settled waitingBoard ∧ waitingBoard.boards[0].state = .waiting ∧ waitingBoard.boards[0].deadline = some 500010 ∧
        500010 ≤ max waitingBoard.now 500010) ∧ max waitingBoard.now 500009 < 500010 ∧ hob.boards[0].state ≠ .waiting := by decide +kernel

/-- The IDENT cell of a board of the right type. -/
def ident (diagnosis : Byte) : IdentCell := ⟨0x41, 4, 16, diagnosis⟩

theorem test_witness_IdentIsJudged :
    (Settled supplyLow ∧ supplyLow.sup.hub ≠ .ready ∧ 2 < (ident 3).diagnosis.toNat ∧ hob.boards[2].state = .unconfigured) ∧
      (hob.sup.hub = .ready ∧ (ident 2).diagnosis.toNat ≤ 2 ∧ typeMismatch ⟨0x40, 4, 16, 1⟩ = true ∧ typeMismatch (ident 1) = false) ∧
      (waitingBoard.boards[0].state = .waiting ∧ waitingBoard.boards[0].requestTime = some 10 ∧ waitingBoard.boards[0].txIdent = false) ∧
      (withBoard fun p => { p with state := .waiting, txIdent := true }).boards[0].txIdent = true ∧ hob.boards[0].state = .online ∧
      (withBoard fun p => { p with state := .offline }).boards[0].state = .offline ∧
      (withBoard fun p => { p with state := .failed }).boards[0].state = .failed := by decide +kernel

/-- A slot in which leg 0 of board 0 fires coil 0. -/
def openRecord (reported : Bool) : SlotRecord := ⟨#v[.fire 0 100 0, .none, .none, .none], Vector.replicate 4 reported, false⟩
/-- The hob with that slot record. -/
def inSlot (reported : Bool) : State := withBoard fun p => { p with serial := some 7, slot := some (openRecord reported) }
/-- The report of leg 0. -/
def report (trip : Bool) : SenseCell := ⟨7, 0, 1, 0, 0, 1000, 10, 60, 1, false, trip, 100⟩

theorem test_witness_SenseReportsAreTaken :
    (Settled (inSlot false) ∧ (report true).defined = true ∧ (inSlot false).sup.hub = .ready ∧ (inSlot false).boards[0].state = .online ∧
        (inSlot false).boards[0].serial = some (report true).serial ∧ (inSlot false).boards[0].slot = some (openRecord false) ∧
        (openRecord false).reported[(Report.ofCell 0 (report true)).leg] = false) ∧
      (openRecord true).reported[(Report.ofCell 0 (report true)).leg] = true ∧ ({ report true with material := 4 } : SenseCell).defined = false ∧
      hob.boards[0].slot = none ∧ usedCoil (inSlot false) (Report.ofCell 0 (report true)) = some 0 ∧
      usedCoil (inSlot false) (Report.ofCell 0 { report true with mode := 0 }) = none ∧
      ((report true).trip = true ∧ (inSlot false).pu.legs[(Report.ofCell 0 (report true)).globalLeg].state = .ready) := by decide +kernel

/-- A probe of coil 0 or 16 that reads `v` in FINE. -/
def probeOf (b : BoardId) (v : Nat) : Report := ⟨b, 0, .probe, some 0, v, 0, 0, 40, .layered, false⟩
/-- The coverage that probe gives the coil, of the small class. -/
def probed (v : Nat) : Nat := coverageOf 400 9000 (measuredV .probe .fine v 0)

theorem test_witness_MeasurementsClassifyCoils :
    (usedCoil hob (probeOf 1 3409) = some 16 ∧ hob.coils[16].occupancy = .vacant ∧ probed 3409 < (classEntry hob 16).detect) ∧
      ((classEntry hob 16).detect ≤ probed 3410 ∧ hob.coils[16].confirm + 1 < hob.ts.work.confirmCount) ∧
      (let s := hob.modCoil 16 fun r => { r with confirm := 1 };
        s.ts.work.confirmCount ≤ s.coils[16].confirm + 1) ∧
      (let s := hob.modCoil 0 fun r => { r with occupancy := .sensed, owner := none };
        usedCoil s (probeOf 0 2334) = some 0 ∧ s.coils[0].occupancy = .sensed ∧ probed 2334 < (classEntry s 0).release) ∧
      (usedCoil hob (probeOf 0 2335) = some 0 ∧ hob.coils[0].occupancy = .member ∧ (classEntry hob 0).release ≤ probed 2335 ∧
        probed 2334 < (classEntry hob 0).release) := by decide +kernel

theorem test_witness_ReadingAndRangeOfAMeasurement : 3583 < 3584 ∧ 3584 ≤ 3584 ∧ 3071 < 3072 ∧ 3072 ≤ 3072 := by decide

theorem test_witness_DeratingBucketFollowsTheHeatsink :
    hob.ba.derating[0].bucket.val < candidateBucket 5 ∧ candidateBucket 4 = hob.ba.derating[0].bucket.val ∧
      (candidateBucket 77 < (16 : Fin 32).val ∧ (77 : Int) ≤ 5 * (candidateBucket 77 : Int) + 2) ∧
      (candidateBucket 78 < (16 : Fin 32).val ∧ 5 * (candidateBucket 78 : Int) + 2 < 78) ∧ candidateBucket 155 = 31 ∧
      candidateBucket (-1) = 0 := by decide

/-- The hob with one HEAT cell waiting. -/
def heatCell (action : HeatAction) (level : Byte) : State := withCp fun cp => { cp with heatQueue := [⟨0x03, action, level⟩] }
/-- The hob whose pan is LIFTED, with that context. -/
def liftedPan (state : HeatState) : State :=
  withPan fun r => { r with pres := { r.pres with presence := .lifted, members := [] }, heat := { r.heat with state := state } }

theorem test_witness_HeatCellsAreCarriedOut :
    (Settled hob ∧ hob.cp.heatQueue = []) ∧ (Settled (heatCell .pause 0) ∧ (heatCell .pause 0).cp.heatQueue = [⟨0x03, .pause, 0⟩]) ∧
      handleCurrent hob 0x04 = false ∧ handleCurrent hob 0x03 = true ∧ handleSlot 0x03 = 0 ∧ 16 ≤ (16#8).toNat ∧
      ((15#8).toNat < 16 ∧ stopped.fe.hob ≠ .running ∧ handleCurrent stopped 0x03 = true) ∧
      (let s := withPres fun r => { r with presence := .forming };
        handleCurrent s 0x03 = true ∧ s.fe.hob = .running ∧ s.pans[0].pres.presence = .forming) ∧
      (hob.fe.hob = .running ∧ hob.pans[0].pres.presence ≠ .forming ∧ (0#8).toNat = 0) ∧
      (handleCurrent (liftedPan .suspended) 0x03 = true ∧ (liftedPan .suspended).pans[0].pres.presence = .lifted ∧ 0 < (1#8).toNat) ∧
      (let s := withPres fun r => { r with material := .unsuitable };
        s.pans[0].pres.presence.standing = true ∧ s.pans[0].pres.material = .unsuitable) ∧
      ((15 : Level).val = (15#8).toNat ∧ hob.pans[0].pres.presence.standing = true ∧ hob.pans[0].pres.material ≠ .unsuitable) := by
  decide +kernel

theorem test_witness_PauseAndResume :
    hob.pans[0].heat.state = .level ∧ (withHeat fun h => { h with state := .program }).pans[0].heat.state = .program ∧
      (liftedPan .suspended).pans[0].heat.state = .suspended ∧ (withHeat fun _ => .idle).pans[0].heat.state = .idle ∧
      (liftedPan .paused).pans[0].heat.state = .paused ∧ (liftedPan .paused).pans[0].pres.presence = .lifted ∧
      (let s := withHeat fun h => { h with state := .paused };
        handleCurrent s 0x03 = true ∧ s.pans[0].heat.state = .paused ∧ s.pans[0].pres.presence ≠ .lifted ∧ s.fe.hob = .running ∧
          s.pans[0].pres.material ≠ .unsuitable) ∧
      (let s := stopped.modHeat 0 fun h => { h with state := .paused };
        handleCurrent s 0x03 = true ∧ s.pans[0].heat.state = .paused ∧ s.pans[0].pres.presence ≠ .lifted ∧ s.fe.hob ≠ .running) ∧
      (let s := withPan fun r => { r with pres := { r.pres with material := .unsuitable }, heat := { r.heat with state := .paused } };
        handleCurrent s 0x03 = true ∧ s.pans[0].heat.state = .paused ∧ s.fe.hob = .running ∧ s.pans[0].pres.material = .unsuitable) := by
  decide +kernel

/-- The hob with one post about a pan. -/
def panPost (e : PanPost) : State := withPosts fun q => { q with pans := [e] }
/-- The hob with one post about the hob. -/
def hobPost (e : HobPost) : State := withPosts fun q => { q with hob := [e] }

theorem test_witness_PostsChangeContexts :
    (Settled (panPost (.lift 7)) ∧ (panPost (.lift 7)).posts.pans = .lift 7 :: [] ∧ hob.pans[0].heat.state = .level ∧
        hob.pans[7].heat.state ≠ .level ∧ hob.pans[7].heat.state ≠ .program) ∧
      ((panPost (.back 0)).posts.pans = .back 0 :: [] ∧ (liftedPan .suspended).pans[0].heat.state = .suspended ∧
        (liftedPan .suspended).pans[0].pres.material ≠ .unsuitable) ∧
      (let s := withPan fun r => { r with pres := { r.pres with material := .unsuitable }, heat := { r.heat with state := .suspended } };
        s.pans[0].heat.state = .suspended ∧ s.pans[0].pres.material = .unsuitable) ∧
      (panPost (.retirement 0)).posts.pans = .retirement 0 :: [] ∧
      (panPost (.material 0 .unsuitable)).posts.pans = .material 0 .unsuitable :: [] ∧
      ((hobPost .halt).posts.hob = .halt :: [] ∧ (hobPost .stop).posts.hob = .stop :: [] ∧ Settled (hobPost .start) ∧
        (hobPost .start).posts.hob = .start :: []) := by decide +kernel

/-- A return that finds the context in LEVEL leaves it, its place in the list and the triggers (log 58). -/
theorem test_returnInLevel : hob.pans[0].heat.state = .level ∧ after .heatReturn (panPost (.back 0)) = hob := by decide +kernel

/-- The pan runs its program, whose first step does `a`. -/
def inProgram (a : EndAction) (remaining : Nat) : State :=
  withPan fun r => { r with heat := ⟨.program, 9, none, 0, remaining, true⟩, program := [⟨9, 60, a⟩, ⟨4, 0, .next⟩] }
/-- Its step is to end. -/
def stepEnds (a : EndAction) : State := { inProgram a 0 with hs := { hob.hs with stepDue := [0] } }

theorem test_witness_StepTimersCountAndEnd :
    (Settled hob ∧ hob.posts.hsSeconds = 0) ∧
      (let s := (inProgram .next 1).modPosts fun q => { q with hsSeconds := 1 };
        Settled s ∧ 0 < s.posts.hsSeconds ∧ s.pans[0].heat.remaining ≤ 1) ∧
      (hob.sup.level ≠ .belowDig ∧ hob.hs.stepDue = []) ∧
      (let s := stepEnds .next;
        s.sup.level ≠ .belowDig ∧ s.hs.stepDue = 0 :: [] ∧ s.pans[0].heat.state = .program ∧ s.pans[0].heat.timed = true ∧
          s.pans[0].heat.remaining = 0 ∧ s.pans[0].program[s.pans[0].heat.position.val]? = some ⟨9, 60, .next⟩ ∧
          s.pans[0].program[s.pans[0].heat.position.val + 1]? = some ⟨4, 0, .next⟩) ∧
      (let s := (stepEnds .next).modPan 0 fun r => { r with heat := { r.heat with position := 1 } };
        s.pans[0].program[s.pans[0].heat.position.val]? = some ⟨4, 0, .next⟩ ∧ s.pans[0].program[s.pans[0].heat.position.val + 1]? = none) ∧
      (stepEnds .hold).pans[0].program[(0 : Nat)]? = some ⟨9, 60, .hold⟩ ∧
      (stepEnds .off).pans[0].program[(0 : Nat)]? = some ⟨9, 60, .off⟩ := by decide +kernel

/-- The hob with one report of the Coil Monitor. -/
def coilEvent (e : CoilEvent) : State := withPosts fun q => { q with coilEvents := [e] }
/-- Coil 8 has become SENSED. -/
def sensed8 : State := coilEvent (.becameSensed 8 .ferritic)
/-- Coil 8 lies between two pans with one coil each. -/
def between : State :=
  { sensed8 with
    ts := { sensed8.ts with work := { work with t2 := Vector.ofFn fun k => if k = 8 then [0, 4] else [] } }
    coils := sensed8.coils.set 0 (coil .member (some 1) 150)
    pans := (sensed8.pans.set 0 { placedPan with pres := { placedPan.pres with members := [4] } }).set 1
      { placedPan with pres := { placedPan.pres with members := [0] } } }

theorem test_witness_SensedCoilsFoundOrJoin :
    (Settled sensed8 ∧ sensed8.sup.hub ≠ .supplyLow ∧ sensed8.pt.examQueue = [] ∧ sensed8.posts.coilEvents = .becameSensed 8 .ferritic :: [] ∧
        ∀ j ∈ neighbours sensed8 8, waiting sensed8 j = false) ∧
      waiting { sensed8 with coils := fourCoils.set 8 (coil .vacant none 0) } 8 = false ∧
      (let s := { sensed8 with ts := { sensed8.ts with work := { work with t2 := Vector.replicate 64 [] } } };
        waiting s 8 = true ∧ (∀ q : PanSlot, neighbourCount s 8 q = 0) ∧ (8 : CoilId) ∉ s.pt.orphans ∧
          s.pans[1].pres.presence = .free ∧ (∀ q : PanSlot, q < 1 → s.pans[q].pres.presence ≠ .free) ∧ SlotClear s 1) ∧
      (waiting sensed8 8 = true ∧ 0 < neighbourCount sensed8 8 0 ∧
        (∀ q : PanSlot, q ≠ 0 → neighbourCount sensed8 8 q < neighbourCount sensed8 8 0) ∧ sensed8.pans[0].pres.members.length < 12) ∧
      (waiting between 8 = true ∧ 0 < neighbourCount between 8 0 ∧
        (∀ j : PanSlot, neighbourCount between 8 j ≤ neighbourCount between 8 0) ∧
        neighbourCount between 8 1 = neighbourCount between 8 0) := by decide +kernel

/-- The one member of the pan is released. -/
def lastMember (presence : Presence) : State :=
  { coilEvent (.memberRelease 4 (some 0) .none true 0 0) with
    coils := Vector.ofFn fun k => if k = 4 then coil .member (some 0) 150 else .reset
    pans := hob.pans.set 0 { placedPan with pres := { placedPan.pres with members := [4], presence := presence } } }

theorem test_witness_ReleasesAreTaken :
    (let s := coilEvent (.released 16 .none);
      Settled s ∧ s.sup.hub ≠ .supplyLow ∧ s.pt.examQueue = [] ∧ s.posts.coilEvents = .released 16 .none :: [] ∧ (∀ j ∈ neighbours s 16, waiting s j = false) ∧
        s.coils[16].occupancy = .vacant ∧ { s with coils := s.coils.set 16 (coil .sensed none 90) }.coils[16].occupancy = .sensed) ∧
      (let s := coilEvent (.materialChanged 4 (some 0) .layered);
        Settled s ∧ s.sup.hub ≠ .supplyLow ∧ s.posts.coilEvents = .materialChanged 4 (some 0) .layered :: [] ∧ s.pans[0].pres.members ≠ [] ∧
          s.pans[7].pres.members = []) ∧
      (∀ presence ∈ [Presence.forming, .placed, .moving],
        let s := lastMember presence;
        Settled s ∧ s.sup.hub ≠ .supplyLow ∧ s.posts.coilEvents = .memberRelease 4 (some 0) .none true 0 0 :: [] ∧
          s.coils[4].occupancy = .member ∧ s.coils[4].owner = some 0 ∧ s.pans[0].pres.members = [4] ∧ s.pt.examQueue = [] ∧
          s.pt.orphans = [] ∧ (∀ j : CoilId, waiting s j = false) ∧ s.pans[0].pres.presence = presence ∧ 0 < s.ts.work.grace) := by
  decide +kernel

/-- The hob at the end of frame 2 with that presence part in slot 0. -/
def frameEnds (f : PresencePart → PresencePart) : State :=
  { withPres f with posts := { hob.posts with ptFrameEnds := [2] }, coils := hob.coils.set 8 .reset }
/-- A pan that comes down where the one in slot 3 was lifted. -/
def comesBack : State :=
  { frameEnds fun r => { r with presence := .forming, settle := 20 } with
    pans := (frameEnds fun r => { r with presence := .forming, settle := 20 }).pans.set 3
      { placedPan with
        pres := { PresencePart.freed 5 with
                  presence := .lifted, liftedAt := some 4, grace := some 9, signature := some ⟨25, 55, 310, .ferritic⟩ } }
    pt := { hob.pt with liftOrder := [3] } }

theorem test_witness_PansSettleAtFrameEnds :
    (Settled hob ∧ hob.posts.ptFrameEnds = []) ∧
      (let s := frameEnds id;
        Settled s ∧ s.sup.hub ≠ .supplyLow ∧ s.posts.ptFrameEnds = 2 :: [] ∧ ∀ q : PanSlot, unsettled s.pans[q].pres = false) ∧
      (let s := frameEnds fun r => { r with presence := .moving, changed := true };
        Settled s ∧ s.sup.hub ≠ .supplyLow ∧ s.posts.ptFrameEnds = 2 :: [] ∧ (∀ q : PanSlot, q ≠ 0 → unsettled s.pans[q].pres = false) ∧
          unsettled s.pans[0].pres = true ∧ (figured s 0).changed = true) ∧
      (let s := frameEnds fun r => { r with presence := .forming, settle := work.settleFrames - 2 };
        unsettled s.pans[0].pres = true ∧ (figured s 0).changed = false ∧ (figured s 0).settle + 1 < s.ts.work.settleFrames) ∧
      (∀ presence ∈ [Presence.forming, .moving],
        let s := frameEnds fun r => { r with presence := presence, settle := work.settleFrames - 1 };
        (figured s 0).changed = false ∧ s.ts.work.settleFrames ≤ (figured s 0).settle + 1 ∧ s.pt.liftOrder = [] ∧
          (figured s 0).presence = presence) := by decide +kernel

theorem test_witness_PanReturns :
    Settled comesBack ∧ comesBack.sup.hub ≠ .supplyLow ∧ comesBack.posts.ptFrameEnds = 2 :: [] ∧ (∀ q : PanSlot, q ≠ 0 → unsettled comesBack.pans[q].pres = false) ∧
      unsettled comesBack.pans[0].pres = true ∧ (figured comesBack 0).changed = false ∧
      comesBack.ts.work.settleFrames ≤ (figured comesBack 0).settle + 1 ∧ (figured comesBack 0).presence = .forming ∧
      comesBack.pt.liftOrder = [3] ∧ comesBack.pans[3].pres.members = [] ∧ comesBack.pans[3].pres.presence = .lifted ∧
      comesBack.pans[3].pres.signature = some ⟨25, 55, 310, .ferritic⟩ ∧ Material.ferritic = (figured comesBack 0).material ∧
      100 * (max 310 (figured comesBack 0).area - min 310 (figured comesBack 0).area) ≤ comesBack.ts.work.areaTolerance * 310 ∧
      max (max 25 (figured comesBack 0).x - min 25 (figured comesBack 0).x)
          (max 55 (figured comesBack 0).y - min 55 (figured comesBack 0).y) ≤ comesBack.ts.work.returnRadius ∧
      comesBack.pt.examQueue = [] ∧ comesBack.pt.orphans = [] ∧ (∀ j : CoilId, waiting comesBack j = false) ∧
      ∀ j ∈ (figured comesBack 0).members, comesBack.coils[j].occupancy = .member := by decide +kernel

theorem test_witness_GraceRunsOut :
    (Settled hob ∧ hob.posts.ptSeconds = 0) ∧
      (let s := (liftedPan .idle).modPosts fun q => { q with ptSeconds := 1 }; Settled s ∧ 0 < s.posts.ptSeconds) ∧
      (hob.sup.level ≠ .belowDig ∧ hob.pt.graceDue = []) ∧
      (let s : State := { (liftedPan .idle).modPres 0 (fun r => { r with grace := some 0 }) with pt := { hob.pt with graceDue := [0] } };
        s.sup.level ≠ .belowDig ∧ s.pt.graceDue = 0 :: [] ∧ s.pans[0].pres.presence = .lifted ∧ s.pans[0].pres.grace = some 0 ∧
          s.pt.orphans = []) := by decide +kernel

theorem test_witness_RecomputeGrantsWithinLimits :
    (Settled hob ∧ hob.posts.triggers = []) ∧
      (let s := withPosts fun q => { q with triggers := [.recalled] };
        Settled s ∧ s.posts.triggers = .recalled :: [] ∧ RequestsHeat s ∧ s.pans[0].heat.state.heating = true ∧
          s.pans[1].heat.state.heating = false) := by decide +kernel

/-- The hob with a build in that stage. -/
def building (stage : Stage) (bank : Bank) : State :=
  withSs fun c => { c with stage := stage, snapshot := some (snapshotOf hob), results := some [], bankB := bank }

theorem test_witness_BuildsBeginAndAreDiscarded :
    (let s := withPosts fun q => { q with scheduler := [.rebuild] };
      Settled s ∧ s.posts.scheduler = .rebuild :: [] ∧ s.fe.hob = .running ∧ s.ss.stage = .idle) ∧
      (let s := withPosts fun q => { q with rebuilds := 1 };
        s.posts.scheduler.head? ≠ some .rebuild ∧ 0 < s.posts.rebuilds) ∧
      stopped.fe.hob ≠ .running ∧ (building .ready []).ss.stage ≠ .idle ∧
      (Settled hob ∧ hob.posts.scheduler.head? ≠ some .rebuild ∧ hob.posts.rebuilds = 0) ∧
      (Settled (building .gather []) ∧ (building .gather []).ss.stage = .gather ∧
        (building .gather []).ss.snapshot = some (snapshotOf hob)) ∧
      hob.ss.stage ≠ .gather ∧ hob.posts.scheduler.head? ≠ some .discard ∧
      (let s := withPosts fun q => { q with scheduler := [.discard] }; Settled s ∧ s.posts.scheduler = .discard :: []) := by
  decide +kernel

theorem test_witness_PlacedBanksPassTheirTests :
    (Settled (building .place []) ∧ (building .place []).ss.stage = .place ∧ (building .place []).ss.snapshot = some (snapshotOf hob)) ∧
      (Settled hob ∧ hob.ss.stage ≠ .place) := by decide +kernel

/-- A bank that CHECK refuses: two firings on one leg. -/
def badBank : Bank := [[⟨0, 0, 100⟩, ⟨0, 0, 100⟩]]

theorem test_witness_CheckDecidesTheBuild :
    (Settled hob ∧ hob.ss.stage ≠ .check) ∧
      (let s : State := { stopped with ss := (building .check []).ss }; Settled s ∧ s.ss.stage = .check ∧ s.fe.hob ≠ .running) ∧
      (let s := (building .check []).modPosts fun q => { q with scheduler := [.discard, .rebuild] };
        Settled s ∧ s.ss.stage = .check ∧ s.fe.hob = .running ∧ .discard ∈ s.posts.scheduler) ∧
      (let s := building .check badBank;
        Settled s ∧ s.ss.stage = .check ∧ s.fe.hob = .running ∧ .discard ∉ s.posts.scheduler ∧ bankChecks s = false) ∧
      (let s := (building .check []).modSs fun c => { c with rerun := true, restarts := 2 };
        s.ss.stage = .check ∧ s.fe.hob = .running ∧ .discard ∉ s.posts.scheduler ∧ bankChecks s = true ∧
          s.ss.rerun = true ∧ s.ss.restarts < 3) ∧
      (let s := (building .check []).modSs fun c => { c with rerun := true, restarts := 3 };
        s.ss.stage = .check ∧ s.fe.hob = .running ∧ .discard ∉ s.posts.scheduler ∧ bankChecks s = true ∧
          3 ≤ s.ss.restarts ∧ s.ss.snapshot = some (snapshotOf hob) ∧ s.ss.results = some []) := by decide +kernel

theorem test_witness_OffersAndSwapNotices :
    (Settled hob ∧ hob.posts.offers = 0 ∧ hob.posts.swaps = 0) ∧
      (let s := withPosts fun q => { q with offers := 1, swaps := 1 };
        Settled s ∧ 0 < s.posts.offers ∧ 0 < s.posts.swaps ∧ s.fe.hob = .running ∧ s.ss.stage ≠ .ready ∧
          .discard ∉ s.posts.scheduler) ∧
      (let s := withPosts fun q => { q with offers := 1, scheduler := [.discard, .rebuild] };
        Settled s ∧ 0 < s.posts.offers ∧ s.fe.hob = .running ∧ .discard ∈ s.posts.scheduler) ∧
      (let s := stopped.modPosts fun q => { q with offers := 1 }; Settled s ∧ 0 < s.posts.offers ∧ s.fe.hob ≠ .running) ∧
      ((building .ready []).ss.stage = .ready ∧ (building .ready []).ss.rerun = false) ∧
      (let s := ((building .ready []).modPosts fun q => { q with swaps := 1 }).modSs fun c => { c with rerun := true };
        Settled s ∧ 0 < s.posts.swaps ∧ s.ss.stage = .ready ∧ s.ss.rerun = true ∧ s.fe.hob = .running) ∧
      (let s := ((building .ready []).modFe fun fe => { fe with hob := .stopped }).modSs fun c => { c with rerun := true };
        s.ss.stage = .ready ∧ s.ss.rerun = true ∧ s.fe.hob ≠ .running) := by decide +kernel

theorem test_witness_HobClaimsAreTaken :
    (let s := withPosts fun q => { q with hobClaims := [.halt .silence] };
      Settled s ∧ s.posts.hobClaims = .halt .silence :: [] ∧ s.fe.hob = .running) ∧
      (let s := halted.modPosts fun q => { q with hobClaims := [.clear] };
        Settled s ∧ s.posts.hobClaims = .clear :: [] ∧ s.fe.hob = .halted ∧ s.sup.hub ≠ .supplyLow) ∧
      (let s : State := { halted.modPosts fun q => { q with hobClaims := [.clear] } with sup := supplyLow.sup };
        Settled s ∧ s.posts.hobClaims = .clear :: [] ∧ s.fe.hob = .halted ∧ s.sup.hub = .supplyLow) ∧
      stopped.fe.hob ≠ .running ∧ stopped.fe.hob ≠ .halted := by decide +kernel

theorem test_witness_FaultsAreCaptured :
    halted.fe.hob = .halted ∧ (hob.fe.hob ≠ .halted ∧ hob.pu.firstFault = none) ∧
      (after .mainsLossPost (withPosts fun q => { q with losses := [.noCrossing] })).pu.firstFault.isSome = true ∧
      (let s := withPosts fun q => { q with haltCauses := [.mains], halted := [.mains], losses := [.noCrossing] };
        Settled s ∧ s.posts.haltCauses = .mains :: [] ∧ s.posts.halted = .mains :: [] ∧ s.posts.losses = .noCrossing :: [] ∧
          s.fe.hob = .running) ∧
      stopped.fe.hob = .stopped := by decide +kernel

theorem test_witness_LegsLeaveAndReturn :
    (let s := withPosts fun q => { q with puFrameEnds := [2] }; Settled s ∧ s.sup.hub ≠ .supplyLow ∧ s.posts.puFrameEnds = 2 :: []) ∧
      (let s : State := { withLeg 15 ⟨.tripped, 1, some 1, some 0, false⟩ with
                          pu := { (withLeg 15 ⟨.tripped, 1, some 1, some 0, false⟩).pu with cooldownDue := [15], windowDue := [0] } };
        s.sup.level ≠ .belowDig ∧ s.pu.cooldownDue = 15 :: [] ∧ s.pu.legs[15].state = .tripped ∧ s.pu.legs[15].cooldown = some 0 ∧
          s.pu.windowDue = 0 :: []) ∧
      (let s := withPosts fun q => { q with puBoards := [(0, .out true), (1, .removal), (3, .into)] };
        Settled s ∧ firstOf 0 s.posts.puBoards = some (.out true) ∧ firstOf 1 s.posts.puBoards = some .removal ∧
          firstOf 3 s.posts.puBoards = some .into) := by decide +kernel

theorem test_witness_ClaimsSetAvailabilityFlags :
    (let s := withPosts fun q => { q with cmBoards := [(0, .out true), (3, .into)], cmClaims := [.legOut 15] };
      Settled s ∧ firstOf 0 s.posts.cmBoards = some (.out true) ∧ firstOf 3 s.posts.cmBoards = some .into ∧
        s.posts.cmClaims = .legOut 15 :: []) ∧
      (withPosts fun q => { q with cmClaims := [.legIn 0] }).posts.cmClaims = .legIn 0 :: [] ∧
      (let s := withPosts fun q => { q with cmClaims := [.hot 0] };
        Settled s ∧ s.posts.cmClaims = .hot 0 :: [] ∧ s.coils[0].occupancy ≠ .absent) ∧
      (withPosts fun q => { q with cmClaims := [.cool 63] }).posts.cmClaims = .cool 63 :: [] ∧ hob.coils[63].occupancy = .absent := by
  decide +kernel

theorem test_witness_CellsReadBack :
    (Instr.loadProgram 5 9 0x03 8).wf = true ∧ (cellOf (.loadProgram 5 9 0x03 8)).isSome = true ∧
      (Instr.sense 3 (report true)).wf = true ∧ (cellOf (.sense 3 (report true))).isSome = true := by decide +kernel

/-- The hob with a command waiting: each invariant holds and the step answers. -/
theorem test_witness_Invariants :
    let s : State := { hob with pending := [.keepalive 5] };
    QueuesFit s ∧ RequestsHeat s ∧ (∃ u, step s = .next u) ∧ NothingToExamine s ∧
      RunningOnly { State.reset with pending := [.keepalive 5] } ∧ ∃ u, step { State.reset with pending := [.keepalive 5] } = .next u := by
  refine ⟨by decide +kernel, by decide +kernel, ⟨_, rfl⟩, by decide +kernel, by decide +kernel, ⟨_, rfl⟩⟩

theorem test_witness_MembersAgree : MembersAgree hob :=
  ⟨by decide +kernel, by decide +kernel, by decide +kernel, by decide +kernel, by decide +kernel, by decide +kernel⟩

/-! ### Witnesses of the wider clauses -/

/-- SUPPLY LOW with a hob still RUNNING and those claims on it. -/
def lowRunning (claims : List HobClaim) (causes : List HaltCause) : State :=
  { hob with sup := supplyLow.sup, posts := { hob.posts with hobClaims := claims, haltCauses := causes } }

theorem test_witness_HaltAtTheRise :
    let waits (s : State) : List HobClaim :=
      (s.posts.hobClaims ++ s.posts.haltCauses.map HobClaim.halt).dropWhile (· == HobClaim.clear)
    (Settled (lowRunning [.clear] [.supply, .noBoards]) ∧ (lowRunning [.clear] [.supply, .noBoards]).sup.level = .belowOp ∧
        (lowRunning [.clear] [.supply, .noBoards]).sup.hub = .supplyLow ∧
        waits (lowRunning [.clear] [.supply, .noBoards]) = .halt .supply :: [.halt .noBoards]) ∧
      (lowRunning [] []).fe.hob = .running ∧ waits (lowRunning [] []) = [] ∧ supplyLow.fe.hob = .stopped ∧
      (let s : State := { halted with sup := supplyLow.sup, posts := { halted.posts with halted := [.silence] } };
        Settled s ∧ s.sup.hub = .supplyLow ∧ s.fe.hob = .halted ∧ s.posts.halted ≠ []) ∧ supplyLow.posts.halted = [] := by decide +kernel

/-- The hob RUNNING again, the discard of its last stop still waiting. -/
def startedAgain (stage : Stage) : State :=
  { building stage [] with
    fe := { hob.fe with awaiting := true }, posts := { hob.posts with scheduler := [.discard, .rebuild], offers := 1 } }

theorem test_witness_DiscardAtTheRise :
    (let s : State := { supplyLow with posts := { supplyLow.posts with scheduler := [.rebuild, .discard, .rebuild] } };
      Settled s ∧ s.sup.level = .belowOp ∧ s.sup.hub = .supplyLow ∧
        (finishHalted (finishHalt s)).posts.scheduler = [.rebuild] ++ .discard :: [.rebuild] ∧ .discard ∉ [SchedulerPost.rebuild]) ∧
      .discard ∉ (finishHalted (finishHalt supplyLow)).posts.scheduler := by decide +kernel

theorem test_witness_RunningOnly_whileADiscardWaits :
    RunningOnly (startedAgain .check) ∧ DiscardWaits (startedAgain .check) ∧ (startedAgain .check).fe.hob = .running ∧
      RunningOnly State.reset ∧ State.reset.fe.hob ≠ .running ∧ ¬ DiscardWaits State.reset :=
  ⟨by decide +kernel, by decide +kernel, by decide +kernel, by decide +kernel, by decide +kernel, by decide +kernel⟩

theorem test_nothingOfBeforeTheStopIsOfferedOrSwapped :
    (after .endOfCheck (startedAgain .check)).ss.stage = .idle ∧ (after .endOfCheck (startedAgain .check)).posts.offers = 1 ∧
      (after .offer (startedAgain .ready)).fe.swapPending = false ∧
      (after .discard (startedAgain .ready)).posts.offers = 0 := by decide +kernel

theorem test_theRiseFindsTheBanksEmpty :
    let u := after .supplyRiseAboveVOp (lowRunning [] [.supply]);
    u.sup.hub = .ready ∧ u.fe.hob = .halted ∧ u.ss = { Scheduler.reset with bankA := emptyBank hob.fe.f, bankB := emptyBank hob.fe.f } ∧
      u.posts.scheduler = [] ∧ hob.ss.bankA ≠ emptyBank hob.fe.f := by decide +kernel

/-- The hob STOPPED, or HALTED and cleared, before the Heat Sequencer has taken it: the pan still heats and the last recompute lists it. -/
def stopWaits (posts : List HobPost) : State :=
  { stopped with
    ba := { stopped.ba with figures := { stopped.ba.figures with order := [0], eligible := stopped.ba.figures.eligible.set 0 [(0, 1400)] } }
    posts := { stopped.posts with hob := posts } }

theorem test_witness_StartFindsTheStopTaken :
    (Settled (stopWaits [.stop]) ∧ (stopWaits [.stop]).posts.hob.head? = some .stop ∧ HobPost.stop ∈ (stopWaits [.stop]).posts.hob) ∧
      (stopWaits [.halt, .start]).posts.hob.head? = some .halt ∧ HobPost.halt ∈ (stopWaits [.halt, .start]).posts.hob ∧
      (stopWaits [.start]).posts.hob.head? = some .start ∧
      ((stopWaits []).posts.hob = [] ∧ (stopWaits []).ba.figures.order ≠ []) ∧
      (stopped.posts.hob = [] ∧ stopped.ba.figures.order = []) ∧
      (State.reset.hs.requests = [] ∧ ∀ p : PanSlot, State.reset.pans[p].heat.state.heating = false) := by decide +kernel

theorem test_startHobBuildsAnEmptyBank :
    let u := after .rebuildRequest (after (.startHob 5 9) (stopWaits [.halt]));
    u.fe.hob = .running ∧ u.ss.stage = .gather ∧ u.ss.snapshot.map (·.pans) = some [] ∧ u.pans[0].heat.state = .idle ∧
      u.pans[0].alloc.g = 0 ∧ u.posts.hob = [] ∧ (stopWaits [.halt]).pans[0].heat.state = .level := by decide +kernel

theorem test_witness_TailsAreTheTailCommands :
    (let s : State := { hob with pt := { hob.pt with graceDue := [1] } }; s.sup.level ≠ .belowDig ∧ s.pt.graceDue ≠ []) ∧
      (let s : State := { hob with hs := { hob.hs with stepDue := [0] } };
        s.sup.level ≠ .belowDig ∧ s.pt.graceDue = [] ∧ s.hs.stepDue ≠ []) ∧
      (let s : State := { hob with pu := { hob.pu with cooldownDue := [15] } };
        s.pt.graceDue = [] ∧ s.hs.stepDue = [] ∧ s.pu.cooldownDue ≠ []) ∧
      (let s : State := { hob with pu := { hob.pu with windowDue := [0] } };
        s.pt.graceDue = [] ∧ s.hs.stepDue = [] ∧ s.pu.cooldownDue = [] ∧ s.pu.windowDue ≠ []) ∧ Drained hob := by decide +kernel

/-- Two members that show each a material of their own: the first in R24's order is the pan's. -/
theorem test_materialOnATie :
    let s : State := { hob with coils := hob.coils.set 4 { hob.coils[(4 : CoilId)] with material := .layered } };
    materialOfPan s [0, 4] = .layered ∧ areaOf s [0, 4] = 300 ∧ centroidOf s [0, 4] (·.x) = 20 := by decide +kernel

/-- The last row of T6 holds entries 16 and 17 (log 18). -/
theorem test_copyRow_T6 :
    let u := copyRow Config.tablesReset { Config.tablesReset with t6 := Vector.replicate 18 7777 } 6 2;
    u.t6[(15 : Fin 18)] = 7777 ∧ u.t6[(16 : Fin 18)] = Config.tablesReset.t6[(16 : Fin 18)] ∧
      u.t6[(17 : Fin 18)] = Config.tablesReset.t6[(17 : Fin 18)] := by decide +kernel

theorem test_witness_EighthCrossingStartsASlot :
    Settled (locking 7 .ready) ∧ (locking 7 .ready).sup.hub = .ready ∧ InWindow (locking 7 .ready) (max 0 8800) ∧
      (locking 7 .ready).fe.lock = .locking ∧ 7 ≤ (locking 7 .ready).fe.lockCount ∧ hob.fe.lock = .locked := by
  refine ⟨by decide +kernel, by decide +kernel, ?_, by decide +kernel, by decide +kernel, by decide +kernel⟩
  rw [inWindow_iff _ _ rfl rfl]
  decide

/-- Board 0 with an open record, held or not, reported whole or not, and those runs. -/
def judged (reported hold : Bool) (missed holdRun noReport : Nat) : State :=
  withBoard fun p =>
    { p with
      slot := some { openRecord reported with hold := hold }
      missed := missed, holdRun := holdRun, noReport := Vector.replicate 4 noReport, lastFiring := #v[some (0, 100), none, none, none] }

theorem test_witness_SlotsAreJudged :
    let cell : DriveCell := ⟨9, .active, Vector.replicate 4 .none⟩
    hob.boards[0].state = .online ∧ hob.boards[0].slot = none ∧
      (judged true true 2 50 1).boards[0].slot = some { openRecord true with hold := true } ∧
      ((takeDrive (judged false false 2 50 0) 0 cell).boards[0].missed, (takeDrive (judged false false 2 50 0) 0 cell).boards[0].state) =
        (3, .offline) ∧
      (takeDrive (judged false true 2 50 0) 0 cell).cp.notices.map (·.first) = [3] ∧
      (takeDrive (judged true true 2 50 0) 0 cell).cp.notices.map (·.first) = [4] ∧
      (takeDrive (judged false true 1 49 0) 0 cell).boards[0].state = .online ∧
      (takeDrive (judged false false 0 0 1) 0 cell).pu.legs[0].state = .tripped := by decide +kernel

theorem test_witness_FiringsPassOrAreDropped :
    hob.fe.hob = .running ∧ hob.fe.awaiting = false ∧ stopped.fe.hob ≠ .running ∧
      emitOne hob ⟨[], hob.fe.emitted⟩ ⟨0, 0, 100⟩ = ⟨[⟨0, 0, 100⟩], hob.fe.emitted.set 0 100⟩ ∧
      emitOne hob ⟨[], hob.fe.emitted⟩ ⟨8, 0, 100⟩ = ⟨[], hob.fe.emitted⟩ := by decide +kernel

theorem test_witness_StructureTaken :
    (presentBy (service work) true 16 = true ∧ (service work).coils[16].occupancy = .absent) ∧
      (presentBy (service work) true 63 = false ∧ (service work).coils[63].occupancy = .absent) ∧
      (presentBy (service work) false 0 = false ∧ (service work).coils[0].occupancy ≠ .absent) ∧
      (presentBy (service work) true 0 = true ∧ (service work).coils[0].occupancy = .member) ∧
      (configuredBy (service work) true 1 = true ∧ (service work).boards[1].state = .unconfigured) ∧
      (configuredBy (service work) true 0 = true ∧ (service work).boards[0].state = .online) ∧
      removedBoards (service work) true = [3] ∧ removedBoards (service work) false = [0, 3] := by decide +kernel

theorem test_witness_FailsRow : FailsRow brokenWork 1 0 := .inl ⟨0, rfl, .inl ⟨rfl, 4, by decide +kernel⟩⟩

theorem test_witness_ProgramOverrun :
    let s : State := { loading 0x03 1 with cp := { (loading 0x03 1).cp with credit := 0 } }
    Settled s ∧ s.cp.state = .dataOut ∧ s.cp.order = some ⟨12, 7, 2, 1, .program 0x03⟩ ∧ s.cp.credit = 0 := by decide +kernel

theorem test_witness_EntryIndexWraps :
    [entryIndex 4 15 0, entryIndex 4 15 1, entryIndex 5 31 1, entryIndex 0 2 1] = [15, 1, 0, 3] := by decide

/-- What a written entry holds: whether each payload is accepted. -/
def accepts (t : Fin 7) (i : Nat) (ps : List (List Byte)) : List Bool := ps.map fun p => (writeEntry work t i (payload p)).isSome

theorem test_writeEntry_ranges :
    accepts 0 3 [[1, 2], [0, 1], [2, 1], [1, 0], [1, 3]] = [true, true, false, false, false] ∧
      accepts 1 63 [[1, 3, 255, 3, 255, 7], [0, 4, 0, 0, 0, 0], [0, 0, 0, 0, 0, 8]] = [true, false, false] ∧
      accepts 2 0 [[2, 63, 0], [2, 64, 0], [12]] = [true, false, false] ∧
      accepts 3 2 [[1, 114, 127, 248, 0, 0, 200, 200, 200], [1, 115], [0, 0, 0, 0, 0, 0, 201]] = [true, false, false] ∧
      accepts 4 15 [[1, 114, 1, 114, 1, 114], [0, 0, 0, 0, 1, 115]] = [true, false] ∧ accepts 5 31 [[128], [129]] = [true, false] ∧
      accepts 6 10 [[0, 50], [0, 55], [0, 60]] = [true, false, true] ∧
      accepts 6 7 [[3, 152], [3, 153]] = [true, false] ∧
      accepts 6 14 [[0, 250], [0, 251], [0, BitVec.ofNat 8 work.coolLimit]] = [true, false, false] := by decide +kernel

/-- Leg 0 with that record. -/
def legOf0 (trips : Nat) (window : Option (BitVec 16)) (overshoot : Bool) : State := withLeg 0 ⟨.ready, trips, window, none, overshoot⟩
/-- A FIRING report of leg 0, delivering `w` watts at temperature `t`. -/
def firing (w t : Nat) : Report := ⟨0, 0, .firing, some 0, 0, 1000, w, t, .ferritic, false⟩

theorem test_witness_OvershootAndTemperature :
    let d : LegDrive := .fire 0 100 0
    let m := hob.ts.work.overshootMargin
    ((legOf0 0 none true).pu.legs[0].state = .ready ∧ (testOvershoot (legOf0 0 none true) (firing (100 + m) 60) d).pu.legs[0].overshoot = false) ∧
      (testOvershoot (legOf0 0 none false) (firing (101 + m) 60) d).pu.legs[0].overshoot = true ∧
      (testOvershoot (legOf0 0 none true) (firing (101 + m) 60) d).pu.legs[0].state = .tripped ∧
      (namedCoil hob (firing 0 60) = some 0 ∧ namedCoil hob { firing 0 60 with mode := .idle } = none) ∧
      (judgeTemperature hob 0 (firing 0 hob.ts.work.hotLimit)).pu.hot[0] = true ∧
      (judgeTemperature hob 0 (firing 0 (hob.ts.work.hotLimit - 1))).pu.hot[0] = false ∧
      (let hot : State := { hob with pu := { hob.pu with hot := hob.pu.hot.set 0 true } };
        (judgeTemperature hot 0 (firing 0 hob.ts.work.coolLimit)).pu.hot[0] = false ∧
          (judgeTemperature hot 0 (firing 0 (hob.ts.work.coolLimit + 1))).pu.hot[0] = true) := by decide +kernel

theorem test_witness_TripsAreCounted :
    let t (s : State) : LegState × Nat :=
      ((trip s 0 .overshoot (some 0) 200).pu.legs[0].state, (trip s 0 .overshoot (some 0) 200).pu.legs[0].trips)
    t (legOf0 1 (some 2) false) = (.tripped, 2) ∧ t (legOf0 2 (some 2) false) = (.locked, 3) ∧
      t (legOf0 2 (some (2 - BitVec.ofNat 16 work.retryWindow)) false) = (.tripped, 1) ∧ newWindow (legOf0 2 (some 2) false) 0 = false ∧
      (trip (legOf0 2 (some 2) false) 0 .overshoot (some 0) 200).pu.traps = 0x402#11 ∧
      hob.pu.legs[15].state ≠ .ready := by decide +kernel

/-- Coil 4's release waits behind one frame-end. -/
def releaseWaiting : State := withPosts fun q => { q with coilEvents := [.memberRelease 4 (some 0) .none false 1 0], ptFrameEnds := [2] }

theorem test_witness_ReleasesWait :
    let low (b : BoardId) (l : LocalLeg) : Report := { probeOf b 0 with leg := l }
    (usedCoil releaseWaiting (low 0 1) = some 4 ∧ releaseWaiting.coils[4].occupancy = .member ∧
        (∃ e ∈ releaseWaiting.posts.coilEvents, e.releases 4 = true) ∧ ∀ e ∈ releaseWaiting.posts.coilEvents, e.releases 0 = false) ∧
      (takeMeasurement releaseWaiting 0 (low 0 0)).posts.coilEvents =
        [.memberRelease 4 (some 0) .none false 1 0, .memberRelease 0 (some 0) .layered false 1 0] ∧
      (Settled releaseWaiting ∧ after .memberRelease releaseWaiting = releaseWaiting) ∧
      (after .panTrackerFrameEnd releaseWaiting).posts.coilEvents = [.memberRelease 4 (some 0) .none false 0 0] := by decide +kernel

theorem test_witness_StepsEndTogether :
    let s : State := { stepEnds .off with hs := { (stepEnds .off).hs with stepDue := [0, 1] } }
    (s.hs.stepDue = 0 :: [1] ∧ (after .stepEnd s).posts.triggers = [] ∧ (after .stepEnd s).hs.stepChanged = [0]) ∧
      (after .stepEnd (after .stepEnd s)).posts.triggers = [.heatChange [0]] ∧
      (let gone := (stepEnds .off).modPan 0 fun r => { r with program := [] };
        gone.pans[0].program[gone.pans[0].heat.position.val]? = none ∧ gone.hs.stepDue = 0 :: []) := by decide +kernel

/-- Every slot is taken: slot 0 as it is, the others LIFTED or FORMING; coil 63 waits with no neighbour. -/
def allTaken (others : Presence) (lifts : List PanSlot) (orphans : List CoilId) : State :=
  { hob with
    coils := hob.coils.set 63 (coil .sensed none 100)
    pans := Vector.ofFn fun p => if p = 0 then placedPan else { PanRecord.reset with pres := { PresencePart.freed 1 with presence := others } }
    pt := { hob.pt with liftOrder := lifts, orphans := orphans } }

theorem test_witness_ExaminationCases :
    let isolated (s : State) : Prop := waiting s 63 = true ∧ (∀ q : PanSlot, neighbourCount s 63 q = 0) ∧
      ∀ q : PanSlot, s.pans[q].pres.presence ≠ .free
    (isolated (allTaken .lifted [5, 1, 2, 3, 4, 6, 7] []) ∧ (63 : CoilId) ∉ (allTaken .lifted [5, 1, 2, 3, 4, 6, 7] []).pt.orphans) ∧
      (isolated (allTaken .forming [] []) ∧ isolated (allTaken .forming [] [8])) ∧ (63 : CoilId) ∈ (allTaken .forming [] [63]).pt.orphans ∧
      (let s : State := { hob with pt := { hob.pt with examQueue := [8, 0] } };
        s.pt.examQueue = 8 :: [0] ∧ s.pt.examQueue.Nodup) ∧
      (let s := withPres fun r => { r with members := (List.range 12).map fun i => Fin.ofNat 64 (4 * i) };
        waiting s 8 = true ∧ 0 < neighbourCount s 8 0 ∧ 12 ≤ s.pans[0].pres.members.length) := by decide +kernel

/-- A pan on coils 0, 4 and 8 in a row whose middle coil is released. -/
def splits : State :=
  { coilEvent (.memberRelease 4 (some 0) .none true 0 0) with
    coils := fourCoils.set 8 (coil .member (some 0) 100)
    pans := hob.pans.set 0 { placedPan with pres := { placedPan.pres with members := [0, 4, 8] } } }

theorem linked_alone {s : State} {ms : List CoilId} {j k : CoilId} (h : ∀ i ∈ ms, ∀ j ∈ ms, adjacent s i j = false)
    (l : Linked s ms k j) : j = k := by
  induction l with
  | refl => rfl
  | tail _ h' _ => exact absurd h'.2.2 (by rw [h _ h'.1 _ h'.2.1]; decide)

theorem test_witness_KeptPart : KeptPart (memberGone splits 4 0) [0, 8] [0] := by
  have alone : ∀ i ∈ [(0 : CoilId), 8], ∀ j ∈ [(0 : CoilId), 8], adjacent (memberGone splits 4 0) i j = false := by decide +kernel
  have linked (k j : CoilId) : Linked (memberGone splits 4 0) [0, 8] k j ↔ j = k :=
    ⟨linked_alone alone, fun h => h ▸ Relation.ReflTransGen.refl⟩
  refine ⟨by decide, ⟨0, by decide, fun j => ?_⟩, fun k hk other hs ho => ?_⟩
  · rw [linked]
    constructor
    · intro h
      obtain rfl := List.mem_singleton.mp h
      exact ⟨by decide, rfl⟩
    · rintro ⟨_, rfl⟩
      decide
  · simp only [linked] at ho
    rw [← List.mem_sublists] at hs
    have hs' : other ∈ [[], [(0 : CoilId)], [8], [0, 8]] := by simpa [List.sublists] using hs
    have hk' : k = 0 ∨ k = 8 := by simpa using hk
    have mine : k ∈ other := (ho k).mpr ⟨hk, rfl⟩
    have only : ∀ j ∈ other, j = k := fun j hj => ((ho j).mp hj).2
    fin_cases hs' <;> rcases hk' with rfl | rfl <;> first | exact absurd mine (by decide) | exact absurd only (by decide) | decide +kernel

theorem test_witness_ReleasesSplitAndEnd :
    (Settled splits ∧ splits.posts.coilEvents = .memberRelease 4 (some 0) .none true 0 0 :: [] ∧ splits.coils[4].occupancy = .member ∧
        splits.coils[4].owner = some 0 ∧ (memberGone splits 4 0).pans[0].pres.members = [0, 8]) ∧
      ((after .memberRelease splits).pans[0].pres.members, (after .memberRelease splits).coils[8].owner) = ([0], some 1) ∧
      (let s := { lastMember .placed with
                  ts := { hob.ts with work := { work with t6 := Vector.ofFn fun i => if i = 2 then 0 else work.t6[i] } } };
        s.ts.work.grace = 0 ∧ (memberGone s 4 0).pans[0].pres.members = [] ∧ (after .memberRelease s).pans[0].pres.presence = .free) ∧
      (let sensed (coverage : Nat) : State := (coilEvent (.memberRelease 8 (some 0) .none true 0 0)).modCoil 8 fun r => { r with coverage := coverage };
        (sensed 100).coils[8].occupancy = .sensed ∧ (classEntry hob 8).release ≤ (sensed (classEntry hob 8).release).coils[8].coverage ∧
          (sensed 0).coils[8].coverage < (classEntry hob 8).release) ∧
      (coilEvent (.memberRelease 16 (some 0) .none true 0 0)).coils[16].occupancy = .vacant := by decide +kernel

/-- Two LIFTED records whose signatures lie where the pan of slot 0 settles, and one in slot 5 that lies elsewhere. -/
def twoLifted : State :=
  let record (x : Nat) : PanRecord :=
    { placedPan with pres := { PresencePart.freed 5 with presence := .lifted, grace := some 9, signature := some ⟨x, 50, 300, .ferritic⟩ } }
  { frameEnds fun r => { r with presence := .forming, settle := work.settleFrames - 1 } with
    pans := (((frameEnds fun r => { r with presence := .forming, settle := work.settleFrames - 1 }).pans.set 3 (record 20)).set 4
      (record 21)).set 5 (record 900)
    pt := { hob.pt with liftOrder := [3, 4, 5] } }

theorem test_witness_SettlingMatches :
    let r := twoLifted.pans[0].pres
    (r.presence = .forming ∧ r.changed = false ∧ twoLifted.ts.work.settleFrames ≤ r.settle + 1) ∧
      twoLifted.pt.liftOrder = [3] ++ 4 :: [5] ∧ Matches twoLifted 4 0 ∧ (∀ v ∈ [(5 : PanSlot)], ¬ Matches twoLifted v 0) ∧
      (settleCount twoLifted 0).pans[4].pres.members = [0, 4] ∧ (settleCount twoLifted 0).pans[3].pres.presence = .lifted ∧
      (settleCount { twoLifted with pt := { hob.pt with liftOrder := [5] } } 0).pans[0].pres.presence = .placed := by
  refine ⟨by decide +kernel, by decide +kernel, ⟨_, rfl, by decide +kernel⟩, ?_, by decide +kernel⟩
  intro v hv
  obtain rfl := List.mem_singleton.mp hv
  rintro ⟨g, hg, _, _, hx, _⟩
  obtain rfl : _ = g := Option.some.inj hg
  revert hx
  decide +kernel

theorem test_witness_OrphansAreServed :
    let s : State := { hob with coils := hob.coils.set 63 (coil .sensed none 100), pt := { hob.pt with orphans := [63] } }
    (s.pt.examQueue = [] ∧ s.pt.orphans = 63 :: [] ∧ s.pans[1].pres.presence = .free ∧ (serveOrphans s).coils[63].owner = some 1) ∧
      (∀ p : PanSlot, (allTaken .forming [] [63]).pans[p].pres.presence ≠ .free) ∧
      (let s : State := { liftedPan .idle with pt := { hob.pt with graceDue := [0] } };
        s.pt.graceDue = 0 :: [] ∧ s.pans[0].pres.presence = .lifted ∧ s.pans[0].pres.grace ≠ some 0) := by decide +kernel

theorem test_witness_RecomputeGrants :
    hob.hs.requests = [] ++ 0 :: [] ∧ (0 : Fin 3).val = hob.ts.work.t1[(0 : CoilId)].cls.val ∧ eligible hob 0 = true ∧
      eligible hob 8 = false := by decide +kernel

theorem test_witness_DealingPlacesOrDrops :
    let n := snapOf [level2Pan] []
    let full : Dealing := ⟨List.replicate 16 [⟨33, 0, 300⟩], [0, 0], 0⟩
    (setpointOf level2Pan, firingCount 16 level2Pan) = (300, 10) ∧ firingCount 16 { level2Pan with g := 0 } = 0 ∧
      level2Pan.eligible[0]? = some (33, 1400) ∧ (dealOne n level2Pan ⟨emptyBank 16, [15, 0], 0⟩ 0).cursors = [0, 0] ∧
      (dealOne n level2Pan ⟨(emptyBank 16).set 15 [⟨33, 0, 300⟩], [15, 0], 0⟩ 0).cursors = [1, 0] ∧
      dealOne n level2Pan full 0 = full := by decide +kernel

/-! ### Events that still wait -/

/-- The hob in SUPPLY LOW, with events of before the fall. -/
def slotsWait : State :=
  { withPosts fun q => { q with ptFrameEnds := [2], puFrameEnds := [2], coilEvents := [.becameSensed 8 .ferritic] } with sup := supplyLow.sup }

/-- R23, R125: none of them is taken in SUPPLY LOW (log 52). -/
theorem test_slotsWaitInSupplyLow :
    (Settled slotsWait ∧ slotsWait.sup.hub = .supplyLow ∧ slotsWait.posts.ptFrameEnds ≠ []) ∧ after .becameSensed slotsWait = slotsWait ∧
      after .panTrackerFrameEnd slotsWait = slotsWait ∧ after .protectionFrameEnd slotsWait = slotsWait := by decide +kernel

/-- R163: a cell taken in SUPPLY LOW finds the hob HALTED (log 45). -/
theorem test_heatCellInSupplyLow :
    let s : State := { heatCell .setLevel 9 with sup := supplyLow.sup };
    (Settled s ∧ s.sup.hub = .supplyLow ∧ s.fe.hob = .running ∧ s.cp.heatQueue = ⟨0x03, .setLevel, 9⟩ :: []) ∧
      (after .setLevel s).fe.hob = .halted ∧ (after .setLevel s).cp.notices.map (·.kind) = [.heatRefused] := by decide +kernel

/-- R135: SUPPLY joins the trap set of a hob that the fall found STOPPED (log 45). -/
theorem test_causesAtTheRise :
    let u := after .supplyRiseAboveVOp { supplyLow with posts := { supplyLow.posts with haltCauses := [.supply] } };
    u.fe.hob = .stopped ∧ u.posts.haltCauses = [] ∧ u.pu.firstFault.isSome = true ∧ supplyLow.pu.firstFault = none := by decide +kernel

/-- R92, R101: START HOB finds no rebuild request to take, and a discard no swap notice (logs 40 and 49). -/
theorem test_whatStopsLeave :
    (after (.startHob 5 9) (stopped.modPosts fun q => { q with rebuilds := 2 })).posts.rebuilds = 0 ∧
      (after .discard (withPosts fun q => { q with scheduler := [.discard], swaps := 1 })).posts.swaps = 0 := by decide +kernel

/-- R85: SET DERATE recomputes at once (log 46). -/
theorem test_setDerateRecomputes :
    (after (.setDerate 5 9 0 32) hob).posts.triggers = [] ∧ (after (.setDerate 5 9 0 32) hob).pans[0].alloc.k1 = 2 * (800 * 32 / 128) := by decide +kernel

/-- Every slot LIFTED, the first in the lift order with a context, a program and an allocation left. -/
def heldInSlot5 : State :=
  (allTaken .lifted [5, 1, 2, 3, 4, 6, 7] []).modPan 5 fun r =>
    { r with heat := { HeatPart.idle with state := .suspended, level := 4 }, program := [⟨9, 60, .next⟩], alloc := placedPan.alloc }

/-- R28, R67, R72: a pan founded in it starts IDLE, with an empty store and no allocation (log 55). -/
theorem test_witness_FoundingFindsTheSlotReady :
    SlotClear hob 1 ∧
      (let s := retired heldInSlot5 5 .evicted;
        .retirement 5 ∈ s.posts.pans ∧ .retirement 5 ∉ (finishPans s).posts.pans ∧ (discarded (finishPans s) 5).pans[5].alloc ≠ .zero) ∧
      (.retirement 1 ∉ hob.posts.pans ∧ (discarded hob 1).pans[1].alloc = .zero) ∧
      (let u := examine heldInSlot5 63; SlotClear u 5 ∧ u.pans[5].pres.presence = .forming ∧ u.posts.pans = []) := by decide +kernel

/-- A forced exit that releases members, with events of the Pan Tracker waiting. -/
def exitWaits (e : CoilEvent) : State :=
  (service brokenWork).modPosts fun q => { q with coilEvents := [e], ptFrameEnds := [2], ptSeconds := 1 }

/-- R11, R20: they are taken before the release (log 56). -/
theorem test_witness_ReleasesFindEventsTaken :
    let s := exitWaits (.memberRelease 0 (some 0) .none true 1 1);
    (Settled s ∧ s.ts.service = true ∧ s.sup.hub ≠ .supplyLow ∧ (validate s.ts.work).isNone = false) ∧ s.coils[0].occupancy = .member ∧
      (s.posts.ptFrameEnds ≠ [] ∧ 0 < s.posts.ptSeconds ∧ s.posts.coilEvents ≠ []) ∧
      (∀ e ∈ [CoilEvent.becameSensed 8 .ferritic, .released 8 .none, .materialChanged 4 (some 0) .layered, .memberRelease 0 (some 0) .none true 0 0],
        (exitWaits e).posts.coilEvents = e :: []) ∧
      (let u := after .serviceStrapRelease s;
        u.posts.releases = [0] ∧ u.posts.coilEvents = [] ∧ u.posts.ptFrameEnds = [] ∧ u.posts.ptSeconds = 0) ∧
      ∀ k : CoilId, ready.coils[k].occupancy ≠ .member := by decide +kernel

/-- R178: the check value of the nine digits. -/
theorem test_crc : crc [0x31, 0x32, 0x33, 0x34, 0x35, 0x36, 0x37, 0x38, 0x39] = 0x29B1 := by decide +kernel

theorem test_witness_Layouts :
    (hob.pans[0].pres.signature = some ⟨20, 50, 300, .ferritic⟩ ∧ hob.pans[1].pres.signature = none) ∧
      (hob.pans[0].alloc.basis = some (9, 9) ∧ hob.pans[1].alloc.basis = none) ∧
      hob.pans[0].program[1]? = some ⟨4, 0, .next⟩ ∧ hob.ts.work.t2[(0 : CoilId)][0]? = some 4 ∧
      comesBack.pans[3].pres.liftedAt = some 4 ∧
      ((legOf0 1 (some 2) false).pu.legs[0].windowStart = some 2 ∧ hob.pu.legs[0].windowStart = none ∧ hob.pu.firstFault = none) ∧
      (openRecord true).drive[0] = .fire 0 100 0 ∧ (openRecord true).drive[1] = .none ∧
      [coverageOf 400 9000 400, coverageOf 400 9000 401, coverageOf 400 9000 9000] = [0, 0, 200] := by decide +kernel

end Sys2Proof.Tests
end

section
/-! The range selection of R6 and R7 (spec/01_coil_sensing.md, section 1.5): the new range mode of a PROBE measurement row by row, the
reading that follows it, and what a FIRING measurement does whatever the range mode. -/

namespace Sys2Proof.Machine

theorem rangeAfter_fine_of_lt {fine : Nat} (h : fine < 3584) : rangeAfter .fine fine = .fine := if_pos h

theorem rangeAfter_fine_of_le {fine : Nat} (h : 3584 ≤ fine) : rangeAfter .fine fine = .coarse := if_neg (Nat.not_lt.mpr h)

theorem rangeAfter_coarse_of_lt {fine : Nat} (h : fine < 3072) : rangeAfter .coarse fine = .fine := if_pos h

theorem rangeAfter_coarse_of_le {fine : Nat} (h : 3072 ≤ fine) : rangeAfter .coarse fine = .coarse := if_neg (Nat.not_lt.mpr h)

@[simp] theorem measuredRange_probe (range : RangeMode) (fine : Nat) : measuredRange .probe range fine = rangeAfter range fine := rfl

@[simp] theorem measuredRange_firing (range : RangeMode) (fine : Nat) : measuredRange .firing range fine = range := rfl

@[simp] theorem measuredV_firing (range : RangeMode) (fine coarse : Nat) : measuredV .firing range fine coarse = coarse * 8 := rfl

/-- R6: a probe that ends in FINE has used the fine reading. -/
theorem probe_of_rangeAfter_fine {range : RangeMode} {fine : Nat} (coarse : Nat) (h : rangeAfter range fine = .fine) :
    measuredV .probe range fine coarse = fine ∧ measuredRange .probe range fine = .fine := by
  simp [measuredV, h]

/-- R6: a probe that ends in COARSE has used the coarse reading. -/
theorem probe_of_rangeAfter_coarse {range : RangeMode} {fine : Nat} (coarse : Nat) (h : rangeAfter range fine = .coarse) :
    measuredV .probe range fine coarse = coarse * 8 ∧ measuredRange .probe range fine = .coarse := by
  simp [measuredV, h]

/-- Settles O35: R6's table by the new range mode of each row, which the reading follows, and R7 in every range mode. -/
theorem readingAndRangeOfAMeasurement : Obligations.ReadingAndRangeOfAMeasurement := by
  intro fine coarse
  refine ⟨?fineBelow, ?fineAbove, ?coarseBelow, ?coarseAbove, ?firing⟩
  case fineBelow => exact fun h => probe_of_rangeAfter_fine coarse (rangeAfter_fine_of_lt h)
  case fineAbove => exact fun h => probe_of_rangeAfter_coarse coarse (rangeAfter_fine_of_le h)
  case coarseBelow => exact fun h => probe_of_rangeAfter_fine coarse (rangeAfter_coarse_of_lt h)
  case coarseAbove => exact fun h => probe_of_rangeAfter_coarse coarse (rangeAfter_coarse_of_le h)
  case firing => exact fun range => ⟨measuredV_firing range fine coarse, measuredRange_firing range fine⟩

end Sys2Proof.Machine
end

section
/-! The swap notice of R101 (spec/05_slot_programs.md, section 5.2.3): how a build begins (R93), what a swap notice does by stage, rerun flag
and hob state, and the command that takes it. -/

namespace Sys2Proof.Machine

/-! ### The start of a build (R93) -/

/-- R93: the snapshot takes nothing of the Slot Scheduler's own items. -/
@[simp] theorem snapshotOf_modSs (s : State) (f : Scheduler → Scheduler) : snapshotOf (s.modSs f) = snapshotOf s := rfl

/-- R93: the snapshot takes nothing of the posts that wait. -/
@[simp] theorem snapshotOf_modPosts (s : State) (f : Posts → Posts) : snapshotOf (s.modPosts f) = snapshotOf s := rfl

/-- R93: what a build begins with comes from the state only through the snapshot. -/
theorem gathering_congr {s t : State} (h : snapshotOf s = snapshotOf t) : gathering s = gathering t := by
  funext c
  simp only [gathering, h]

/-- R93: in a RUNNING hob the build begins. -/
theorem startGather_running {s : State} (h : s.fe.hob = .running) : startGather s = s.modSs (gathering s) := if_pos h

/-- R93: with the hob not RUNNING the build does not proceed. -/
theorem startGather_of_not_running {s : State} (h : s.fe.hob ≠ .running) :
    startGather s =
      s.modSs fun c => { c with stage := .idle, rerun := false, snapshot := none, cursors := none, results := none } := if_neg h

/-! ### The swap notice (R101) -/

/-- R101: a swap notice is ignored in any stage but READY. -/
theorem takeSwapNotice_of_not_ready {s : State} (h : s.ss.stage ≠ .ready) : takeSwapNotice s = s := if_pos h

/-- R101: in READY, without the rerun flag, the offer ends and the stage is IDLE. -/
theorem takeSwapNotice_ready {s : State} (h : s.ss.stage = .ready) (r : s.ss.rerun = false) :
    takeSwapNotice s = s.modSs fun c => { c with stage := .idle, restarts := 0 } := by
  simp [takeSwapNotice, h, r]

/-- R101: in READY, with the rerun flag, the restart count is cleared and then GATHER starts. -/
theorem takeSwapNotice_rerun {s : State} (h : s.ss.stage = .ready) (r : s.ss.rerun = true) :
    takeSwapNotice s = startGather (s.modSs fun c => { c with restarts := 0 }) := by
  simp [takeSwapNotice, h, r]

/-- R101, R93: in a RUNNING hob the rerun is a new build, of the hob as it stands at the notice. -/
theorem takeSwapNotice_rerun_running {s : State} (h : s.ss.stage = .ready) (r : s.ss.rerun = true) (running : s.fe.hob = .running) :
    takeSwapNotice s = s.modSs fun c => gathering s { c with restarts := 0 } := by
  let cleared := s.modSs fun c => { c with restarts := 0 }
  calc takeSwapNotice s
      = startGather cleared := takeSwapNotice_rerun h r
    _ = cleared.modSs (gathering cleared) := startGather_running (s := cleared) running
    _ = cleared.modSs (gathering s) := congrArg cleared.modSs (gathering_congr (snapshotOf_modSs s _))

/-- R101, R93: with the hob not RUNNING the rerun does not proceed: the stage is IDLE and the rerun flag clear. -/
theorem takeSwapNotice_rerun_of_not_running {s : State} (h : s.ss.stage = .ready) (r : s.ss.rerun = true)
    (still : s.fe.hob ≠ .running) :
    takeSwapNotice s =
      s.modSs fun c =>
        { c with stage := .idle, rerun := false, restarts := 0, snapshot := none, cursors := none, results := none } :=
  (takeSwapNotice_rerun h r).trans (startGather_of_not_running (s := s.modSs fun c => { c with restarts := 0 }) still)

/-! ### The command -/

/-- A swap notice that waits is taken from its channel and then acts. -/
theorem exec_swapNotice {s : State} (settled : Settled s) (waits : 0 < s.posts.swaps) :
    exec .swapNotice s = .next (takeSwapNotice (s.modPosts fun q => { q with swaps := q.swaps - 1 })) :=
  calc exec .swapNotice s
      = execSwapNotice s := rfl
    _ = .next (if s.posts.swaps = 0 then s else takeSwapNotice (s.modPosts fun q => { q with swaps := q.swaps - 1 })) :=
        run_settled settled _
    _ = .next (takeSwapNotice (s.modPosts fun q => { q with swaps := q.swaps - 1 })) := by rw [if_neg waits.ne']

/-- Settles O49: by the stage, the rerun flag and the hob state in which the notice, out of its channel, is taken. -/
theorem swapNoticesEndTheOffer : Obligations.SwapNoticesEndTheOffer := by
  intro s settled waits u
  have taken : exec .swapNotice s = .next (takeSwapNotice u) := exec_swapNotice settled waits
  have begun : gathering u = gathering s := gathering_congr (snapshotOf_modPosts s fun q => { q with swaps := q.swaps - 1 })
  rw [taken]
  refine ⟨?ignored, ?ended, ?rerunRunning, ?rerunNotRunning⟩
  case ignored =>
    exact fun stage => congrArg Host.Outcome.next (takeSwapNotice_of_not_ready (s := u) stage)
  case ended =>
    exact fun stage rerun => congrArg Host.Outcome.next (takeSwapNotice_ready (s := u) stage rerun)
  case rerunRunning =>
    intro stage rerun running
    rw [← begun]
    exact congrArg Host.Outcome.next (takeSwapNotice_rerun_running (s := u) stage rerun running)
  case rerunNotRunning =>
    exact fun stage rerun still => congrArg Host.Outcome.next (takeSwapNotice_rerun_of_not_running (s := u) stage rerun still)

end Sys2Proof.Machine
end

section
/-! The footprint of an operation: which parts of the state it may touch. A part is what one rule of the specification speaks of; an operation
keeps every part that its footprint does not list. The clock and the silence timer are kept in the sense the rules need: the one never
runs back (log 1), the other does not start. -/

namespace Sys2Proof.Machine

-- The default arguments `by decide` wait for the kernel: one declaration after the other holds few threads.
set_option Elab.async false

/-- The parts of the state that an operation keeps or touches. -/
inductive Part where
  | pending | clock | draws | links | pins | hub | tables | commit | recalling | owners | readings | legOut | members | figures | heatStates
  | heats | programs | allocs | schedules | delivered | liftOrder | orphans | examQueue | graceDue | requests | stepLists | deratings
  | budget | stage | bankA | bankB | build | hob | unlockTimer | swapPending | awaiting | emitted | mains | frames | legs | hot | faults
  | dues | boards | orders | silence | heatQueue | notices | noticesFit | scheduler | posts
  deriving DecidableEq

/-- What it means that a part is kept from `s` to `u`. -/
def Part.Kept (s u : State) : Part → Prop
  | .pending => u.pending = s.pending
  | .clock => s.now ≤ u.now
  | .draws => u.draws = s.draws
  | .links => (u.upLine, u.boardLines) = (s.upLine, s.boardLines)
  | .pins => (u.sup.level, u.sup.resetLine, u.sup.strap, u.sup.seenReleased) = (s.sup.level, s.sup.resetLine, s.sup.strap, s.sup.seenReleased)
  | .hub => u.sup.hub = s.sup.hub
  | .tables => { u.ts with commit := none, recalling := false } = { s.ts with commit := none, recalling := false }
  | .commit => u.ts.commit = s.ts.commit
  | .recalling => u.ts.recalling = s.ts.recalling
  | .owners => (fun k : CoilId => (u.coils[k].occupancy, u.coils[k].owner)) = fun k : CoilId => (s.coils[k].occupancy, s.coils[k].owner)
  | .readings =>
    (fun k : CoilId => { u.coils[k] with occupancy := .absent, owner := none }) =
      fun k : CoilId => { s.coils[k] with occupancy := .absent, owner := none }
  | .legOut => u.legOut = s.legOut
  | .members =>
    (fun p : PanSlot => (u.pans[p].pres.presence, u.pans[p].pres.members)) =
      fun p : PanSlot => (s.pans[p].pres.presence, s.pans[p].pres.members)
  | .figures =>
    (fun p : PanSlot => { u.pans[p].pres with presence := .free, members := [] }) =
      fun p : PanSlot => { s.pans[p].pres with presence := .free, members := [] }
  | .heatStates => (fun p : PanSlot => u.pans[p].heat.state) = fun p : PanSlot => s.pans[p].heat.state
  | .heats => (fun p : PanSlot => { u.pans[p].heat with state := .idle }) = fun p : PanSlot => { s.pans[p].heat with state := .idle }
  | .programs => (fun p : PanSlot => u.pans[p].program) = fun p : PanSlot => s.pans[p].program
  | .allocs => (fun p : PanSlot => u.pans[p].alloc) = fun p : PanSlot => s.pans[p].alloc
  | .schedules =>
    (fun p : PanSlot => (u.pans[p].scheduled, u.pans[p].dropped)) = fun p : PanSlot => (s.pans[p].scheduled, s.pans[p].dropped)
  | .delivered => (fun p : PanSlot => u.pans[p].delivered) = fun p : PanSlot => s.pans[p].delivered
  | .liftOrder => u.pt.liftOrder = s.pt.liftOrder
  | .orphans => u.pt.orphans = s.pt.orphans
  | .examQueue => u.pt.examQueue = s.pt.examQueue
  | .graceDue => u.pt.graceDue = s.pt.graceDue
  | .requests => u.hs.requests = s.hs.requests
  | .stepLists => (u.hs.held, u.hs.stepDue, u.hs.stepChanged) = (s.hs.held, s.hs.stepDue, s.hs.stepChanged)
  | .deratings => u.ba.derating = s.ba.derating
  | .budget => u.ba.figures = s.ba.figures
  | .stage => u.ss.stage = s.ss.stage
  | .bankA => u.ss.bankA = s.ss.bankA
  | .bankB => u.ss.bankB = s.ss.bankB
  | .build => { u.ss with stage := .idle, bankA := [], bankB := [] } = { s.ss with stage := .idle, bankA := [], bankB := [] }
  | .hob => u.fe.hob = s.fe.hob
  | .unlockTimer => u.fe.unlockTimer = s.fe.unlockTimer
  | .swapPending => u.fe.swapPending = s.fe.swapPending
  | .awaiting => u.fe.awaiting = s.fe.awaiting
  | .emitted => u.fe.emitted = s.fe.emitted
  | .mains =>
    (u.fe.lock, u.fe.lockCount, u.fe.lastCrossing, u.fe.lastLoss) = (s.fe.lock, s.fe.lockCount, s.fe.lastCrossing, s.fe.lastLoss)
  | .frames =>
    (u.fe.f, u.fe.q, u.fe.freq, u.fe.frameOpen, u.fe.slotIndex, u.fe.serial, u.fe.frameCount, u.fe.activeBank, u.fe.probe, u.fe.seconds) =
      (s.fe.f, s.fe.q, s.fe.freq, s.fe.frameOpen, s.fe.slotIndex, s.fe.serial, s.fe.frameCount, s.fe.activeBank, s.fe.probe, s.fe.seconds)
  | .legs => u.pu.legs = s.pu.legs
  | .hot => u.pu.hot = s.pu.hot
  | .faults => (u.pu.firstFault, u.pu.traps) = (s.pu.firstFault, s.pu.traps)
  | .dues => (u.pu.cooldownDue, u.pu.windowDue) = (s.pu.cooldownDue, s.pu.windowDue)
  | .boards => u.boards = s.boards
  | .orders =>
    { u.cp with silence := none, heatQueue := [], notices := [], gap := false } =
      { s.cp with silence := none, heatQueue := [], notices := [], gap := false }
  | .silence => s.cp.silence = none → u.cp.silence = none
  | .heatQueue => u.cp.heatQueue = s.cp.heatQueue
  | .notices => (u.cp.notices, u.cp.gap) = (s.cp.notices, s.cp.gap)
  | .noticesFit => s.cp.notices.length ≤ 32 → u.cp.notices.length ≤ 32
  | .scheduler => u.posts.scheduler = s.posts.scheduler
  | .posts => { u.posts with scheduler := [] } = { s.posts with scheduler := [] }

theorem Part.Kept.refl (q : Part) (s : State) : q.Kept s s := by
  cases q <;> simp [Part.Kept]

theorem Part.Kept.trans {q : Part} {s t u : State} (h : q.Kept s t) (g : q.Kept t u) : q.Kept s u := by
  cases q
  case clock => exact Nat.le_trans h g
  case silence => exact fun n => g (h n)
  case noticesFit => exact fun n => g (h n)
  all_goals exact Eq.trans g h

/-- What leads from `s` to `u` touches the parts of `l` only. -/
def Touches (l : List Part) (s u : State) : Prop := ∀ q : Part, q ∉ l → q.Kept s u

namespace Touches

variable {l m : List Part} {s t u : State}

theorem refl (l : List Part) (s : State) : Touches l s s := fun q _ => .refl q s

theorem trans (h : Touches l s t) (g : Touches l t u) : Touches l s u := fun q n => (h q n).trans (g q n)

theorem mono (h : Touches l s u) (sub : l ⊆ m := by decide) : Touches m s u := fun q n => h q fun e => n (sub e)

/-- A part outside the footprint is kept. -/
theorem kept (h : Touches l s u) (q : Part) (n : q ∉ l := by decide) : q.Kept s u := h q n

/-- One operation after another. -/
theorem after {k : List Part} (g : Touches m t u) (h : Touches l s t) (sub : l ++ m ⊆ k := by decide) : Touches k s u :=
  fun q n => (h q fun e => n (sub (List.mem_append_left m e))).trans (g q fun e => n (sub (List.mem_append_right l e)))

/-- A loop of operations. -/
theorem foldl {α : Type} {f : State → α → State} (h : ∀ v a, Touches l v (f v a)) (as : List α) (s : State) :
    Touches l s (as.foldl f s) := by
  induction as generalizing s with
  | nil => exact refl l s
  | cons a as ih => exact (h s a).trans (ih (f s a))

/-- An operation made several times. -/
theorem iterate {f : State → State} (h : ∀ v, Touches l v (f v)) (n : Nat) (s : State) : Touches l s (f^[n] s) := by
  induction n generalizing s with
  | zero => exact refl l s
  | succ n ih => exact (h s).trans (ih (f s))

/-- A tail of operations. -/
theorem repeatTail {f : State → State} (h : ∀ v, Touches l v (f v)) (n : Nat) (s : State) : Touches l s (repeatTail f n s) := by
  induction n generalizing s with
  | zero => exact refl l s
  | succ n ih => exact (h s).trans (ih (f s))

/-- Either branch of a test. -/
theorem ite {c : Prop} [Decidable c] (h : Touches l s t) (g : Touches l s u) : Touches l s (if c then t else u) := by
  split
  · exact h
  · exact g

end Touches

end Sys2Proof.Machine
end

section
/-! What each operation may touch: the footprint of the updates of one item, and of the operations every block uses. -/

namespace Sys2Proof.Machine

-- The default arguments `by decide` wait for the kernel: one declaration after the other holds few threads.
set_option Elab.async false

/-! ### Updates of one item -/

theorem arrive_touches (s : State) (t : Time) : Touches [] s (s.arrive t) := by
  intro q _
  cases q <;> first | rfl | exact Nat.le_max_left _ _ | exact id

theorem modLegOut_touches (s : State) (l : LegId) (f : OutSet → OutSet) : Touches [.legOut] s (s.modLegOut l f) := by
  intro q n
  cases q <;> first | exact absurd (by decide) n | rfl | exact le_rfl | exact id

theorem modLeg_touches (s : State) (l : LegId) (f : LegRecord → LegRecord) : Touches [.legs] s (s.modLeg l f) := by
  intro q n
  cases q <;> first | exact absurd (by decide) n | rfl | exact le_rfl | exact id

theorem modBoard_touches (s : State) (b : BoardId) (f : BoardPort → BoardPort) : Touches [.boards] s (s.modBoard b f) := by
  intro q n
  cases q <;> first | exact absurd (by decide) n | rfl | exact le_rfl | exact id

theorem modPosts_touches (s : State) (f : Posts → Posts) (h : (f s.posts).scheduler = s.posts.scheduler := by rfl) :
    Touches [.posts] s (s.modPosts f) := by
  intro q n
  cases q <;> first | rfl | exact le_rfl | exact id | exact h | exact absurd (by decide) n

theorem modPosts_touches_scheduler (s : State) (f : Posts → Posts) : Touches [.posts, .scheduler] s (s.modPosts f) := by
  intro q n
  cases q <;> first | exact absurd (by decide) n | rfl | exact le_rfl | exact id

theorem modSs_touches (s : State) (f : Scheduler → Scheduler) : Touches [.stage, .bankA, .bankB, .build] s (s.modSs f) := by
  intro q n
  cases q <;> first | exact absurd (by decide) n | rfl | exact le_rfl | exact id

theorem modSs_touches_build (s : State) (f : Scheduler → Scheduler) (a : (f s.ss).bankA = s.ss.bankA := by rfl)
    (b : (f s.ss).bankB = s.ss.bankB := by rfl) : Touches [.stage, .build] s (s.modSs f) := by
  intro q n
  cases q <;> first | rfl | exact le_rfl | exact id | exact a | exact b | exact absurd (by decide) n

theorem modHs_touches_lists (s : State) (f : HeatLists → HeatLists) (h : (f s.hs).requests = s.hs.requests := by rfl) :
    Touches [.stepLists] s (s.modHs f) := by
  intro q n
  cases q <;> first | rfl | exact le_rfl | exact id | exact h | exact absurd (by decide) n

theorem modCoil_touches (s : State) (k : CoilId) (f : CoilRecord → CoilRecord) : Touches [.owners, .readings] s (s.modCoil k f) := by
  intro q n
  cases q <;> first | exact absurd (by decide) n | rfl | exact le_rfl | exact id

theorem modCoil_touches_readings (s : State) (k : CoilId) (f : CoilRecord → CoilRecord)
    (o : (f s.coils[k]).occupancy = s.coils[k].occupancy := by rfl) (w : (f s.coils[k]).owner = s.coils[k].owner := by rfl) :
    Touches [.readings] s (s.modCoil k f) := by
  intro q n
  cases q
  case owners =>
    funext j
    rw [State.modCoil_get]
    split
    · subst j; rw [o, w]
    · rfl
  all_goals first | rfl | exact le_rfl | exact id | exact absurd (by decide) n

theorem modPres_touches (s : State) (p : PanSlot) (f : PresencePart → PresencePart) :
    Touches [.members, .figures] s (s.modPres p f) := by
  intro q n
  cases q
  case heatStates | heats | programs | allocs | schedules | delivered =>
    all_goals
      funext r
      rw [State.modPres_get]
      split
      · subst r; rfl
      · rfl
  all_goals first | rfl | exact le_rfl | exact id | exact absurd (by decide) n

theorem modPres_touches_figures (s : State) (p : PanSlot) (f : PresencePart → PresencePart)
    (o : (f s.pans[p].pres).presence = s.pans[p].pres.presence := by rfl)
    (w : (f s.pans[p].pres).members = s.pans[p].pres.members := by rfl) : Touches [.figures] s (s.modPres p f) := by
  intro q n
  by_cases h : q = .members
  · subst h
    funext r
    rw [State.modPres_get]
    split
    · subst r; rw [o, w]
    · rfl
  · refine modPres_touches s p f q fun e => ?_
    simp_all

theorem modHeat_touches (s : State) (p : PanSlot) (f : HeatPart → HeatPart) : Touches [.heatStates, .heats] s (s.modHeat p f) := by
  intro q n
  cases q
  case members | figures | programs | allocs | schedules | delivered =>
    all_goals
      funext r
      rw [State.modHeat_get]
      split
      · subst r; rfl
      · rfl
  all_goals first | rfl | exact le_rfl | exact id | exact absurd (by decide) n

theorem modHeat_touches_heats (s : State) (p : PanSlot) (f : HeatPart → HeatPart)
    (o : (f s.pans[p].heat).state = s.pans[p].heat.state := by rfl) : Touches [.heats] s (s.modHeat p f) := by
  intro q n
  by_cases h : q = .heatStates
  · subst h
    funext r
    rw [State.modHeat_get]
    split
    · subst r; rw [o]
    · rfl
  · refine modHeat_touches s p f q fun e => ?_
    simp_all

theorem setProgram_touches (s : State) (p : PanSlot) (program : List ProgramStep) :
    Touches [.programs] s (s.modPan p fun r => { r with program := program }) := by
  intro q n
  cases q
  case heatStates | heats | members | figures | allocs | schedules | delivered =>
    all_goals
      funext r
      rw [State.modPan_get]
      split
      · subst r; rfl
      · rfl
  all_goals first | rfl | exact le_rfl | exact id | exact absurd (by decide) n

/-! ### Notices and posts -/

theorem queueNotice_touches (s : State) (kind : NoticeKind) (subject : Byte) (first second : Nat) :
    Touches [.notices] s (queueNotice s kind subject first second) := by
  intro q n
  cases q
  case noticesFit => exact fun h => queueNotice_fits h kind subject first second
  all_goals rw [queueNotice_frame]; first | rfl | exact le_rfl | exact id | exact absurd (by decide) n

theorem noticeCentroid_touches (s : State) (kind : NoticeKind) (p : PanSlot) : Touches [.notices] s (noticeCentroid s kind p) :=
  queueNotice_touches s _ _ _ _

theorem refuseHeat_touches (s : State) (handle : Byte) (reason : HeatReason) (level : Nat) :
    Touches [.notices] s (refuseHeat s handle reason level) :=
  queueNotice_touches s _ _ _ _

theorem postTrigger_touches (s : State) (e : Trigger) : Touches [.posts] s (postTrigger s e) := modPosts_touches s _

theorem postRebuild_touches (s : State) : Touches [.posts] s (postRebuild s) := modPosts_touches s _

theorem postMembership_touches (s : State) (p : PanSlot) : Touches [.posts] s (postMembership s p) :=
  (postRebuild_touches _).after (postTrigger_touches _ _)

theorem postCmBoard_touches (s : State) (b : BoardId) (e : BoardPost) : Touches [.posts] s (postCmBoard s b e) := modPosts_touches s _

theorem postPuBoard_touches (s : State) (b : BoardId) (e : BoardPost) : Touches [.posts] s (postPuBoard s b e) := modPosts_touches s _

theorem postHaltCause_touches (s : State) (e : HaltCause) : Touches [.posts] s (postHaltCause s e) := modPosts_touches s _

theorem postHobClaim_touches (s : State) (e : HobClaim) : Touches [.posts] s (postHobClaim s e) := modPosts_touches s _

theorem postPan_touches (s : State) (e : PanPost) : Touches [.posts] s (postPan s e) := modPosts_touches s _

/-! ### Orders -/

/-- A change of the items of the order in progress. -/
theorem modCp_touches_orders (s : State) (f : ControllerPort → ControllerPort) (a : (f s.cp).silence = s.cp.silence := by rfl)
    (b : (f s.cp).heatQueue = s.cp.heatQueue := by rfl) (c : (f s.cp).notices = s.cp.notices := by rfl)
    (d : (f s.cp).gap = s.cp.gap := by rfl) : Touches [.orders] s (s.modCp f) := by
  intro q n
  cases q
  case silence => exact fun h => a.trans h
  case noticesFit => exact fun h => c ▸ h
  case notices => exact congrArg₂ Prod.mk c d
  all_goals first | rfl | exact le_rfl | exact b | exact absurd (by decide) n

theorem endOrder_touches (s : State) (condition : Condition) (sense : SenseRecord) :
    Touches [.orders] s (endOrder s condition sense) := by
  unfold endOrder
  split
  · exact .refl _ s
  · exact modCp_touches_orders s _

theorem endGood_touches (s : State) : Touches [.orders] s (endGood s) := endOrder_touches s _ _

theorem endCheck_touches (s : State) (key : SenseKey) (field detail : Nat) : Touches [.orders] s (endCheck s key field detail) :=
  endOrder_touches s _ _

theorem answerStatus_touches (s : State) (tag : Byte) (condition : Condition) : Touches [.orders] s (answerStatus s tag condition) :=
  .ite (modCp_touches_orders s _) (.refl _ s)

theorem reply_touches (s : State) (cells : List Payload) : Touches [.orders] s (reply s cells) := modCp_touches_orders s _

theorem openReply_touches (s : State) (cells : List Payload) : Touches [.draws, .orders] s (openReply s cells) := by
  refine (reply_touches _ _).after (l := [.draws]) ?_
  intro q n
  cases q <;> first | exact absurd (by decide) n | rfl | exact le_rfl | exact id

theorem enterDataOut_touches (s : State) (expected : Nat) (job : OrderJob) : Touches [.orders] s (enterDataOut s expected job) :=
  modCp_touches_orders s _

theorem enterCompleting_touches (s : State) : Touches [.orders] s (enterCompleting s) := modCp_touches_orders s _

theorem hearCell_touches (s : State) (t : Time) : Touches [] s (hearCell s t) := by
  intro q n
  cases q
  case silence => exact fun h => by simp [hearCell, h]
  all_goals first | rfl | exact Nat.le_max_left _ _ | exact id

theorem openOrder_touches (s : State) (tag : Byte) (code : Nat) : Touches [.orders] s (openOrder s tag code) :=
  modCp_touches_orders s _

/-- R156: what an order touches is what its judgement touches. -/
theorem takeOrder_touches {l : List Part} {judge : State → State} (s : State) (t : Time) (tag : Byte) (code : Nat)
    (h : ∀ v, Touches l v (judge v)) (sub : [.orders] ⊆ l := by decide) : Touches l s (takeOrder s t tag code judge) := by
  have heard : Touches l s (hearCell s t) := (hearCell_touches s t).mono (List.nil_subset l)
  refine .ite (heard.trans ((answerStatus_touches _ _ _).mono sub))
    (.ite (heard.trans ((answerStatus_touches _ _ _).mono sub)) ?_)
  exact (heard.trans ((openOrder_touches _ _ _).mono sub)).trans (h _)

/-! ### Off-nows, legs and faults -/

theorem sendOffNow_touches (s : State) (b : BoardId) (legs : Vector Bool 4) : Touches [.boards] s (sendOffNow s b legs) :=
  .ite (modBoard_touches s b _) (.refl _ s)

theorem offNowLeg_touches (s : State) (l : LegId) : Touches [.boards] s (offNowLeg s l) := sendOffNow_touches s _ _

theorem offNowAll_touches (s : State) : Touches [.boards] s (offNowAll s) := .foldl (fun v b => sendOffNow_touches v b _) _ s

theorem changeLeg_touches (s : State) (l : LegId) (f : LegRecord → LegRecord) : Touches [.legs, .posts] s (changeLeg s l f) := by
  have posted (g : LegRecord → LegRecord) (c : CoilClaim) :
      Touches [.legs, .posts] s (postTrigger (postCoilClaim (s.modLeg l g) c) (.legState l)) :=
    (postTrigger_touches _ _).after ((modPosts_touches _ _).after (modLeg_touches s l g) (k := [.legs, .posts]))
  exact .ite (posted _ _) (.ite (posted _ _) ((modLeg_touches s l f).mono))

theorem trap_touches (s : State) (kind : FaultKind) : Touches [.faults] s (trap s kind) := by
  intro q n
  cases q <;> first | exact absurd (by decide) n | rfl | exact le_rfl | exact id

theorem capture_touches (s : State) (kind : FaultKind) (board : Option BoardId) (leg : Option LegId) (coil : Option CoilId)
    (value : Nat) : Touches [.faults] s (capture s kind board leg coil value) := by
  unfold capture
  split
  · exact .refl _ s
  · intro q n
    cases q <;> first | exact absurd (by decide) n | rfl | exact le_rfl | exact id

theorem protective_touches (s : State) (kind : FaultKind) (board : Option BoardId) (leg : Option LegId) (coil : Option CoilId)
    (value : Nat) : Touches [.faults] s (protective s kind board leg coil value) :=
  .ite (.refl _ s) ((capture_touches _ _ _ _ _ _).after (trap_touches s kind))

/-! ### The Budget Allocator -/

theorem noticeLevel_touches (before s : State) (p : PanSlot) : Touches [.notices] s (noticeLevel before s p) := by
  unfold noticeLevel
  split
  · exact .refl _ s
  · exact .ite (queueNotice_touches s _ _ _ _) (.refl _ s)

theorem setAllocs_touches (s : State) (g : PanSlot → AllocPart) : Touches [.allocs] s (s.modPans fun p r => { r with alloc := g p }) := by
  intro q n
  cases q
  case members | figures | heatStates | heats | programs | schedules | delivered => all_goals funext r; rw [State.modPans_get]
  all_goals first | rfl | exact le_rfl | exact id | exact absurd (by decide) n

theorem setFigures_touches (s : State) (f : Figures) : Touches [.budget] s { s with ba := { s.ba with figures := f } } := by
  intro q n
  cases q <;> first | exact absurd (by decide) n | rfl | exact le_rfl | exact id

theorem recompute_touches (s : State) : Touches [.allocs, .budget, .notices, .posts] s (recompute s) := by
  have figured := (setFigures_touches _ (figuresOf s)).after (setAllocs_touches s (allocOf s (allGrants s))) (k := [.allocs, .budget])
  have told := (Touches.foldl (noticeLevel_touches s) s.hs.requests _).after figured (k := [.allocs, .budget, .notices])
  exact .ite ((postRebuild_touches _).after told) told.mono

theorem takeDerating_touches {l : List Part} {before after : State} (h : Touches l before after)
    (sub : [.allocs, .budget, .notices, .posts] ⊆ l := by decide) : Touches l before (takeDerating before after) :=
  .ite (h.trans ((recompute_touches after).mono sub)) h

theorem setDerating_touches (s : State) (d : Vector Derating 4) :
    Touches [.deratings] s { s with ba := { s.ba with derating := d } } := by
  intro q n
  cases q <;> first | exact absurd (by decide) n | rfl | exact le_rfl | exact id

theorem takeHeatsink_touches (s : State) (b : BoardId) (temp : Int) :
    Touches [.deratings, .allocs, .budget, .notices, .posts] s (takeHeatsink s b temp) :=
  takeDerating_touches (setDerating_touches s _).mono

theorem judgeDerate_touches (s : State) (board value : Byte) :
    Touches [.deratings, .allocs, .budget, .notices, .posts, .orders] s (judgeDerate s board value) := by
  unfold judgeDerate
  split
  · exact .ite (endCheck_touches s _ _ _).mono
      ((endGood_touches _).after (takeDerating_touches (l := [.deratings, .allocs, .budget, .notices, .posts])
        (setDerating_touches s _).mono))
  · exact (endCheck_touches s _ _ _).mono

/-! ### The Coil Monitor -/

theorem postMeasured_touches (s : State) (k : CoilId) (r : Report) (v : Verdict) (old : CoilRecord) :
    Touches [.posts] s (postMeasured s k r v old) := by
  have changed : Touches [.posts] s (if old.occupancy = .member ∧ old.material ≠ r.material then
      postCoilEvent s (.materialChanged k old.owner r.material) else s) := .ite (modPosts_touches s _) (.refl _ s)
  have eligible := Touches.ite (c := measuredEligibility old
      (if old.occupancy = .member ∧ old.material ≠ r.material then
        postCoilEvent s (.materialChanged k old.owner r.material) else s).coils[k] = true)
    ((postTrigger_touches _ (.eligibility k old.owner)).after changed (k := [.posts])) changed
  cases v with
  | sensed => exact modPosts_touches s _
  | released => exact .ite ((modPosts_touches _ _).after (modPosts_touches s _)) (modPosts_touches s _)
  | memberReleased => exact modPosts_touches s _
  | stays => exact eligible
  | run n => exact eligible

theorem takeMeasurement_touches (s : State) (k : CoilId) (r : Report) :
    Touches [.owners, .readings, .posts] s (takeMeasurement s k r) :=
  (postMeasured_touches _ _ _ _ _).after (modCoil_touches s k _)

theorem takeReport_touches (s : State) (r : Report) : Touches [.owners, .readings, .posts] s (takeReport s r) := by
  unfold takeReport
  split
  · exact .refl _ s
  · exact takeMeasurement_touches s _ r

theorem changeFlags_touches (s : State) (k : CoilId) (f : CoilRecord → CoilRecord)
    (o : (f s.coils[k]).occupancy = s.coils[k].occupancy := by rfl) (w : (f s.coils[k]).owner = s.coils[k].owner := by rfl) :
    Touches [.readings, .posts] s (changeFlags s k f) :=
  .ite ((postTrigger_touches _ _).after (modCoil_touches_readings s k f o w)) (modCoil_touches_readings s k f o w).mono

theorem claimHot_touches (s : State) (k : CoilId) (hot : Bool) : Touches [.readings, .posts] s (claimHot s k hot) :=
  .ite (.refl _ s) (changeFlags_touches s k _)

theorem loseSight_touches (s : State) (k : CoilId) : Touches [.readings, .posts] s (loseSight s k) :=
  .ite (.refl _ s) (changeFlags_touches s k _)

theorem legOutBy_touches (s : State) (l : LegId) (f : OutSet → OutSet) :
    Touches [.legOut, .readings, .posts] s (legOutBy s l f) :=
  .ite ((Touches.foldl loseSight_touches _ _).after (modLegOut_touches s l f)) (modLegOut_touches s l f).mono

theorem coilsBoardOut_touches (s : State) (b : BoardId) : Touches [.legOut, .readings, .posts] s (coilsBoardOut s b) :=
  .foldl (fun v l => legOutBy_touches v l _) _ s

theorem coilsBoardIn_touches (s : State) (b : BoardId) : Touches [.legOut] s (coilsBoardIn s b) :=
  .foldl (fun v l => modLegOut_touches v l _) _ s

theorem joinClaim_touches (s : State) (k : CoilId) (p : PanSlot) : Touches [.owners, .readings] s (joinClaim s k p) :=
  .ite (modCoil_touches s k _) (.refl _ s)

theorem unownClaim_touches (s : State) (k : CoilId) : Touches [.owners, .readings] s (unownClaim s k) :=
  .ite (modCoil_touches s k _) (.refl _ s)

theorem removeCoil_touches (s : State) (k : CoilId) : Touches [.owners, .readings, .hot] s (removeCoil s k) := by
  refine Touches.after (m := [.hot]) ?_ (modCoil_touches s k fun _ => .reset)
  intro q n
  cases q <;> first | exact absurd (by decide) n | rfl | exact le_rfl | exact id

theorem judgeCoilOrder_touches (s : State) (coil : Byte) (f : CoilRecord → CoilRecord) (o : ∀ r, (f r).occupancy = r.occupancy)
    (w : ∀ r, (f r).owner = r.owner) : Touches [.readings, .posts, .orders] s (judgeCoilOrder s coil f) := by
  unfold judgeCoilOrder
  split
  · exact .ite (endCheck_touches s _ _ _).mono ((endGood_touches _).after (changeFlags_touches s _ f (o _) (w _)))
  · exact (endCheck_touches s _ _ _).mono

/-! ### The Protection Unit -/

theorem trip_touches (s : State) (l : LegId) (cause : TripCause) (coil : Option CoilId) (value : Nat) :
    Touches [.legs, .posts, .notices, .faults] s (trip s l cause coil value) := by
  unfold trip
  split
  · exact .refl _ s
  · dsimp only
    have moved := (modPosts_touches _ _).after (changeLeg_touches s l (tripped s l)) (k := [.legs, .posts])
      (t := changeLeg s l (tripped s l)) (u := postOffNow (changeLeg s l (tripped s l)) l)
    have told := (queueNotice_touches _ .legTripped (BitVec.ofNat 8 l.val) cause.kind.code (tripCount s l)).after moved
      (k := [.legs, .posts, .notices])
    have both := Touches.ite (c := tripCount s l < 3) told
      ((queueNotice_touches _ .legLocked (BitVec.ofNat 8 l.val) (tripCount s l) 0).after told)
    have seen := (protective_touches _ cause.kind (some (legBoard l)) (some l) coil value).after both
      (k := [.legs, .posts, .notices, .faults])
    exact .ite seen ((trap_touches _ _).after seen)

theorem testOvershoot_touches (s : State) (r : Report) (d : LegDrive) :
    Touches [.legs, .posts, .notices, .faults] s (testOvershoot s r d) :=
  .ite (.refl _ s) (.ite (modLeg_touches s _ _).mono (.ite (trip_touches s _ _ _ _) (modLeg_touches s _ _).mono))

theorem setHot_touches (s : State) (k : CoilId) (hot : Bool) :
    Touches [.hot] s (s.modPu fun pu => { pu with hot := pu.hot.set k hot }) := by
  intro q n
  cases q <;> first | exact absurd (by decide) n | rfl | exact le_rfl | exact id

theorem coilCool_touches (s : State) (k : CoilId) (r : Report) : Touches [.hot, .posts, .notices] s (coilCool s k r) :=
  (queueNotice_touches _ _ _ _ _).after ((modPosts_touches _ _).after (setHot_touches s k false) (k := [.hot, .posts]))

theorem coilHot_touches (s : State) (k : CoilId) (r : Report) : Touches [.hot, .posts, .notices, .faults] s (coilHot s k r) := by
  have told : Touches [.hot, .posts, .notices] s _ :=
    (queueNotice_touches (postCoilClaim (s.modPu fun pu => { pu with hot := pu.hot.set k true }) (.hot k)) .coilHot
      (BitVec.ofNat 8 k.val) r.temp s.ts.work.hotLimit).after
      ((modPosts_touches _ _).after (setHot_touches s k true) (k := [.hot, .posts]))
  exact (protective_touches _ _ _ _ _ _).after
    (Touches.ite (c := r.mode = .firing) ((modPosts_touches _ _).after told (k := [.hot, .posts, .notices])) told)

theorem judgeTemperature_touches (s : State) (k : CoilId) (r : Report) :
    Touches [.hot, .posts, .notices, .faults] s (judgeTemperature s k r) :=
  .ite (.ite (coilCool_touches s k r).mono (.refl _ s)) (.ite (coilHot_touches s k r) (.refl _ s))

theorem protectReport_touches (s : State) (r : Report) (d : LegDrive) :
    Touches [.legs, .hot, .posts, .notices, .faults] s (protectReport s r d) := by
  unfold protectReport
  dsimp only
  have t1 := Touches.ite (c := r.trip = true) (trip_touches s r.globalLeg .boardTrip (faultCoil s r d) r.delivered) (.refl _ s)
  have t2 := Touches.ite (c := r.mode = .firing) ((testOvershoot_touches _ r d).after t1 (k := [.legs, .posts, .notices, .faults])) t1
  split
  · exact (judgeTemperature_touches _ _ r).after t2
  · exact t2.mono

theorem modPu_touches (s : State) (f : Protection → Protection) : Touches [.legs, .hot, .faults, .dues] s (s.modPu f) := by
  intro q n
  cases q <;> first | exact absurd (by decide) n | rfl | exact le_rfl | exact id

theorem setDues_touches (s : State) (c w : List LegId) :
    Touches [.dues] s (s.modPu fun pu => { pu with cooldownDue := c, windowDue := w }) := by
  intro q n
  cases q <;> first | exact absurd (by decide) n | rfl | exact le_rfl | exact id

theorem setLegs_touches (s : State) (legs : Vector LegRecord 16) : Touches [.legs] s (s.modPu fun pu => { pu with legs := legs }) := by
  intro q n
  cases q <;> first | exact absurd (by decide) n | rfl | exact le_rfl | exact id

theorem protectFrameEnd_touches (s : State) (frame : BitVec 16) : Touches [.legs, .dues] s (protectFrameEnd s frame) :=
  (setDues_touches _ _ _).after (setLegs_touches s _)

theorem expireCooldown_touches (s : State) : Touches [.dues, .legs, .posts] s (expireCooldown s) := by
  unfold expireCooldown
  split
  · exact .refl _ s
  · rename_i l rest _
    have popped : Touches [.dues] s (s.modPu fun pu => { pu with cooldownDue := rest }) := setDues_touches s rest s.pu.windowDue
    exact .ite ((changeLeg_touches _ _ _).after popped) popped.mono

theorem expireWindow_touches (s : State) : Touches [.dues, .legs] s (expireWindow s) := by
  unfold expireWindow
  split
  · exact .refl _ s
  · rename_i l rest _
    exact (modLeg_touches _ _ _).after (setDues_touches s s.pu.cooldownDue rest)

theorem legBoardOut_touches (s : State) (l : LegId) : Touches [.legs, .posts] s (legBoardOut s l) := by
  unfold legBoardOut
  split
  · exact changeLeg_touches s l _
  · exact changeLeg_touches s l _
  · exact .refl _ s
  · exact .refl _ s

theorem legBoardIn_touches (s : State) (l : LegId) : Touches [.legs, .posts] s (legBoardIn s l) := by
  unfold legBoardIn
  split
  · exact changeLeg_touches s l _
  all_goals exact .refl _ s

theorem legsOut_touches (s : State) (b : BoardId) : Touches [.legs, .posts] s (legsOut s b) := .foldl legBoardOut_touches _ s

theorem legsIn_touches (s : State) (b : BoardId) : Touches [.legs, .posts] s (legsIn s b) := .foldl legBoardIn_touches _ s

theorem protectBoardOut_touches (s : State) (b : BoardId) (failed : Bool) :
    Touches [.legs, .posts, .faults] s (protectBoardOut s b failed) :=
  (protective_touches _ _ _ _ _ _).after (legsOut_touches s b)

theorem takeHaltCause_touches (s : State) (c : HaltCause) : Touches [.posts, .faults] s (takeHaltCause s c) := by
  unfold takeHaltCause
  split
  · exact (modPosts_touches s _).mono
  · exact (protective_touches s _ _ _ _ _).mono
  · exact .refl _ s

theorem takeHalted_touches (s : State) (c : HaltCause) : Touches [.faults, .notices] s (takeHalted s c) :=
  (queueNotice_touches _ _ _ _ _).after ((trap_touches _ _).after (capture_touches s _ _ _ _ _) (k := [.faults]))

theorem takeLoss_touches (s : State) (c : LossCause) : Touches [.faults] s (takeLoss s c) := protective_touches s _ _ _ _ _

theorem unlockLeg_touches (s : State) (l : LegId) : Touches [.legs, .posts] s (unlockLeg s l) :=
  .ite (changeLeg_touches s l _) (.refl _ s)

theorem setFaults_touches (s : State) (fault : Option FaultRecord) (traps : BitVec 11) (legs : Vector LegRecord 16) :
    Touches [.legs, .faults] s (s.modPu fun pu => { pu with firstFault := fault, traps := traps, legs := legs }) := by
  intro q n
  cases q <;> first | exact absurd (by decide) n | rfl | exact le_rfl | exact id

theorem clearFault_touches (s : State) : Touches [.legs, .faults, .posts] s (clearFault s) := by
  have cleared := setFaults_touches s none 0 (Vector.ofFn fun l => clearTrips s.pu.legs[l])
  have unlocked := (Touches.foldl unlockLeg_touches allLegs _).after cleared (k := [.legs, .faults, .posts])
  exact (postHobClaim_touches _ .clear).after unlocked

/-! ### The Board Ports -/

theorem takeConfiguration_touches (valid : Bool) (s : State) (b : BoardId) :
    Touches [.boards, .posts] s (takeConfiguration valid s b) := by
  have removed : Touches [.boards, .posts] s (postRemoval (s.modBoard b unconfigure) b) :=
    (postTrigger_touches _ _).after ((modPosts_touches _ _).after ((modPosts_touches _ _).after (modBoard_touches s b _)
      (k := [.boards, .posts])) (k := [.boards, .posts]))
  exact .ite (.ite (modBoard_touches s b _).mono (.refl _ s))
    (.ite (.refl _ s) (.ite removed (modBoard_touches s b _).mono))

theorem takeBoards_touches (s : State) (valid : Bool) : Touches [.boards, .posts] s (takeBoards s valid) :=
  .foldl (takeConfiguration_touches valid) _ s

theorem boardOnline_touches (s : State) (b : BoardId) (unsolicited : Bool) :
    Touches [.boards, .posts, .notices] s (boardOnline s b unsolicited) := by
  unfold boardOnline
  dsimp only
  have told := (postPuBoard_touches _ b .into).after ((postCmBoard_touches _ b .into).after (modBoard_touches s b onlinePort)
      (k := [.boards, .posts])) (k := [.boards, .posts])
  have triggered := (postTrigger_touches _ (.boardState b)).after told (k := [.boards, .posts])
  exact (queueNotice_touches _ _ _ _ _).after triggered

theorem boardLeaves_touches (s : State) (b : BoardId) (failed : Bool) (cause : BoardCause) :
    Touches [.boards, .posts, .notices] s (boardLeaves s b failed cause) := by
  unfold boardLeaves
  dsimp only
  have told := (queueNotice_touches _ .boardOffline (BitVec.ofNat 8 b.val) cause.code (if failed then 1 else 0)).after
    (modBoard_touches s b (closedPort failed)) (k := [.boards, .posts, .notices])
  have out := (postPuBoard_touches _ b (.out failed)).after ((postCmBoard_touches _ b (.out failed)).after told
      (k := [.boards, .posts, .notices])) (k := [.boards, .posts, .notices])
  have changed := Touches.ite (c := s.boards[b].state = .online) ((postTrigger_touches _ (.boardState b)).after out) out
  exact .ite ((postHaltCause_touches _ _).after changed) changed

theorem judgeIdent_touches (s : State) (b : BoardId) (cell : IdentCell) :
    Touches [.boards, .posts, .notices] s (judgeIdent s b cell) := by
  have leaves := boardLeaves_touches s b
  have online := boardOnline_touches s b
  have same := Touches.refl [.boards, .posts, .notices] s
  unfold judgeIdent
  split
  · exact same
  · exact .ite (leaves _ _) (.ite (online _) (.ite (modBoard_touches s b _).mono (leaves _ _)))
  · exact .ite (leaves _ _) (.ite same (.ite (leaves _ _) (leaves _ _)))
  · exact .ite (leaves _ _) (.ite (online _) (.ite same (leaves _ _)))
  · exact .ite (online _) same

theorem censusExpires_touches (s : State) (b : BoardId) : Touches [.boards, .posts, .notices] s (censusExpires s b) := by
  unfold censusExpires
  split
  · exact .ite (boardLeaves_touches s b _ _) (.refl _ s)
  · exact .refl _ s

theorem takeSense_touches (s : State) (b : BoardId) (cell : SenseCell) :
    Touches [.boards, .owners, .readings, .legs, .hot, .faults, .deratings, .allocs, .budget, .notices, .posts] s (takeSense s b cell) :=
  .ite ((takeHeatsink_touches _ _ _).after ((protectReport_touches _ _ _).after ((takeReport_touches _ _).after
      (modBoard_touches s b _) (k := [.boards, .owners, .readings, .posts]))
      (k := [.boards, .owners, .readings, .legs, .hot, .faults, .notices, .posts]))) (.refl _ s)

theorem judgeSlot_touches (s : State) (b : BoardId) (r : SlotRecord) :
    Touches [.boards, .legs, .faults, .notices, .posts] s (judgeSlot s b r) := by
  unfold judgeSlot
  dsimp only
  have judged := (modBoard_touches _ b fun q =>
      { q with
        noReport := noReportRuns s.boards[b] r
        missed := if slotComplete r then 0 else q.missed + 1
        holdRun := if r.hold then q.holdRun + 1 else 0 }).after
    (Touches.foldl (fun v l => trip_touches v (legAt b l) .noReport (s.boards[b].lastFiring[l].map (·.1))
      ((s.boards[b].lastFiring[l].map (·.2)).getD 0)) (four.filter (noReportDue s.boards[b] r)) s)
    (k := [.boards, .legs, .faults, .notices, .posts])
  exact .ite ((boardLeaves_touches _ _ _ _).after judged) (.ite ((boardLeaves_touches _ _ _ _).after judged) judged)

theorem takeDrive_touches (s : State) (b : BoardId) (cell : DriveCell) :
    Touches [.boards, .legs, .faults, .notices, .posts] s (takeDrive s b cell) := by
  unfold takeDrive
  dsimp only
  split
  · exact .ite (modBoard_touches s b _).mono (.refl _ s)
  · rename_i r _
    exact .ite ((modBoard_touches _ _ _).after (judgeSlot_touches s b r)) (judgeSlot_touches s b r)

end Sys2Proof.Machine
end

section
/-! What each operation may touch: the Heat Sequencer, the Slot Scheduler, the Frame Engine and the Pan Tracker. -/

namespace Sys2Proof.Machine

-- The default arguments `by decide` wait for the kernel: one declaration after the other holds few threads.
set_option Elab.async false

/-! ### The Heat Sequencer -/

/-- What an event of the Heat Sequencer touches. -/
abbrev heatParts : List Part := [.heatStates, .heats, .requests, .notices, .posts]

theorem moveToHead_touches (s : State) (p : PanSlot) : Touches [.requests] s (moveToHead s p) := by
  intro q n
  cases q <;> first | exact absurd (by decide) n | rfl | exact le_rfl | exact id

theorem removeRequest_touches (s : State) (p : PanSlot) : Touches [.requests] s (removeRequest s p) := by
  intro q n
  cases q <;> first | exact absurd (by decide) n | rfl | exact le_rfl | exact id

theorem postHeatChange_touches {l : List Part} {before after : State} (h : Touches l before after) (p : PanSlot)
    (sub : [.posts] ⊆ l := by decide) : Touches l before (postHeatChange before after p) :=
  .ite h (h.trans ((postTrigger_touches _ _).mono sub))

theorem postHeatChanges_touches {l : List Part} {before after : State} (h : Touches l before after)
    (sub : [.posts] ⊆ l := by decide) : Touches l before (postHeatChanges before after) :=
  .ite h (h.trans ((postTrigger_touches _ _).mono sub))

theorem toIdle_touches (s : State) (p : PanSlot) : Touches [.heatStates, .heats, .requests] s (toIdle s p) :=
  (removeRequest_touches _ p).after (modHeat_touches s p _)

theorem hold_touches (s : State) (p : PanSlot) (state : HeatState) : Touches [.heatStates, .heats, .requests] s (hold s p state) :=
  (removeRequest_touches _ p).after (modHeat_touches s p _)

theorem resumeContext_touches (s : State) (p : PanSlot) : Touches [.heatStates, .heats, .requests] s (resumeContext s p) :=
  (moveToHead_touches _ p).after (modHeat_touches s p _)

theorem applySetLevel_touches (s : State) (cell : HeatCell) : Touches heatParts s (applySetLevel s cell) := by
  have refused (r : HeatReason) (n : Nat) : Touches heatParts s (refuseHeat s cell.handle r n) := (refuseHeat_touches s _ r n).mono
  have idle : Touches heatParts s (toIdle s (handleSlot cell.handle)) := (toIdle_touches s _).mono
  unfold applySetLevel
  dsimp only
  split
  · exact refused _ _
  · exact .ite (refused _ _) (.ite (refused _ _) (.ite idle (.ite (refused _ _) (.ite (refused _ _) (.ite idle
      ((moveToHead_touches _ _).after (modHeat_touches s _ _)))))))

theorem applyPause_touches (s : State) (cell : HeatCell) : Touches heatParts s (applyPause s cell) := by
  unfold applyPause
  dsimp only
  split
  · exact (hold_touches s _ _).mono
  · exact (hold_touches s _ _).mono
  · exact (modHeat_touches s _ _).mono
  all_goals exact (refuseHeat_touches s _ _ _).mono

theorem applyResume_touches (s : State) (cell : HeatCell) : Touches heatParts s (applyResume s cell) := by
  have refused (r : HeatReason) (n : Nat) : Touches heatParts s (refuseHeat s cell.handle r n) := (refuseHeat_touches s _ r n).mono
  exact .ite (refused _ _) (.ite (refused _ _) (.ite (refused _ _) (.ite (refused _ _) (resumeContext_touches s _).mono)))

theorem applyHeat_touches (s : State) (cell : HeatCell) : Touches heatParts s (applyHeat s cell) := by
  unfold applyHeat
  split
  · split
    · exact postHeatChange_touches (applySetLevel_touches s cell) _
    · exact postHeatChange_touches (applyPause_touches s cell) _
    · exact postHeatChange_touches (applyResume_touches s cell) _
  · exact (refuseHeat_touches s _ _ _).mono

theorem setHeatQueue_touches (s : State) (cells : List HeatCell) :
    Touches [.heatQueue] s (s.modCp fun cp => { cp with heatQueue := cells }) := by
  intro q n
  cases q <;> first | exact absurd (by decide) n | rfl | exact le_rfl | exact id

theorem takeHeatCell_touches (s : State) (action : HeatAction) : Touches (.heatQueue :: heatParts) s (takeHeatCell s action) := by
  unfold takeHeatCell
  split
  · exact .refl _ s
  · exact .ite ((applyHeat_touches _ _).after (setHeatQueue_touches s _)) (.refl _ s)

theorem beginStep_touches (s : State) (p : PanSlot) (i : Fin 8) (step : ProgramStep) : Touches [.heats] s (beginStep s p i step) :=
  modHeat_touches_heats s p _

theorem endStep_touches (s : State) (p : PanSlot) : Touches heatParts s (endStep s p) := by
  have done : Touches heatParts s (programDone s p) := (queueNotice_touches _ _ _ _ _).after (toIdle_touches s p)
  unfold endStep
  dsimp only
  split
  · exact .refl _ s
  · split
    · split
      · exact (queueNotice_touches _ _ _ _ _).after (beginStep_touches s p _ _)
      · exact done
    · exact (queueNotice_touches _ _ _ _ _).after (modHeat_touches_heats s p _)
    · exact done

theorem stepTick_touches (s : State) : Touches [.heats, .stepLists] s (stepTick s) := by
  have ticked : Touches [.heats] s
      (s.modPans fun p r => if stepCounts s p then { r with heat := { r.heat with remaining := r.heat.remaining - 1 } } else r) := by
    intro q n
    cases q
    case members | figures | heatStates | programs | allocs | schedules | delivered =>
      all_goals funext r; rw [State.modPans_get]; split <;> rfl
    all_goals first | exact absurd (by decide) n | rfl | exact le_rfl | exact id
  exact (modHs_touches_lists _ _).after ticked

theorem endDueStep_touches (s : State) (p : PanSlot) : Touches (.stepLists :: heatParts) s (endDueStep s p) :=
  .ite ((modHs_touches_lists _ _).after (endStep_touches s p)) (.refl _ s)

theorem postStepChanges_touches (s : State) : Touches [.stepLists, .posts] s (postStepChanges s) := by
  unfold postStepChanges
  split
  · exact (postTrigger_touches _ _).after (modHs_touches_lists s _)
  · exact .refl _ s

theorem expireStep_touches (s : State) : Touches (.stepLists :: heatParts) s (expireStep s) := by
  unfold expireStep
  split
  · exact .refl _ s
  · exact (postStepChanges_touches _).after ((endDueStep_touches _ _).after (modHs_touches_lists s _) (k := .stepLists :: heatParts))

theorem heatLifted_touches (s : State) (p : PanSlot) : Touches heatParts s (heatLifted s p) :=
  .ite (postHeatChange_touches (hold_touches s p _).mono p) (.refl _ s)

theorem refuseIdle_touches (s : State) (p : PanSlot) (handle : Byte) (reason : HeatReason) (level : Nat) :
    Touches heatParts s (refuseHeat (toIdle s p) handle reason level) :=
  (refuseHeat_touches _ _ _ _).after (toIdle_touches s p)

theorem heatReturned_touches (s : State) (p : PanSlot) : Touches heatParts s (heatReturned s p) :=
  .ite (.ite (postHeatChange_touches (refuseIdle_touches s p _ _ _) p) (postHeatChange_touches (resumeContext_touches s p).mono p))
    (.refl _ s)

theorem heatRetired_touches (s : State) (p : PanSlot) : Touches (.programs :: heatParts) s (heatRetired s p) :=
  postHeatChange_touches ((setProgram_touches _ p _).after (toIdle_touches s p)) p

theorem heatMaterial_touches (s : State) (p : PanSlot) (m : Material) : Touches heatParts s (heatMaterial s p m) :=
  .ite (postHeatChange_touches (refuseIdle_touches s p _ _ _) p) (.refl _ s)

theorem takePanPost_touches (s : State) (e : PanPost) : Touches (.programs :: heatParts) s (takePanPost s e) := by
  cases e with
  | lift p => exact (heatLifted_touches s p).mono
  | back p => exact (heatReturned_touches s p).mono
  | retirement p => exact heatRetired_touches s p
  | material p m => exact (heatMaterial_touches s p m).mono

theorem finishPans_touches (s : State) : Touches (.programs :: heatParts) s (finishPans s) :=
  (Touches.foldl takePanPost_touches _ _).after (modPosts_touches s _)

theorem clearContext_touches (s : State) (p : PanSlot) : Touches (.programs :: heatParts) s (clearContext s p) :=
  (heatRetired_touches _ p).after (Touches.ite (finishPans_touches s) (.refl _ s))

theorem setHeats_touches (s : State) (f : HeatPart → HeatPart) :
    Touches [.heatStates, .heats] s (s.modPans fun _ r => { r with heat := f r.heat }) := by
  intro q n
  cases q
  case members | figures | programs | allocs | schedules | delivered => all_goals funext r; rw [State.modPans_get]
  all_goals first | exact absurd (by decide) n | rfl | exact le_rfl | exact id

theorem setRequests_touches (s : State) (f : HeatLists → List PanSlot) :
    Touches [.requests] s (s.modHs fun l => { l with requests := f l }) := by
  intro q n
  cases q <;> first | exact absurd (by decide) n | rfl | exact le_rfl | exact id

theorem changeContexts_touches (s : State) (f : HeatPart → HeatPart) (clear : Bool) :
    Touches [.heatStates, .heats, .requests] s (changeContexts s f clear) :=
  (setRequests_touches _ _).after (setHeats_touches s f)

theorem takeHobPost_touches (s : State) (e : HobPost) : Touches heatParts s (takeHobPost s e) := by
  cases e <;> exact postHeatChanges_touches (changeContexts_touches s _ _).mono

theorem finishHob_touches (s : State) : Touches heatParts s (finishHob s) :=
  (Touches.foldl takeHobPost_touches _ _).after (modPosts_touches s _)

theorem finishStart_touches (s : State) : Touches heatParts s (finishStart s) := .ite (finishHob_touches s) (.refl _ s)

theorem judgeLoad_touches (s : State) (handle count : Byte) : Touches [.stepLists, .orders] s (judgeLoad s handle count) := by
  have refused (k : SenseKey) (f d : Nat) : Touches [.stepLists, .orders] s (endCheck s k f d) := (endCheck_touches s k f d).mono
  exact .ite (refused _ _ _) (.ite (refused _ _ _) (.ite (refused _ _ _) (.ite (refused _ _ _)
    ((enterDataOut_touches _ _ _).after (modHs_touches_lists s _)))))

theorem finishLoad_touches (s : State) (handle : Byte) : Touches [.programs, .stepLists, .orders] s (finishLoad s handle) :=
  .ite ((endGood_touches _).after ((modHs_touches_lists _ _).after (setProgram_touches s _ _) (k := [.programs, .stepLists])))
    ((endCheck_touches _ _ _ _).after (modHs_touches_lists s _))

theorem judgeRun_touches (s : State) (handle : Byte) : Touches (.orders :: heatParts) s (judgeRun s handle) := by
  have refused (k : SenseKey) (f d : Nat) : Touches (.orders :: heatParts) s (endCheck s k f d) := (endCheck_touches s k f d).mono
  unfold judgeRun
  dsimp only
  split
  · exact refused _ _ _
  · split
    · exact refused _ _ _
    · exact .ite (refused _ _ _) (.ite (refused _ _ _) (.ite (refused _ _ _)
        ((endGood_touches _).after ((postTrigger_touches _ _).after ((moveToHead_touches _ _).after ((beginStep_touches _ _ _ _).after
          (modHeat_touches s _ _) (k := heatParts)) (k := heatParts)) (k := heatParts)))))

/-! ### The Slot Scheduler -/

/-- What a build touches. -/
abbrev buildParts : List Part := [.stage, .bankA, .bankB, .build]

theorem setStandby_touches (s : State) (bank : Bank) : Touches [.bankA, .bankB] s (setStandby s bank) := by
  unfold setStandby
  intro q n
  cases q <;> first | exact absurd (by decide) n | rfl | exact le_rfl | exact id | (simp only [Part.Kept, State.modSs]; split <;> rfl)

theorem startGather_touches (s : State) : Touches [.stage, .build] s (startGather s) :=
  .ite (modSs_touches_build s _) (modSs_touches_build s _)

theorem takeRebuild_touches (s : State) : Touches [.stage, .build] s (takeRebuild s) :=
  .ite (.refl _ s) (.ite (startGather_touches s) (modSs_touches_build s _))

theorem snapshotComplete_touches (s : State) : Touches buildParts s (snapshotComplete s) := by
  unfold snapshotComplete
  split
  · exact (modSs_touches _ _).after (setStandby_touches s _)
  · exact .refl _ s

theorem placeComplete_touches (s : State) : Touches buildParts s (placeComplete s) := by
  unfold placeComplete
  split
  · exact (modSs_touches _ _).after (setStandby_touches s _)
  · exact .refl _ s

theorem setSchedules_touches (s : State) (f : PanSlot → PanRecord → PanRecord)
    (h : ∀ p r, f p r = { r with scheduled := (f p r).scheduled, dropped := (f p r).dropped }) : Touches [.schedules] s (s.modPans f) := by
  intro q n
  cases q
  case members | figures | heatStates | heats | programs | allocs | delivered => all_goals funext r; rw [State.modPans_get, h]
  all_goals first | exact absurd (by decide) n | rfl | exact le_rfl | exact id

theorem offerBank_touches (s : State) : Touches [.schedules, .stage, .build, .posts] s (offerBank s) := by
  have scheduled := setSchedules_touches s (schedulePan ((s.ss.snapshot.map (·.f)).getD s.fe.f) (s.ss.results.getD []))
    fun p r => by unfold schedulePan; split <;> rfl
  exact (modPosts_touches _ _).after ((modSs_touches_build _ _).after scheduled (k := [.schedules, .stage, .build]))

theorem dropBuild_touches (s : State) : Touches buildParts s (dropBuild s) :=
  (modSs_touches _ _).after (setStandby_touches s _)

theorem endOfCheck_touches (s : State) : Touches (.schedules :: .posts :: buildParts) s (endOfCheck s) :=
  .ite (.refl _ s) (.ite ((modSs_touches _ _).after (dropBuild_touches s)) (.ite ((startGather_touches _).after (dropBuild_touches s))
    (.ite ((startGather_touches _).after ((modSs_touches _ _).after (dropBuild_touches s) (k := buildParts))) (offerBank_touches s).mono)))

theorem takeSwapNotice_touches (s : State) : Touches [.stage, .build] s (takeSwapNotice s) :=
  .ite (.refl _ s) (.ite ((startGather_touches _).after (modSs_touches_build s _)) (modSs_touches_build s _))

theorem takeDiscard_touches (s : State) : Touches (.schedules :: .posts :: buildParts) s (takeDiscard s) :=
  (modPosts_touches _ _).after ((modSs_touches _ _).after (setSchedules_touches s _ fun _ _ => rfl) (k := .schedules :: buildParts))

theorem finishDiscard_touches (s : State) : Touches (.scheduler :: .schedules :: .posts :: buildParts) s (finishDiscard s) :=
  .ite ((takeDiscard_touches _).after (modPosts_touches_scheduler s _)) (.refl _ s)

/-! ### The Frame Engine -/

theorem modFe_touches_frames (s : State) (f : FrameEngine → FrameEngine) (hob : (f s.fe).hob = s.fe.hob := by rfl)
    (unlock : (f s.fe).unlockTimer = s.fe.unlockTimer := by rfl) (swap : (f s.fe).swapPending = s.fe.swapPending := by rfl)
    (awaiting : (f s.fe).awaiting = s.fe.awaiting := by rfl) (emitted : (f s.fe).emitted = s.fe.emitted := by rfl) :
    Touches [.mains, .frames] s (s.modFe f) := by
  intro q n
  cases q <;>
    first
    | exact absurd (by decide) n | rfl | exact le_rfl | exact id | exact hob | exact unlock | exact swap | exact awaiting | exact emitted

theorem modFe_touches (s : State) (f : FrameEngine → FrameEngine) :
    Touches [.hob, .unlockTimer, .swapPending, .awaiting, .emitted, .mains, .frames] s (s.modFe f) := by
  intro q n
  cases q <;> first | exact absurd (by decide) n | rfl | exact le_rfl | exact id

theorem setEmitted_touches (s : State) (v : Vector Nat 8) : Touches [.emitted] s (s.modFe fun fe => { fe with emitted := v }) := by
  intro q n
  cases q <;> first | exact absurd (by decide) n | rfl | exact le_rfl | exact id

theorem setDelivered_touches (s : State) (g : PanSlot → Nat) : Touches [.delivered] s (s.modPans fun p r => { r with delivered := g p }) := by
  intro q n
  cases q
  case members | figures | heatStates | heats | programs | allocs | schedules => all_goals funext r; rw [State.modPans_get]
  all_goals first | exact absurd (by decide) n | rfl | exact le_rfl | exact id

theorem clearEnergies_touches (s : State) : Touches [.emitted, .delivered] s (clearEnergies s) :=
  (setDelivered_touches _ _).after (setEmitted_touches s _)

theorem cutFrame_touches (s : State) : Touches [.emitted, .delivered, .mains, .frames] s (cutFrame s) :=
  (modFe_touches_frames _ _).after (clearEnergies_touches s)

theorem latch_touches (s : State) : Touches [.emitted, .delivered, .mains, .frames] s (latch s) :=
  (modFe_touches_frames _ _).after (cutFrame_touches s)

theorem postLoss_touches (s : State) (e : LossCause) : Touches [.posts] s (postLoss s e) := modPosts_touches s _

theorem setUnlock_touches (s : State) (f : FrameEngine → FrameEngine) (hob : (f s.fe).hob = s.fe.hob := by rfl)
    (swap : (f s.fe).swapPending = s.fe.swapPending := by rfl) (awaiting : (f s.fe).awaiting = s.fe.awaiting := by rfl)
    (emitted : (f s.fe).emitted = s.fe.emitted := by rfl) : Touches [.unlockTimer, .mains, .frames] s (s.modFe f) := by
  intro q n
  cases q <;>
    first | exact absurd (by decide) n | rfl | exact le_rfl | exact id | exact hob | exact swap | exact awaiting | exact emitted

/-- What a loss of lock touches. -/
abbrev lossParts : List Part := [.emitted, .delivered, .mains, .frames, .boards, .notices, .posts, .unlockTimer]

theorem loseLock_touches (s : State) (cause : LossCause) : Touches lossParts s (loseLock s cause) := by
  have quiet := (offNowAll_touches _).after (cutFrame_touches s) (k := lossParts)
  have told := (queueNotice_touches _ .mainsLost 0 cause.code s.fe.serial.toNat).after quiet (k := lossParts)
  exact (setUnlock_touches _ _).after ((postLoss_touches _ cause).after told (k := lossParts))

theorem enterLocked_touches (s : State) : Touches [.unlockTimer, .mains, .frames, .notices] s (enterLocked s) :=
  (queueNotice_touches _ _ _ _ _).after (setUnlock_touches s _)

theorem frameEnd_touches (s : State) : Touches [.delivered, .emitted, .posts] s (frameEnd s) :=
  (modPosts_touches _ _).after ((setEmitted_touches _ _).after (setDelivered_touches s _) (k := [.delivered, .emitted]))

theorem swapBanks_touches (s : State) : Touches [.swapPending, .awaiting, .mains, .frames, .posts] s (swapBanks s) := by
  have swapped : Touches [.swapPending, .awaiting, .frames] s (s.modFe fun fe =>
      { fe with activeBank := if fe.activeBank = .a then .b else .a, swapPending := false, awaiting := false }) := by
    intro q n
    cases q <;> first | exact absurd (by decide) n | rfl | exact le_rfl | exact id
  exact .ite ((modPosts_touches _ _).after swapped) (.refl _ s)

/-- What the start of a slot touches before it is emitted. -/
abbrev slotParts : List Part := [.delivered, .emitted, .swapPending, .awaiting, .mains, .frames, .posts]

theorem frameStart_touches (s : State) : Touches [.swapPending, .awaiting, .mains, .frames, .posts] s (frameStart s) :=
  (swapBanks_touches _).after (modFe_touches_frames s _)

theorem beginSlot_touches (s : State) : Touches slotParts s (beginSlot s) :=
  .ite (frameStart_touches s).mono (.ite (modFe_touches_frames s _).mono ((frameStart_touches _).after (frameEnd_touches s)))

/-- What the emission of a slot touches. -/
abbrev emitParts : List Part := [.emitted, .mains, .frames, .boards, .legs, .faults, .notices, .posts]

theorem setEmission_touches (s : State) (v : Vector Nat 8) (w : Vector Selector 16) :
    Touches [.emitted, .frames] s (s.modFe fun fe => { fe with emitted := v, probe := w }) := by
  intro q n
  cases q <;> first | exact absurd (by decide) n | rfl | exact le_rfl | exact id

theorem emitSlot_touches (s : State) : Touches emitParts s (emitSlot s) :=
  (Touches.foldl (fun v b => takeDrive_touches v b _) _ _).after (setEmission_touches s _ _)

theorem slotStart_touches (s : State) : Touches (slotParts ++ emitParts) s (slotStart s) :=
  .ite ((emitSlot_touches _).after (beginSlot_touches s)) (.refl _ s)

theorem judgeCrossing_touches (s : State) (good : Bool) : Touches (lossParts ++ slotParts ++ emitParts) s (judgeCrossing s good) := by
  unfold judgeCrossing
  split
  · exact (modFe_touches_frames s _).mono
  · exact .ite (.ite (modFe_touches_frames s _).mono ((slotStart_touches _).after (enterLocked_touches s)))
      (modFe_touches_frames s _).mono
  · exact .ite (slotStart_touches s).mono ((modFe_touches_frames _ _).after (loseLock_touches s _))

theorem crossing_touches (s : State) (t : Time) : Touches (lossParts ++ slotParts ++ emitParts) s (crossing s t) :=
  (judgeCrossing_touches _ _).after ((modFe_touches_frames _ _).after (arrive_touches s t) (k := [.mains, .frames]))

theorem judgeSilence_touches (s : State) : Touches lossParts s (judgeSilence s) := by
  unfold judgeSilence
  split
  · exact .refl _ s
  · split
    · split
      · exact .refl _ s
      · exact (modFe_touches_frames s _).mono
      · exact (modFe_touches_frames _ _).after (loseLock_touches s _)
    · exact .refl _ s

theorem judgeUnlock_touches (s : State) : Touches [.unlockTimer, .mains, .frames, .posts] s (judgeUnlock s) := by
  unfold judgeUnlock
  split
  · exact .refl _ s
  · exact .ite ((setUnlock_touches _ _).after (postHaltCause_touches s _)) (.refl _ s)

theorem second_touches (s : State) : Touches [.mains, .frames, .posts] s (second s) :=
  (modPosts_touches _ _).after (modFe_touches_frames s _)

theorem takeOffer_touches (s : State) : Touches [.swapPending] s (takeOffer s) := by
  refine .ite ?_ (.refl _ s)
  intro q n
  cases q <;> first | exact absurd (by decide) n | rfl | exact le_rfl | exact id

theorem followHob_touches (s : State) : Touches [.silence] s (followHob s) := by
  intro q n
  cases q <;> first | exact absurd (by decide) n | rfl | exact le_rfl | exact id

/-- What START HOB finds taken touches. -/
abbrev stopParts : List Part := .allocs :: .budget :: heatParts

theorem finishStop_touches (s : State) : Touches stopParts s (finishStop s) :=
  (modPosts_touches _ _).after (Touches.ite (finishHob_touches s).mono ((recompute_touches _).after (finishHob_touches s)) (l := stopParts))

/-- What START HOB touches. -/
abbrev startParts : List Part :=
  stopParts ++ [.hob, .unlockTimer, .awaiting, .emitted, .delivered, .mains, .frames, .scheduler, .silence, .orders]

theorem judgeStart_touches (s : State) : Touches (.swapPending :: startParts) s (judgeStart s) := by
  have refused (k : SenseKey) (f d : Nat) : Touches (.swapPending :: startParts) s (endCheck s k f d) := (endCheck_touches s k f d).mono
  have latched := (modFe_touches _ fun fe =>
      { fe with hob := .running, awaiting := true, unlockTimer := if fe.lock = .locked then fe.unlockTimer else some s.now }).after
    ((latch_touches _).after (finishStop_touches s) (k := .swapPending :: startParts)) (k := .swapPending :: startParts)
  have posted := (modPosts_touches_scheduler _ fun q => { q with scheduler := q.scheduler ++ [.rebuild] }).after
    ((modPosts_touches _ fun q => { q with hob := q.hob ++ [.start] }).after latched (k := .swapPending :: startParts))
    (k := .swapPending :: startParts)
  exact .ite (refused _ _ _) (.ite (refused _ _ _) (.ite (refused _ _ _) (.ite (refused _ _ _)
    ((endGood_touches _).after ((followHob_touches _).after posted (k := .swapPending :: startParts))))))

/-- What leaving RUNNING touches. -/
abbrev leaveParts : List Part :=
  [.hob, .unlockTimer, .swapPending, .awaiting, .emitted, .mains, .frames, .boards, .delivered, .scheduler, .posts, .silence]

theorem leaveRunning_touches (s : State) (hob : HobState) (post : HobPost) : Touches leaveParts s (leaveRunning s hob post) := by
  have quiet := (offNowAll_touches _).after (modFe_touches s fun fe =>
    { fe with hob := hob, unlockTimer := none, swapPending := false }) (k := leaveParts)
  have posted := (modPosts_touches_scheduler _ fun q => { q with scheduler := q.scheduler ++ [.discard] }).after
    ((clearEnergies_touches _).after quiet (k := leaveParts)) (k := leaveParts)
  exact (followHob_touches _).after ((modPosts_touches _ fun q => { q with hob := q.hob ++ [post] }).after posted (k := leaveParts))

theorem drawn_touches (s : State) (n : Nat) : Touches [.draws] s { s with draws := n } := by
  intro q m
  cases q <;> first | exact absurd (by decide) m | rfl | exact le_rfl | exact id

theorem judgeStop_touches (s : State) : Touches (.orders :: .draws :: leaveParts) s (judgeStop s) :=
  .ite ((endGood_touches _).after (leaveRunning_touches s _ _)) ((endCheck_touches _ _ _ _).after (drawn_touches s _))

theorem takeHalt_touches (s : State) (c : HaltCause) : Touches leaveParts s (takeHalt s c) :=
  .ite ((modPosts_touches _ _).after (leaveRunning_touches s _ _)) (.refl _ s)

theorem takeClearHalt_touches (s : State) : Touches [.hob] s (takeClearHalt s) := by
  refine .ite ?_ (.refl _ s)
  intro q n
  cases q <;> first | exact absurd (by decide) n | rfl | exact le_rfl | exact id

/-! ### The Pan Tracker -/

/-- What an event of the Pan Tracker touches. -/
abbrev trackerParts : List Part :=
  [.owners, .readings, .members, .figures, .heatStates, .heats, .programs, .allocs, .liftOrder, .orphans, .examQueue, .requests, .budget,
    .notices, .posts]

theorem refigure_touches (s : State) (p : PanSlot) : Touches [.figures, .posts] s (refigure s p) := by
  unfold refigure
  dsimp only
  split
  · exact .refl _ s
  · exact .ite ((postPan_touches _ _).after (modPres_touches_figures s p _)) (modPres_touches_figures s p _).mono

theorem enqueue_touches (s : State) (ks : List CoilId) : Touches [.examQueue] s (enqueue s ks) := by
  intro q n
  cases q <;> first | exact absurd (by decide) n | rfl | exact le_rfl | exact id

theorem enqueueAround_touches (s : State) (k : CoilId) : Touches [.examQueue] s (enqueueAround s k) := enqueue_touches s _

theorem leaveOrphans_touches (s : State) (k : CoilId) : Touches [.orphans] s (leaveOrphans s k) := by
  intro q n
  cases q <;> first | exact absurd (by decide) n | rfl | exact le_rfl | exact id

theorem leaveQueue_touches (s : State) (k : CoilId) : Touches [.examQueue] s (leaveQueue s k) := by
  intro q n
  cases q <;> first | exact absurd (by decide) n | rfl | exact le_rfl | exact id

theorem setQueue_touches (s : State) (ks : List CoilId) : Touches [.examQueue] s (s.modPt fun l => { l with examQueue := ks }) := by
  intro q n
  cases q <;> first | exact absurd (by decide) n | rfl | exact le_rfl | exact id

theorem setOrphans_touches (s : State) (ks : List CoilId) : Touches [.orphans] s (s.modPt fun l => { l with orphans := ks }) := by
  intro q n
  cases q <;> first | exact absurd (by decide) n | rfl | exact le_rfl | exact id

theorem setLiftOrder_touches (s : State) (ps : List PanSlot) : Touches [.liftOrder] s (s.modPt fun l => { l with liftOrder := ps }) := by
  intro q n
  cases q <;> first | exact absurd (by decide) n | rfl | exact le_rfl | exact id

theorem setGraceDue_touches (s : State) (ps : List PanSlot) : Touches [.graceDue] s (s.modPt fun l => { l with graceDue := ps }) := by
  intro q n
  cases q <;> first | exact absurd (by decide) n | rfl | exact le_rfl | exact id

theorem addOrphan_touches (s : State) (k : CoilId) : Touches [.orphans, .notices] s (addOrphan s k) :=
  .ite ((queueNotice_touches _ _ _ _ _).after (setOrphans_touches s _)) (setOrphans_touches s _).mono

theorem retire_touches (s : State) (p : PanSlot) (reason : Reason) :
    Touches [.members, .figures, .liftOrder, .posts, .notices] s (retire s p reason) :=
  (queueNotice_touches _ _ _ _ _).after ((postPan_touches _ _).after ((setLiftOrder_touches _ _).after (modPres_touches s p _)
    (k := [.members, .figures, .liftOrder])) (k := [.members, .figures, .liftOrder, .posts]))

theorem readySlot_touches (s : State) (p : PanSlot) :
    Touches (.allocs :: .budget :: .programs :: heatParts) s (readySlot s p) :=
  .ite (clearContext_touches s p).mono ((recompute_touches _).after (clearContext_touches s p))

theorem foundAt_touches (s : State) (k : CoilId) (p : PanSlot) : Touches trackerParts s (foundAt s k p) := by
  have joined := (modPres_touches _ p fun r =>
      { PresencePart.freed (r.gen + 1) with presence := .forming, members := [k], changed := true }).after
    ((joinClaim_touches _ k p).after (readySlot_touches s p) (k := trackerParts)) (k := trackerParts)
  exact (enqueueAround_touches _ _).after ((refigure_touches _ _).after joined (k := trackerParts))

theorem found_touches (s : State) (k : CoilId) : Touches trackerParts s (found s k) := by
  unfold found
  split
  · exact foundAt_touches s k _
  · split
    · exact (foundAt_touches _ _ _).after (retire_touches s _ _)
    · exact (addOrphan_touches s k).mono

theorem joinPan_touches (s : State) (k : CoilId) (p : PanSlot) : Touches trackerParts s (joinPan s k p) := by
  have joined := (modPres_touches _ p fun r =>
      { r with
        members := insertCoil k r.members
        settle := 0
        changed := true
        presence := if r.presence = .placed then .moving else r.presence }).after (joinClaim_touches s k p) (k := trackerParts)
  have figured := (refigure_touches _ p).after joined (k := trackerParts)
  exact (enqueueAround_touches _ _).after (Touches.ite ((postMembership_touches _ _).after figured (k := trackerParts)) figured)

theorem examine_touches (s : State) (k : CoilId) : Touches trackerParts s (examine s k) := by
  unfold examine
  split
  · exact .refl _ s
  · split
    · exact .ite (.refl _ s) (found_touches s k)
    · split
      · exact .ite ((joinPan_touches _ _ _).after (leaveOrphans_touches s k)) (leaveOrphans_touches s k).mono
      · exact (leaveOrphans_touches s k).mono

theorem drain_touches (n : Nat) (s : State) : Touches trackerParts s (drain n s) := by
  induction n generalizing s with
  | zero => exact .refl _ s
  | succ n ih =>
    unfold drain
    split
    · exact .refl _ s
    · exact (ih _).after ((examine_touches _ _).after (setQueue_touches s _) (k := trackerParts))

theorem emptyQueue_touches (s : State) : Touches trackerParts s (emptyQueue s) := drain_touches _ s

theorem serve_touches (n : Nat) (s : State) : Touches trackerParts s (serve n s) := by
  induction n generalizing s with
  | zero => exact .refl _ s
  | succ n ih =>
    unfold serve
    split
    · exact (ih _).after ((emptyQueue_touches _).after ((examine_touches _ _).after (leaveOrphans_touches s _) (k := trackerParts))
        (k := trackerParts))
    · exact .refl _ s

theorem serveOrphans_touches (s : State) : Touches trackerParts s (serveOrphans s) := serve_touches _ s

/-- R44: a lifted pan joins the lift order, before a grace of 0 retires it. -/
def lifted (s : State) (p : PanSlot) : State :=
  (s.modPres p fun r => { r with presence := .lifted, liftedAt := some s.fe.seconds, grace := some s.ts.work.grace }).modPt
    fun l => { l with liftOrder := l.liftOrder ++ [p] }

/-- R44: the lift has been told. -/
def liftTold (s : State) (p : PanSlot) : State :=
  postMembership (postPan (queueNotice (lifted s p) .panLifted (s.handleOf p) s.ts.work.grace 0) (.lift p)) p

theorem liftPan_eq (s : State) (p : PanSlot) :
    liftPan s p = if s.ts.work.grace = 0 then retire (liftTold s p) p .grace else liftTold s p := rfl

theorem lifted_touches (s : State) (p : PanSlot) : Touches [.members, .figures, .liftOrder] s (lifted s p) :=
  (setLiftOrder_touches _ _).after (modPres_touches s p _)

theorem liftTold_touches (s : State) (p : PanSlot) : Touches [.members, .figures, .liftOrder, .notices, .posts] s (liftTold s p) :=
  (postMembership_touches _ p).after ((postPan_touches _ (.lift p)).after ((queueNotice_touches _ _ _ _ _).after (lifted_touches s p)
    (k := [.members, .figures, .liftOrder, .notices])) (k := [.members, .figures, .liftOrder, .notices, .posts]))

theorem liftPan_touches (s : State) (p : PanSlot) : Touches [.members, .figures, .liftOrder, .notices, .posts] s (liftPan s p) :=
  .ite ((retire_touches _ _ _).after (liftTold_touches s p)) (liftTold_touches s p)

theorem endPresence_touches (s : State) (p : PanSlot) :
    Touches [.members, .figures, .liftOrder, .notices, .posts] s (endPresence s p) := by
  unfold endPresence
  split
  · exact (modPres_touches s p _).mono
  · exact liftPan_touches s p
  · exact liftPan_touches s p
  · exact .refl _ s
  · exact .refl _ s

/-- R36: the members that a pan keeps after a release. -/
def keptOf (s : State) (p : PanSlot) : List CoilId := keptComponent s (components s 12 s.pans[p].pres.members)

/-- R36: the members that a pan sheds after a release. -/
def shedOf (s : State) (p : PanSlot) : List CoilId := s.pans[p].pres.members.filter fun k => !(keptOf s p).contains k

/-- R36: the presence part of a pan that keeps `kept`. -/
def splitPres (kept : List CoilId) (r : PresencePart) : PresencePart :=
  { r with members := kept, settle := 0, changed := true, presence := if r.presence = .placed then .moving else r.presence }

/-- R36: the members shed are unowned. -/
def splitOwned (s : State) (p : PanSlot) : State := (shedOf s p).foldl unownClaim (s.modPres p (splitPres (keptOf s p)))

/-- R37: a standing pan's split is posted and told. -/
def splitTold (s : State) (p : PanSlot) : State :=
  let u := if s.pans[p].pres.presence.standing then postMembership (refigure (splitOwned s p) p) p else refigure (splitOwned s p) p
  if s.pans[p].pres.presence.standing ∧ shedOf s p ≠ [] then
    queueNotice u .panSplit (s.handleOf p) (shedOf s p).length (keptOf s p).length else u

/-- R37: the waiting coils around the members kept. -/
def aroundKept (s : State) (kept : List CoilId) : List CoilId :=
  allCoils.filter fun j => waiting s j && kept.any fun k => (neighbours s k).contains j

theorem splitCheck_eq (s : State) (p : PanSlot) (released : CoilId) :
    splitCheck s p released =
      (shedOf s p).foldl enqueueAround (enqueue (enqueueAround (enqueue (splitTold s p) (shedOf s p)) released)
        (aroundKept (splitTold s p) (keptOf s p))) := rfl

theorem splitOwned_touches (s : State) (p : PanSlot) : Touches [.owners, .readings, .members, .figures] s (splitOwned s p) :=
  (Touches.foldl unownClaim_touches _ _).after (modPres_touches s p _)

theorem splitTold_touches (s : State) (p : PanSlot) :
    Touches [.owners, .readings, .members, .figures, .notices, .posts] s (splitTold s p) := by
  have figured := (refigure_touches _ p).after (splitOwned_touches s p) (k := [.owners, .readings, .members, .figures, .posts])
  have posted := Touches.ite (c := s.pans[p].pres.presence.standing = true) ((postMembership_touches _ p).after figured) figured
  exact .ite ((queueNotice_touches _ _ _ _ _).after posted) posted.mono

theorem splitCheck_touches (s : State) (p : PanSlot) (released : CoilId) :
    Touches [.owners, .readings, .members, .figures, .examQueue, .notices, .posts] s (splitCheck s p released) := by
  rw [splitCheck_eq]
  have first := (enqueue_touches _ (shedOf s p)).after (splitTold_touches s p)
    (k := [.owners, .readings, .members, .figures, .examQueue, .notices, .posts])
  have next := (enqueueAround_touches _ released).after first (k := [.owners, .readings, .members, .figures, .examQueue, .notices, .posts])
  exact (Touches.foldl enqueueAround_touches _ _).after ((enqueue_touches _ _).after next
    (k := [.owners, .readings, .members, .figures, .examQueue, .notices, .posts]))

theorem vacate_touches (s : State) (k : CoilId) : Touches [.owners, .readings] s (vacate s k) := modCoil_touches s k _

theorem dropMember_touches (s : State) (k : CoilId) (p : PanSlot) : Touches trackerParts s (dropMember s k p) := by
  have gone := (modPres_touches _ p fun r => { r with members := r.members.filter (· ≠ k) }).after (vacate_touches s k) (k := trackerParts)
  exact .ite ((enqueueAround_touches _ _).after ((endPresence_touches _ _).after gone (k := trackerParts)))
    ((splitCheck_touches _ _ _).after gone)

theorem releaseMember_touches (s : State) (k : CoilId) (p : PanSlot) : Touches trackerParts s (releaseMember s k p) :=
  .ite ((serveOrphans_touches _).after ((emptyQueue_touches _).after (dropMember_touches s k p) (k := trackerParts)))
    ((emptyQueue_touches _).after (dropMember_touches s k p))

theorem withdraw_touches (s : State) (k : CoilId) : Touches trackerParts s (withdraw s k) :=
  .ite ((leaveQueue_touches _ _).after (leaveOrphans_touches s k)) (.refl _ s)

theorem takeSensedRelease_touches (s : State) (k : CoilId) : Touches trackerParts s (takeSensedRelease s k) :=
  (emptyQueue_touches _).after ((enqueueAround_touches _ _).after (withdraw_touches s k) (k := trackerParts))

theorem takeBecameSensed_touches (s : State) (k : CoilId) : Touches trackerParts s (takeBecameSensed s k) :=
  (emptyQueue_touches _).after ((enqueueAround_touches _ _).after (enqueue_touches s _) (k := trackerParts))

theorem postRelease_touches (s : State) (k : CoilId) : Touches [.posts] s (postRelease s k) := modPosts_touches s _

theorem postCoilEvent_touches (s : State) (e : CoilEvent) : Touches [.posts] s (postCoilEvent s e) := modPosts_touches s _

theorem takeMemberRelease_touches (s : State) (k : CoilId) (m : Material) (firing : Bool) :
    Touches trackerParts s (takeMemberRelease s k m firing) := by
  unfold takeMemberRelease
  split
  · exact .ite ((postRelease_touches _ _).after (releaseMember_touches s k _)) (releaseMember_touches s k _)
  · have posted := (postCoilEvent_touches _ (.released k m)).after (vacate_touches s k) (k := trackerParts)
    exact .ite (.refl _ s) (.ite ((postRelease_touches _ _).after posted) posted)
  · exact .refl _ s

theorem place_touches (s : State) (p : PanSlot) : Touches [.members, .figures] s (place s p) := modPres_touches s p _

theorem returnPan_touches (s : State) (w p : PanSlot) : Touches trackerParts s (returnPan s w p) := by
  unfold returnPan
  dsimp only
  refine (serveOrphans_touches _).after (l := trackerParts) ((emptyQueue_touches _).after (l := trackerParts)
    ((Touches.foldl enqueueAround_touches _ _).after (l := trackerParts) ((postMembership_touches _ _).after (l := trackerParts)
      ((postPan_touches _ _).after (l := trackerParts) ((noticeCentroid_touches _ _ _).after (l := trackerParts)
        ((modPres_touches _ _ _).after (l := trackerParts) ((setLiftOrder_touches _ _).after (l := trackerParts)
          ((modPres_touches _ _ _).after (l := trackerParts)
            ((Touches.foldl (fun v k => joinClaim_touches v k w) _ _).mono)))))))))

theorem settle_touches (s : State) (p : PanSlot) : Touches trackerParts s (settle s p) := by
  have told (kind : NoticeKind) : Touches trackerParts s (noticeCentroid (place s p) kind p) :=
    (noticeCentroid_touches _ _ _).after (place_touches s p)
  unfold settle
  split
  · exact told _
  · split
    · exact returnPan_touches s _ p
    · exact (postMembership_touches _ _).after (told _)

theorem settleCount_touches (s : State) (p : PanSlot) : Touches trackerParts s (settleCount s p) := by
  have counted : Touches trackerParts s (s.modPres p fun r => { r with settle := r.settle + 1 }) := (modPres_touches s p _).mono
  exact .ite (.ite (modPres_touches s p _).mono (.ite ((settle_touches _ p).after counted) counted)) (.refl _ s)

theorem panFrameEnd_touches (s : State) : Touches trackerParts s (panFrameEnd s) :=
  (Touches.foldl settleCount_touches _ _).after (Touches.foldl refigure_touches _ s)

theorem panSecond_touches (s : State) : Touches [.figures, .graceDue] s (panSecond s) := by
  have ticked : Touches [.figures] s (s.modPans fun _ r => { r with pres := graceTick r.pres }) := by
    intro q n
    cases q
    case members =>
      funext r; rw [State.modPans_get]
      unfold graceTick; dsimp only; split <;> rfl
    case heatStates | heats | programs | allocs | schedules | delivered => all_goals funext r; rw [State.modPans_get]
    all_goals first | exact absurd (by decide) n | rfl | exact le_rfl | exact id
  exact (setGraceDue_touches _ _).after ticked

theorem expireGrace_touches (s : State) : Touches (.graceDue :: trackerParts) s (expireGrace s) := by
  unfold expireGrace
  split
  · exact .refl _ s
  · rename_i p rest _
    exact .ite ((serveOrphans_touches _).after ((retire_touches _ _ _).after (setGraceDue_touches s rest) (k := .graceDue :: trackerParts)))
      (setGraceDue_touches s rest).mono

theorem takeCoilEvent_touches (s : State) (e : CoilEvent) : Touches trackerParts s (takeCoilEvent s e) := by
  unfold takeCoilEvent
  split
  · exact takeBecameSensed_touches s _
  · exact takeSensedRelease_touches s _
  · exact (refigure_touches s _).mono
  · exact .refl _ s
  · exact takeMemberRelease_touches s _ _ _

theorem popCoil_touches (s : State) : Touches [.posts] s (popCoil s) := modPosts_touches s _

theorem takeNextCoilEvent_touches (s : State) : Touches trackerParts s (takeNextCoilEvent s) := by
  unfold takeNextCoilEvent
  split
  · exact .refl _ s
  · exact (takeCoilEvent_touches _ _).after (popCoil_touches s)

theorem takeNextFrameEnd_touches (s : State) : Touches trackerParts s (takeNextFrameEnd s) := by
  unfold takeNextFrameEnd
  split
  · exact .refl _ s
  · exact (panFrameEnd_touches _).after (modPosts_touches s _)

theorem takeNextSecond_touches (s : State) : Touches [.figures, .graceDue, .posts] s (takeNextSecond s) :=
  .ite (.refl _ s) ((panSecond_touches _).after (modPosts_touches s _))

theorem takeWholeSecond_touches (s : State) : Touches (.graceDue :: trackerParts) s (takeWholeSecond s) :=
  (Touches.iterate expireGrace_touches _ _).after (takeNextSecond_touches s)

theorem finishTracker_touches (s : State) : Touches (.graceDue :: trackerParts) s (finishTracker s) :=
  (Touches.iterate takeNextCoilEvent_touches _ _).after ((Touches.iterate takeWholeSecond_touches _ _).after
    (Touches.iterate takeNextFrameEnd_touches _ s) (k := .graceDue :: trackerParts))

theorem finishReleases_touches (s : State) (work : Tables) (valid : Bool) :
    Touches (.graceDue :: trackerParts) s (finishReleases s work valid) := .ite (finishTracker_touches s) (.refl _ s)

theorem forceRelease_touches (s : State) (k : CoilId) : Touches trackerParts s (forceRelease s k) := by
  unfold forceRelease
  split
  · exact dropMember_touches s k _
  · exact .refl _ s

theorem addCoil_touches (s : State) (k : CoilId) : Touches [.owners, .readings] s (addCoil s k) :=
  .ite (modCoil_touches s k _) (.refl _ s)

theorem takePresence_touches (s : State) (valid : Bool) : Touches (.hot :: trackerParts) s (takePresence s valid) := by
  unfold takePresence
  dsimp only
  have removed := (Touches.foldl (f := fun s k => leaveQueue (leaveOrphans (removeCoil s k) k) k) (l := .hot :: trackerParts)
      (fun v k => (leaveQueue_touches _ _).after ((leaveOrphans_touches _ _).after (removeCoil_touches v k) (k := .hot :: trackerParts)))
      (allCoils.filter (losesPresence s valid)) _).after
    (Touches.foldl forceRelease_touches (allCoils.filter (losesPresence s valid)) s) (k := .hot :: trackerParts)
  have added := Touches.ite (c := valid = true) ((Touches.foldl addCoil_touches allCoils _).after removed (k := .hot :: trackerParts)) removed
  exact (serveOrphans_touches _).after (l := .hot :: trackerParts) ((emptyQueue_touches _).after (l := .hot :: trackerParts)
    ((setOrphans_touches _ _).after added))

end Sys2Proof.Machine
end

section
/-! What each operation may touch: the Table Store, the Controller Port, the Supply Monitor and the tails. -/

namespace Sys2Proof.Machine

-- The default arguments `by decide` wait for the kernel: one declaration after the other holds few threads.
set_option Elab.async false

/-! ### The Table Store -/

theorem modTs_touches (s : State) (f : TableStore → TableStore) : Touches [.tables, .commit, .recalling] s (s.modTs f) := by
  intro q n
  cases q <;> first | exact absurd (by decide) n | rfl | exact le_rfl | exact id

theorem modTs_touches_tables (s : State) (f : TableStore → TableStore) (c : (f s.ts).commit = s.ts.commit := by rfl)
    (r : (f s.ts).recalling = s.ts.recalling := by rfl) : Touches [.tables] s (s.modTs f) := by
  intro q n
  cases q <;> first | exact absurd (by decide) n | rfl | exact le_rfl | exact id | exact c | exact r

theorem modTs_touches_commit (s : State) (f : TableStore → TableStore) (r : (f s.ts).recalling = s.ts.recalling := by rfl) :
    Touches [.tables, .commit] s (s.modTs f) := by
  intro q n
  cases q <;> first | exact absurd (by decide) n | rfl | exact le_rfl | exact id | exact r

theorem setRecalling_touches (s : State) (b : Bool) : Touches [.recalling] s (s.modTs fun ts => { ts with recalling := b }) := by
  intro q n
  cases q <;> first | exact absurd (by decide) n | rfl | exact le_rfl | exact id

theorem judgeWrite_touches (s : State) (table start count : Byte) : Touches [.orders] s (judgeWrite s table start count) := by
  have refused := endCheck_touches s
  unfold judgeWrite
  split
  · exact refused _ _ _
  · exact .ite (refused _ _ _) (.ite (refused _ _ _) (.ite (refused _ _ _) (enterDataOut_touches s _ _)))

theorem entryTaken_touches {l : List Part} {before after : State} (h : Touches l before after) (t : Fin 7) (i : Nat)
    (sub : [.allocs, .budget, .notices, .posts] ⊆ l := by decide) : Touches l before (entryTaken before after t i) :=
  .ite (h.trans ((recompute_touches after).mono sub)) (takeDerating_touches h sub)

theorem judgeRead_touches (s : State) (table start count : Byte) : Touches [.draws, .orders] s (judgeRead s table start count) := by
  have refused (k : SenseKey) (f d : Nat) : Touches [.draws, .orders] s (endCheck s k f d) := (endCheck_touches s k f d).mono
  unfold judgeRead
  split
  · exact refused _ _ _
  · exact .ite (refused _ _ _) (.ite (refused _ _ _) (openReply_touches s _))

/-- What a change of the structural-valid flag touches. -/
abbrev structureParts : List Part := .tables :: .boards :: .hot :: .graceDue :: trackerParts

theorem takeStructure_touches (s : State) (f : TableStore → TableStore) :
    Touches (.commit :: .recalling :: structureParts) s (takeStructure s f) :=
  (takeBoards_touches _ _).after ((takePresence_touches _ _).after ((modTs_touches _ f).after (finishReleases_touches s _ _)
    (k := .commit :: .recalling :: structureParts)) (k := .commit :: .recalling :: structureParts))

theorem takeStructure_touches_tables (s : State) (f : TableStore → TableStore) (c : ∀ ts, (f ts).commit = ts.commit)
    (r : ∀ ts, (f ts).recalling = ts.recalling) : Touches structureParts s (takeStructure s f) :=
  (takeBoards_touches _ _).after ((takePresence_touches _ _).after ((modTs_touches_tables _ f (c _) (r _)).after
    (finishReleases_touches s _ _) (k := structureParts)) (k := structureParts))

theorem judgeEnter_touches (s : State) : Touches [.tables, .orders] s (judgeEnter s) :=
  .ite (endCheck_touches s _ _ _).mono (.ite (endCheck_touches s _ _ _).mono ((endGood_touches _).after (modTs_touches_tables s _)))

theorem judgeExit_touches (s : State) : Touches (.orders :: structureParts) s (judgeExit s) := by
  unfold judgeExit
  split
  · exact (endCheck_touches s _ _ _).mono
  · split
    · exact (endCheck_touches s _ _ _).mono
    · exact (endGood_touches _).after (takeStructure_touches_tables s _ (fun _ => rfl) fun _ => rfl)

theorem forcedExit_touches (s : State) : Touches structureParts s (forcedExit s) :=
  .ite (takeStructure_touches_tables s _ (fun _ => rfl) fun _ => rfl) (.refl _ s)

theorem judgeCommit_touches (s : State) : Touches [.tables, .commit, .orders] s (judgeCommit s) :=
  .ite (endCheck_touches s _ _ _).mono (.ite (endCheck_touches s _ _ _).mono
    ((enterCompleting_touches _).after (modTs_touches_commit s _)))

theorem TableStore.finishRow_recalling (ts : TableStore) : ts.finishRow.recalling = ts.recalling := by
  unfold finishRow
  split <;> rfl

theorem TableStore.nextRow_recalling (ts : TableStore) (c : CommitPos) : (ts.nextRow c).1.recalling = ts.recalling := by
  have h := ts.finishRow_recalling
  unfold nextRow
  split
  · exact h
  · split <;> exact h

theorem rowWritten_touches (s : State) : Touches [.tables, .commit, .orders] s (rowWritten s) := by
  unfold rowWritten
  split
  · exact .refl _ s
  · rename_i c _
    have row := modTs_touches_commit s (fun ts => (ts.nextRow c).1) (s.ts.nextRow_recalling c)
    exact .ite ((endCheck_touches _ _ _ _).after (modTs_touches_commit s _ s.ts.finishRow_recalling))
      (.ite ((endGood_touches _).after row) row.mono)

theorem judgeRecall_touches (s : State) : Touches [.recalling, .orders] s (judgeRecall s) :=
  .ite (endCheck_touches s _ _ _).mono (.ite (endCheck_touches s _ _ _).mono
    ((enterCompleting_touches _).after (setRecalling_touches s true)))

theorem setHub_touches (s : State) (hub : HubState) : Touches [.hub] s (s.modSup fun u => { u with hub := hub }) := by
  intro q n
  cases q <;> first | exact absurd (by decide) n | rfl | exact le_rfl | exact id

theorem postRecalled_touches (before after : State) : Touches [.posts] after (postRecalled before after) :=
  .ite ((postTrigger_touches _ _).after (postTrigger_touches after _)) (postTrigger_touches after _)

/-- What the end of a recall touches. -/
abbrev recallParts : List Part :=
  .commit :: .recalling :: .hub :: .emitted :: .delivered :: .mains :: .frames :: .orders :: structureParts

theorem completeRecall_touches (s : State) : Touches recallParts s (completeRecall s) := by
  unfold completeRecall
  dsimp only
  have taken := takeStructure_touches s fun ts => { ts with work := recalledTables ts, valid := structureMarked ts, recalling := false }
  have ready := Touches.ite (c := s.sup.hub = .recalling) ((setHub_touches _ .ready).after taken (k := recallParts)) taken.mono
  have told := (postRecalled_touches s _).after ((latch_touches _).after ready (k := recallParts)) (k := recallParts)
  exact .ite (.ite ((endCheck_touches _ _ _ _).after told) ((endGood_touches _).after told)) told

/-! ### The Controller Port -/

/-- What a DATA cell touches. -/
abbrev dataParts : List Part := [.tables, .programs, .stepLists, .allocs, .budget, .notices, .posts, .orders]

theorem countEntry_touches (s : State) (o : Order) : Touches [.orders] s (countEntry s o) := modCp_touches_orders s _

theorem dropHeld_touches (s : State) : Touches [.stepLists] s (dropHeld s) := modHs_touches_lists s _

theorem takeStep_touches (s : State) (o : Order) (handle : Byte) (p : Payload) : Touches dataParts s (takeStep s o handle p) := by
  unfold takeStep
  split
  · exact (endCheck_touches _ _ _ _).after (dropHeld_touches s)
  · rename_i st _
    have counted := (countEntry_touches _ o).after (modHs_touches_lists s fun l => { l with held := l.held ++ [st] }) (k := dataParts)
    exact .ite counted ((finishLoad_touches _ _).after counted)

theorem takeEntry_touches (s : State) (o : Order) (t : Fin 7) (start : Nat) (p : Payload) :
    Touches dataParts s (takeEntry s o t start p) := by
  unfold takeEntry
  split
  · exact (endCheck_touches s _ _ _).mono
  · split
    · exact (endCheck_touches s _ _ _).mono
    · rename_i w _
      have written := entryTaken_touches (l := dataParts) ((modTs_touches_tables s fun ts => { ts with work := w }).mono) t
        (entryIndex t start o.taken)
      have counted := (countEntry_touches _ o).after written (k := dataParts)
      exact .ite counted ((endGood_touches _).after counted)

theorem takeData_touches (s : State) (o : Order) (p : Payload) : Touches dataParts s (takeData s o p) := by
  unfold takeData
  split
  · exact (endCheck_touches _ _ _ _).after (dropHeld_touches s)
  · split
    · exact takeStep_touches s o _ p
    · exact takeEntry_touches s o _ _ p
    · exact .refl _ s
    · exact .refl _ s

theorem dispatchData_touches (s : State) (tag : Byte) (p : Payload) : Touches dataParts s (dispatchData s tag p) := by
  unfold dispatchData
  split
  · exact .refl _ s
  · exact .ite (takeData_touches s _ p) (.refl _ s)

theorem dispatchHeat_touches (s : State) (handle action level : Byte) :
    Touches [.heatQueue, .notices] s (dispatchHeat s handle action level) := by
  unfold dispatchHeat
  split
  · split
    · exact .refl _ s
    · exact .ite (setHeatQueue_touches s _).mono (refuseHeat_touches s _ _ _).mono
  · exact .refl _ s

theorem dispatchAbort_touches (s : State) : Touches [.stepLists, .orders] s (dispatchAbort s) := by
  unfold dispatchAbort
  split
  · exact .refl _ s
  · exact .refl _ s
  · exact (endCheck_touches _ _ _ _).after (dropHeld_touches s)
  · exact (endCheck_touches s _ _ _).mono
  · exact (modCp_touches_orders s _).mono

theorem judgeQuiet_touches (s : State) : Touches [.posts] s (judgeQuiet s) := by
  unfold judgeQuiet
  split
  · exact .refl _ s
  · refine .ite (Touches.after (m := []) ?_ (postHaltCause_touches s .silence)) (.refl _ s)
    intro q n
    cases q <;> first | exact absurd (by decide) n | rfl | exact le_rfl | exact id | exact fun _ => rfl

theorem sendUp_touches (s : State) (cell : Cell) : Touches [.links] s (sendUp s cell) := by
  intro q n
  cases q <;> first | exact absurd (by decide) n | rfl | exact le_rfl | exact id

theorem ControllerPort.takePace_keeps (cp : ControllerPort) :
    cp.takePace.silence = cp.silence ∧ cp.takePace.heatQueue = cp.heatQueue ∧ cp.takePace.notices = cp.notices ∧
      cp.takePace.gap = cp.gap := by
  unfold takePace
  split <;> exact ⟨rfl, rfl, rfl, rfl⟩

theorem closeOrder_touches (s : State) (condition : Condition) : Touches [.orders] s (s.modCp (·.closeOrder condition)) := by
  obtain ⟨a, b, c, d⟩ := s.cp.takePace_keeps
  by_cases h : condition = .good
  · subst h; exact modCp_touches_orders s _ a b c d
  · have e : s.cp.closeOrder condition = { s.cp with state := .idle, order := none } := by simp [ControllerPort.closeOrder, h]
    exact modCp_touches_orders s _ (by rw [e]) (by rw [e]) (by rw [e]) (by rw [e])

theorem sendReply_touches (s : State) (p : Payload) (rest : List Payload) : Touches [.links, .orders] s (sendReply s p rest) := by
  have sent := (modCp_touches_orders _ fun cp => { cp with dataIn := rest }).after (sendUp_touches s (dataCell (orderTag s) p))
    (k := [.links, .orders])
  exact .ite ((endGood_touches _).after sent) sent

theorem popNotice_touches (s : State) {n : Notice} {rest : List Notice} (h : s.cp.notices = n :: rest) :
    Touches [.notices] s (s.modCp fun cp => { cp with notices := rest }) := by
  intro q m
  cases q
  case noticesFit => exact fun fits => by simp [h] at fits ⊢; omega
  all_goals first | exact absurd (by decide) m | rfl | exact le_rfl | exact id

theorem transmitUp_touches (s : State) : Touches [.links, .orders, .notices] s (transmitUp s) := by
  unfold transmitUp
  split
  · rename_i c rest _
    have sent := (modCp_touches_orders _ fun cp => { cp with statuses := rest }).after (sendUp_touches s (statusCell c))
      (k := [.links, .orders, .notices])
    exact .ite ((closeOrder_touches _ _).after sent) sent
  · split
    · exact (modCp_touches_orders _ _).after (sendUp_touches s _)
    · split
      · exact (sendReply_touches s _ _).mono
      · split
        · rename_i n rest h
          exact (popNotice_touches (sendUp s (noticeCell n)) h).after (sendUp_touches s _)
        · exact .refl _ s

theorem sendDown_touches (s : State) (b : BoardId) (cell : Cell) : Touches [.links] s (sendDown s b cell) := by
  intro q n
  cases q <;> first | exact absurd (by decide) n | rfl | exact le_rfl | exact id

theorem transmitBoard_touches (s : State) (b : BoardId) : Touches [.draws, .links, .boards] s (transmitBoard s b) := by
  unfold transmitBoard
  split
  · exact (modBoard_touches _ b _).after (sendDown_touches s b _)
  · split
    · exact (modBoard_touches _ b _).after ((sendDown_touches _ b _).after (drawn_touches s _) (k := [.draws, .links]))
    · exact .ite ((modBoard_touches _ b _).after (sendDown_touches s b _)) (.refl _ s)

theorem judgeFetch_touches (s : State) : Touches [.orders] s (judgeFetch s) :=
  (reply_touches _ _).after (modCp_touches_orders s _)

theorem judgePace_touches (s : State) (window : Byte) (timeout : BitVec 16) : Touches [.orders] s (judgePace s window timeout) :=
  (reply_touches _ _).after (modCp_touches_orders s _)

theorem judgeBook_touches (s : State) (mask : BitVec 24) : Touches [.orders] s (judgeBook s mask) :=
  (endGood_touches _).after (modCp_touches_orders s _)

theorem judgeReadPan_touches (s : State) (slot : Byte) : Touches [.draws, .orders] s (judgeReadPan s slot) := by
  unfold judgeReadPan
  split
  · exact openReply_touches s _
  · exact (endCheck_touches s _ _ _).mono

theorem judgeReadCoil_touches (s : State) (coil : Byte) : Touches [.orders] s (judgeReadCoil s coil) := by
  unfold judgeReadCoil
  split
  · exact reply_touches s _
  · exact endCheck_touches s _ _ _

/-! ### The Supply Monitor -/

/-- What a reset touches: all but the clock, the queue of commands and the last cells on the links. -/
abbrev resetParts : List Part :=
  [.draws, .pins, .hub, .tables, .commit, .recalling, .owners, .readings, .legOut, .members, .figures, .heatStates, .heats, .programs,
    .allocs, .schedules, .delivered, .liftOrder, .orphans, .examQueue, .graceDue, .requests, .stepLists, .deratings, .budget, .stage,
    .bankA, .bankB, .build, .hob, .unlockTimer, .swapPending, .awaiting, .emitted, .mains, .frames, .legs, .hot, .faults, .dues, .boards,
    .orders, .heatQueue, .notices, .scheduler, .posts]

theorem resetBlocks_touches (s : State) : Touches resetParts s (resetBlocks s) := by
  intro q n
  cases q
  case silence => exact fun _ => rfl
  case noticesFit => exact fun _ => Nat.zero_le 32
  all_goals first | exact absurd (by decide) n | rfl | exact le_rfl

theorem modSup_touches (s : State) (f : Supply → Supply) : Touches [.pins, .hub] s (s.modSup f) := by
  intro q n
  cases q <;> first | exact absurd (by decide) n | rfl | exact le_rfl | exact id

theorem modSup_touches_pins (s : State) (f : Supply → Supply) (h : (f s.sup).hub = s.sup.hub := by rfl) :
    Touches [.pins] s (s.modSup f) := by
  intro q n
  cases q <;> first | exact absurd (by decide) n | rfl | exact le_rfl | exact id | exact h

theorem tryRecall_touches (s : State) : Touches [.hub, .recalling] s (tryRecall s) :=
  .ite ((setRecalling_touches _ true).after (setHub_touches s .recalling)) (.refl _ s)

theorem resetHubNow_touches (s : State) : Touches resetParts s (resetHubNow s) :=
  (tryRecall_touches _).after (resetBlocks_touches s)

theorem assertReset_touches (s : State) : Touches resetParts s (assertReset s) :=
  .ite ((resetBlocks_touches _).after (modSup_touches s _)) (modSup_touches s _).mono

theorem releaseReset_touches (s : State) : Touches [.pins, .hub, .recalling] s (releaseReset s) :=
  (tryRecall_touches _).after (modSup_touches s _)

theorem loseAll_touches (s : State) : Touches resetParts s (loseAll s) := by
  refine .ite (.refl _ s) ?_
  intro q n
  cases q
  case silence => exact fun _ => rfl
  case noticesFit => exact fun _ => Nat.zero_le 32
  all_goals first | exact absurd (by decide) n | rfl | exact le_rfl

theorem riseDig_touches (s : State) : Touches resetParts s (riseDig s) :=
  .ite ((modSup_touches _ _).after (resetBlocks_touches s)) (.refl _ s)

theorem finishCauses_touches (s : State) : Touches [.posts, .faults] s (finishCauses s) :=
  (Touches.foldl takeHaltCause_touches _ _).after (modPosts_touches s _)

theorem takeFirstHalt_touches (s : State) : Touches leaveParts s (takeFirstHalt s) := by
  unfold takeFirstHalt
  split <;> exact (takeHalt_touches _ _).after (modPosts_touches s _)

theorem finishHalt_touches (s : State) : Touches (.faults :: leaveParts) s (finishHalt s) :=
  .ite ((takeFirstHalt_touches _).after (finishCauses_touches s)) (finishCauses_touches s).mono

theorem finishHalted_touches (s : State) : Touches [.faults, .notices, .posts] s (finishHalted s) :=
  (Touches.foldl takeHalted_touches _ _).after (modPosts_touches s _)

theorem meetHalt_touches (s : State) : Touches (.faults :: leaveParts) s (meetHalt s) := .ite (finishHalt_touches s) (.refl _ s)

theorem setBoards_touches (s : State) (v : Vector BoardPort 4) : Touches [.boards] s { s with boards := v } := by
  intro q n
  cases q <;> first | exact absurd (by decide) n | rfl | exact le_rfl | exact id

/-- What a rise above V_op touches. -/
abbrev riseParts : List Part :=
  .pins :: .hub :: .recalling :: .faults :: .notices :: .schedules :: .stage :: .bankA :: .bankB :: .build :: leaveParts

theorem riseOp_touches (s : State) : Touches riseParts s (riseOp s) := by
  have risen := modSup_touches_pins s fun u => { u with level := .aboveOp, seenReleased := u.seenReleased || !u.resetLine }
  have halted := (finishHalted_touches _).after ((finishHalt_touches _).after risen (k := riseParts)) (k := riseParts)
  have ready := (setHub_touches _ .ready).after ((finishDiscard_touches _).after halted (k := riseParts)) (k := riseParts)
  exact .ite (.ite ((setBoards_touches _ _).after ready) ((tryRecall_touches _).after risen)) (.refl _ s)

theorem lastOffNow_touches (s : State) : Touches [.links, .boards] s (lastOffNow s) := by
  intro q n
  cases q <;> first | exact absurd (by decide) n | rfl | exact le_rfl | exact id

theorem stopStore_touches (s : State) : Touches [.recalling, .orders] s (stopStore s) :=
  .ite (modCp_touches_orders s _).mono (.ite ((endCheck_touches _ _ _ _).after (setRecalling_touches s false)) (.refl _ s))

/-- What a fall below V_op touches. -/
abbrev fallParts : List Part :=
  [.pins, .hub, .links, .boards, .emitted, .delivered, .mains, .frames, .posts, .recalling, .orders]

theorem enterSupplyLow_touches (s : State) : Touches fallParts s (enterSupplyLow s) :=
  (stopStore_touches _).after ((postHaltCause_touches _ _).after ((cutFrame_touches _).after ((lastOffNow_touches _).after
    (setHub_touches s .supplyLow) (k := fallParts)) (k := fallParts)) (k := fallParts))

theorem fallOp_touches (s : State) : Touches fallParts s (fallOp s) := by
  have fallen := modSup_touches_pins s fun u => { u with level := .belowOp }
  unfold fallOp
  split
  · dsimp only
    split
    · exact (enterSupplyLow_touches _).after fallen
    · exact (setRecalling_touches _ false).after ((setHub_touches _ .dormant).after fallen (k := fallParts))
    · exact fallen.mono
    · exact fallen.mono
  · exact .refl _ s

/-! ### The tails -/

/-- What the tails touch. -/
abbrev tailParts : List Part := .graceDue :: .stepLists :: .dues :: .legs :: trackerParts

theorem finishDue_touches (s : State) : Touches tailParts s (finishDue s) :=
  (Touches.repeatTail expireWindow_touches _ _).after ((Touches.repeatTail expireCooldown_touches _ _).after
    ((Touches.repeatTail expireStep_touches _ _).after (Touches.repeatTail expireGrace_touches _ s) (k := tailParts)) (k := tailParts))

end Sys2Proof.Machine
end

section
/-! What each command does once the tails before it are finished, and what it may touch: one action and one footprint for each command. -/

namespace Sys2Proof.Machine

-- The default arguments `by decide` wait for the kernel: one declaration after the other holds few threads.
set_option Elab.async false

/-- What a command does above V_dig, with the tails before it finished. -/
def action (i : Instr) (s : State) : State :=
  match i with
  | .supplyRiseAboveVDig => riseDig s
  | .supplyFallBelowVDig => loseAll s
  | .supplyRiseAboveVOp => riseOp s
  | .supplyFallBelowVOp => fallOp s
  | .resetLineAssertion => assertReset s
  | .resetLineRelease => if s.sup.level = .belowDig then s.modSup fun u => { u with resetLine := false } else releaseReset s
  | .serviceStrapRelease => forcedExit (s.modSup fun u => { u with strap := false })
  | .zeroCrossing t => crossing s t
  | .mainsSilence t => judgeSilence (s.arrive t)
  | .unlockTimerExpiry t => judgeUnlock (s.arrive t)
  | .timeBaseSecond => second s
  | .panTrackerOneSecond => takeNextSecond s
  | .graceExpiry => expireGrace s
  | .heatStepTick => if s.posts.hsSeconds = 0 then s else stepTick (s.modPosts fun q => { q with hsSeconds := q.hsSeconds - 1 })
  | .stepEnd => expireStep s
  | .panTrackerFrameEnd => if s.sup.hub = .supplyLow then s else takeNextFrameEnd s
  | .protectionFrameEnd =>
    if s.sup.hub = .supplyLow then s
    else
      match s.posts.puFrameEnds with
      | [] => s
      | frame :: rest => protectFrameEnd (s.modPosts fun q => { q with puFrameEnds := rest }) frame
  | .cooldownExpiry => expireCooldown s
  | .retryWindowClose => expireWindow s
  | .censusDeadlineExpiry b t => censusExpires (s.arrive t) b
  | .silenceTimerExpiry t => judgeQuiet (s.arrive t)
  | .recallComplete => if s.ts.recalling then completeRecall s else s
  | .commitRowWritten => rowWritten s
  | .cellCheckFailed _ _ => s
  | .identifyHub t tag => takeOrder s t tag 1 fun s => reply s (identifyReply s)
  | .resetHub t _ => resetHubNow (s.arrive t)
  | .setPace t tag window timeout => takeOrder s t tag 3 fun s => judgePace s window timeout
  | .bookNotices t tag mask => takeOrder s t tag 4 fun s => judgeBook s mask
  | .fetchSense t tag => takeOrder s t tag 5 judgeFetch
  | .startHob t tag => takeOrder s t tag 6 judgeStart
  | .stopHob t tag => takeOrder s t tag 7 judgeStop
  | .clearFault t tag => takeOrder s t tag 8 fun s => endGood (clearFault s)
  | .readPan t tag slot => takeOrder s t tag 9 fun s => judgeReadPan s slot
  | .readCoil t tag coil => takeOrder s t tag 10 fun s => judgeReadCoil s coil
  | .readFault t tag => takeOrder s t tag 11 fun s => openReply s (faultReply s)
  | .loadProgram t tag handle count => takeOrder s t tag 12 fun s => judgeLoad s handle count
  | .runProgram t tag handle => takeOrder s t tag 13 fun s => judgeRun s handle
  | .writeTable t tag table start count => takeOrder s t tag 14 fun s => judgeWrite s table start count
  | .readTable t tag table start count => takeOrder s t tag 15 fun s => judgeRead s table start count
  | .commitTables t tag => takeOrder s t tag 16 judgeCommit
  | .recallTables t tag => takeOrder s t tag 17 judgeRecall
  | .serviceEnter t tag strap => takeOrder (s.modSup fun u => { u with strap := strap }) t tag 18 judgeEnter
  | .serviceExit t tag => takeOrder s t tag 19 judgeExit
  | .disableCoil t tag coil => takeOrder s t tag 20 fun s => judgeCoilOrder s coil fun r => { r with disabled := true, confirm := 0 }
  | .enableCoil t tag coil => takeOrder s t tag 21 fun s => judgeCoilOrder s coil fun r => { r with disabled := false }
  | .setDerate t tag board value => takeOrder s t tag 22 fun s => judgeDerate s board value
  | .illegalOrder t tag code => takeOrder s t tag code.toNat fun s => endCheck s .illegalOrder 0 0
  | .data t tag p => dispatchData (hearCell s t) tag p
  | .heat t handle action level => dispatchHeat (hearCell s t) handle action level
  | .abort t _ => dispatchAbort (hearCell s t)
  | .keepalive t => hearCell s t
  | .setLevel => takeHeadCell s .setLevel
  | .pause => takeHeadCell s .pause
  | .resume => takeHeadCell s .resume
  | .upstreamTransmit => transmitUp s
  | .boardTransmit b t => if s.sup.hub = .ready then transmitBoard (s.arrive t) b else s.arrive t
  | .sense b cell => if cell.defined then takeSense s b cell else s
  | .ident b t cell => if cell.defined ∧ s.sup.hub = .ready then judgeIdent (s.arrive t) b cell else s.arrive t
  | .memberRelease =>
    if s.sup.hub = .supplyLow then s
    else
      match s.posts.coilEvents with
      | .memberRelease k _ m firing 0 0 :: _ => takeMemberRelease (popCoil s) k m firing
      | _ => s
  | .becameSensed =>
    if s.sup.hub = .supplyLow then s
    else
      match s.posts.coilEvents with
      | .becameSensed k _ :: _ => takeBecameSensed (popCoil s) k
      | _ => s
  | .sensedReleased =>
    if s.sup.hub = .supplyLow then s
    else
      match s.posts.coilEvents with
      | .released k _ :: _ => takeSensedRelease (popCoil s) k
      | _ => s
  | .materialChanged =>
    if s.sup.hub = .supplyLow then s
    else
      match s.posts.coilEvents with
      | .materialChanged _ (some p) _ :: _ => refigure (popCoil s) p
      | .materialChanged _ none _ :: _ => popCoil s
      | _ => s
  | .heatLift =>
    match s.posts.pans with
    | .lift p :: _ => heatLifted (popPan s) p
    | _ => s
  | .heatReturn =>
    match s.posts.pans with
    | .back p :: _ => heatReturned (popPan s) p
    | _ => s
  | .heatRetirement =>
    match s.posts.pans with
    | .retirement p :: _ => heatRetired (popPan s) p
    | _ => s
  | .heatMaterialChange =>
    match s.posts.pans with
    | .material p m :: _ => heatMaterial (popPan s) p m
    | _ => s
  | .heatHobHalt =>
    match s.posts.hob with
    | .halt :: _ => heatHalted (popHob s)
    | _ => s
  | .heatStopHob =>
    match s.posts.hob with
    | .stop :: _ => heatStopped (popHob s)
    | _ => s
  | .heatStartHob =>
    match s.posts.hob with
    | .start :: _ => heatStarted (popHob s)
    | _ => s
  | .recompute =>
    match s.posts.triggers with
    | _ :: rest => recompute (s.modPosts fun q => { q with triggers := rest })
    | [] => s
  | .rebuildRequest =>
    match s.posts.scheduler with
    | .rebuild :: rest => takeRebuild (finishStart (s.modPosts fun q => { q with scheduler := rest }))
    | _ => if s.posts.rebuilds = 0 then s else takeRebuild (s.modPosts fun q => { q with rebuilds := q.rebuilds - 1 })
  | .placeComplete => placeComplete s
  | .endOfCheck => endOfCheck s
  | .offer => if s.posts.offers = 0 then s else takeOffer (s.modPosts fun q => { q with offers := q.offers - 1 })
  | .swapNotice => if s.posts.swaps = 0 then s else takeSwapNotice (s.modPosts fun q => { q with swaps := q.swaps - 1 })
  | .discard =>
    match s.posts.scheduler with
    | .discard :: rest => takeDiscard (s.modPosts fun q => { q with scheduler := rest })
    | _ => s
  | .haltCause =>
    match s.posts.haltCauses with
    | c :: rest => takeHaltCause (s.modPosts fun q => { q with haltCauses := rest }) c
    | [] => s
  | .halt =>
    match s.posts.hobClaims with
    | .halt c :: rest => takeHalt (s.modPosts fun q => { q with hobClaims := rest }) c
    | _ => s
  | .hobEnteredHalted =>
    match s.posts.halted with
    | c :: rest => takeHalted (s.modPosts fun q => { q with halted := rest }) c
    | [] => s
  | .clearHalt =>
    match s.posts.hobClaims with
    | .clear :: rest =>
      if s.sup.hub = .supplyLow ∧ s.fe.hob = .halted then s else takeClearHalt (s.modPosts fun q => { q with hobClaims := rest })
    | _ => s
  | .releaseNotice =>
    match s.posts.releases with
    | k :: rest => offNowLeg (s.modPosts fun q => { q with releases := rest }) (coilLeg k)
    | [] => s
  | .offNowRequest =>
    match s.posts.offNows with
    | l :: rest => offNowLeg (s.modPosts fun q => { q with offNows := rest }) l
    | [] => s
  | .mainsLossPost =>
    match s.posts.losses with
    | c :: rest => takeLoss (s.modPosts fun q => { q with losses := rest }) c
    | [] => s
  | .protectionBoardOut b =>
    match firstOf b s.posts.puBoards with
    | some (.out failed) => protectBoardOut (popPuBoard s b) b failed
    | _ => s
  | .protectionBoardIn b =>
    match firstOf b s.posts.puBoards with
    | some .into => legsIn (popPuBoard s b) b
    | _ => s
  | .boardRemoval b =>
    match firstOf b s.posts.puBoards with
    | some .removal => legsOut (popPuBoard s b) b
    | _ => s
  | .coilBoardOut b =>
    match firstOf b s.posts.cmBoards with
    | some (.out _) => coilsBoardOut (popCmBoard s b) b
    | _ => s
  | .coilBoardIn b =>
    match firstOf b s.posts.cmBoards with
    | some .into => coilsBoardIn (popCmBoard s b) b
    | _ => s
  | .coilLegOut =>
    match s.posts.cmClaims with
    | .legOut l :: _ => coilsLegOut (popClaim s) l
    | _ => s
  | .coilLegIn =>
    match s.posts.cmClaims with
    | .legIn l :: _ => coilsLegIn (popClaim s) l
    | _ => s
  | .hotClaim =>
    match s.posts.cmClaims with
    | .hot k :: _ => claimHot (popClaim s) k true
    | _ => s
  | .coolClaim =>
    match s.posts.cmClaims with
    | .cool k :: _ => claimHot (popClaim s) k false
    | _ => s
  | .snapshotComplete => snapshotComplete s

/-- A command of the supply or of a pin. -/
theorem exec_pin {i : Instr} (h : ActsOnPins i = true) (s : State) : exec i s = runPin s (action i) := by
  cases i <;> first | exact absurd h Bool.false_ne_true | rfl

/-- A command that takes one step of a tail. -/
theorem exec_tail {i : Instr} (h : TakesTail i = true) (s : State) : exec i s = runTail s (action i) := by
  cases i <;> first | exact absurd h Bool.false_ne_true | rfl

/-- Any other command. -/
theorem exec_run {i : Instr} (p : ActsOnPins i = false) (t : TakesTail i = false) (s : State) : exec i s = run s (action i) := by
  cases i <;> first | exact absurd p.symm Bool.false_ne_true | exact absurd t.symm Bool.false_ne_true | rfl

theorem not_pin_of_tail {i : Instr} (t : TakesTail i = true) : ActsOnPins i = false := by
  cases i <;> first | exact absurd t Bool.false_ne_true | rfl

/-- Logs 3, 4: the state a command acts on: a tail command and, below V_dig, a pin command act on the state as it is; below V_dig no other
command acts; every other command finds the tails finished. -/
theorem exec_eq (i : Instr) (s : State) :
    exec i s = .next
      (if s.sup.level = .belowDig then if ActsOnPins i then action i s else s
       else action i (if TakesTail i then s else finishDue s)) := by
  by_cases t : TakesTail i = true
  · rw [exec_tail t, runTail]
    simp [not_pin_of_tail t, t]
  · by_cases p : ActsOnPins i = true
    · rw [exec_pin p, runPin]
      by_cases h : s.sup.level = .belowDig <;> simp [h, p, t]
    · rw [exec_run (by simpa using p) (by simpa using t), run]
      simp [p, t]

/-- What a command may touch, the tails before it apart. -/
def footprint : Instr → List Part
  | .supplyRiseAboveVDig | .supplyFallBelowVDig | .resetLineAssertion | .resetHub .. => resetParts
  | .supplyRiseAboveVOp => riseParts
  | .supplyFallBelowVOp => fallParts
  | .resetLineRelease => [.pins, .hub, .recalling]
  | .serviceStrapRelease => .pins :: structureParts
  | .zeroCrossing .. => lossParts ++ slotParts ++ emitParts
  | .mainsSilence .. => lossParts
  | .unlockTimerExpiry .. => [.unlockTimer, .mains, .frames, .posts]
  | .timeBaseSecond => [.mains, .frames, .posts]
  | .panTrackerOneSecond => [.figures, .graceDue, .posts]
  | .graceExpiry => .graceDue :: trackerParts
  | .heatStepTick => [.heats, .stepLists, .posts]
  | .stepEnd => .stepLists :: heatParts
  | .panTrackerFrameEnd | .memberRelease | .becameSensed | .sensedReleased => trackerParts
  | .protectionFrameEnd | .cooldownExpiry | .retryWindowClose | .protectionBoardIn _ | .boardRemoval _ => [.legs, .dues, .posts]
  | .censusDeadlineExpiry .. | .ident .. => [.boards, .posts, .notices]
  | .silenceTimerExpiry .. => [.posts]
  | .recallComplete => recallParts
  | .commitRowWritten | .commitTables .. => [.tables, .commit, .orders]
  | .cellCheckFailed .. | .keepalive .. => []
  | .identifyHub .. | .setPace .. | .bookNotices .. | .fetchSense .. | .readCoil .. | .writeTable .. | .illegalOrder .. => [.orders]
  | .startHob .. => .swapPending :: startParts
  | .stopHob .. => .orders :: .draws :: leaveParts
  | .clearFault .. => [.legs, .faults, .posts, .orders]
  | .readPan .. | .readFault .. | .readTable .. => [.draws, .orders]
  | .loadProgram .. | .abort .. => [.stepLists, .orders]
  | .runProgram .. => .orders :: heatParts
  | .recallTables .. => [.recalling, .orders]
  | .serviceEnter .. => [.pins, .tables, .orders]
  | .serviceExit .. => .orders :: structureParts
  | .disableCoil .. | .enableCoil .. => [.readings, .posts, .orders]
  | .setDerate .. => [.deratings, .allocs, .budget, .notices, .posts, .orders]
  | .data .. => dataParts
  | .heat .. => [.heatQueue, .notices]
  | .setLevel | .pause | .resume => .heatQueue :: .faults :: heatParts ++ leaveParts
  | .upstreamTransmit => [.links, .orders, .notices]
  | .boardTransmit .. => [.draws, .links, .boards]
  | .sense .. => [.boards, .owners, .readings, .legs, .hot, .faults, .deratings, .allocs, .budget, .notices, .posts]
  | .materialChanged => [.figures, .posts]
  | .heatLift | .heatReturn | .heatMaterialChange | .heatHobHalt | .heatStopHob | .heatStartHob => heatParts
  | .heatRetirement => .programs :: heatParts
  | .recompute => [.allocs, .budget, .notices, .posts]
  | .rebuildRequest => .scheduler :: .stage :: .build :: heatParts
  | .placeComplete | .snapshotComplete => buildParts
  | .endOfCheck => .schedules :: .posts :: buildParts
  | .offer => [.swapPending, .posts]
  | .swapNotice => [.stage, .build, .posts]
  | .discard => .scheduler :: .schedules :: .posts :: buildParts
  | .haltCause | .mainsLossPost => [.posts, .faults]
  | .halt => leaveParts
  | .hobEnteredHalted => [.faults, .notices, .posts]
  | .clearHalt => [.hob, .posts]
  | .releaseNotice | .offNowRequest => [.boards, .posts]
  | .protectionBoardOut _ => [.legs, .posts, .faults]
  | .coilBoardOut _ | .coilBoardIn _ | .coilLegOut | .coilLegIn | .hotClaim | .coolClaim => [.legOut, .readings, .posts]

theorem popPan_touches (s : State) : Touches [.posts] s (popPan s) := modPosts_touches s _

theorem popHob_touches (s : State) : Touches [.posts] s (popHob s) := modPosts_touches s _

theorem popClaim_touches (s : State) : Touches [.posts] s (popClaim s) := modPosts_touches s _

theorem popPuBoard_touches (s : State) (b : BoardId) : Touches [.posts] s (popPuBoard s b) := modPosts_touches s _

theorem popCmBoard_touches (s : State) (b : BoardId) : Touches [.posts] s (popCmBoard s b) := modPosts_touches s _

theorem takeHeadCell_touches (s : State) (action : HeatAction) :
    Touches (.heatQueue :: .faults :: heatParts ++ leaveParts) s (takeHeadCell s action) :=
  .ite ((takeHeatCell_touches _ _).after (meetHalt_touches s)) (.refl _ s)

/-- Every command keeps what its footprint does not list. -/
theorem action_touches (i : Instr) (s : State) : Touches (footprint i) s (action i s) := by
  cases i
  all_goals dsimp only [footprint, action]
  case supplyRiseAboveVDig => exact riseDig_touches s
  case supplyFallBelowVDig => exact loseAll_touches s
  case supplyRiseAboveVOp => exact riseOp_touches s
  case supplyFallBelowVOp => exact fallOp_touches s
  case resetLineAssertion => exact assertReset_touches s
  case resetLineRelease => exact .ite (modSup_touches s _).mono (releaseReset_touches s)
  case serviceStrapRelease => exact (forcedExit_touches _).after (modSup_touches_pins s _)
  case zeroCrossing t => exact crossing_touches s t
  case mainsSilence t => exact (judgeSilence_touches _).after (arrive_touches s t)
  case unlockTimerExpiry t => exact (judgeUnlock_touches _).after (arrive_touches s t)
  case timeBaseSecond => exact second_touches s
  case panTrackerOneSecond => exact takeNextSecond_touches s
  case graceExpiry => exact expireGrace_touches s
  case heatStepTick => exact .ite (.refl _ s) ((stepTick_touches _).after (modPosts_touches s _))
  case stepEnd => exact expireStep_touches s
  case panTrackerFrameEnd => exact .ite (.refl _ s) (takeNextFrameEnd_touches s)
  case protectionFrameEnd =>
    refine .ite (.refl _ s) ?_
    split
    · exact .refl _ s
    · exact (protectFrameEnd_touches _ _).after (modPosts_touches s _)
  case cooldownExpiry => exact (expireCooldown_touches s).mono
  case retryWindowClose => exact (expireWindow_touches s).mono
  case censusDeadlineExpiry b t => exact (censusExpires_touches _ b).after (arrive_touches s t)
  case silenceTimerExpiry t => exact (judgeQuiet_touches _).after (arrive_touches s t)
  case recallComplete => exact .ite (completeRecall_touches s) (.refl _ s)
  case commitRowWritten => exact rowWritten_touches s
  case cellCheckFailed => exact .refl _ s
  case identifyHub t tag => exact takeOrder_touches s t tag 1 fun v => reply_touches v _
  case resetHub t tag => exact (resetHubNow_touches _).after (arrive_touches s t)
  case setPace t tag w d => exact takeOrder_touches s t tag 3 fun v => judgePace_touches v w d
  case bookNotices t tag m => exact takeOrder_touches s t tag 4 fun v => judgeBook_touches v m
  case fetchSense t tag => exact takeOrder_touches s t tag 5 judgeFetch_touches
  case startHob t tag => exact takeOrder_touches s t tag 6 judgeStart_touches
  case stopHob t tag => exact takeOrder_touches s t tag 7 judgeStop_touches
  case clearFault t tag => exact takeOrder_touches s t tag 8 fun v => (endGood_touches _).after (clearFault_touches v)
  case readPan t tag slot => exact takeOrder_touches s t tag 9 fun v => judgeReadPan_touches v slot
  case readCoil t tag coil => exact takeOrder_touches s t tag 10 fun v => judgeReadCoil_touches v coil
  case readFault t tag => exact takeOrder_touches s t tag 11 fun v => openReply_touches v _
  case loadProgram t tag handle count => exact takeOrder_touches s t tag 12 fun v => judgeLoad_touches v handle count
  case runProgram t tag handle => exact takeOrder_touches s t tag 13 fun v => judgeRun_touches v handle
  case writeTable t tag table start count => exact takeOrder_touches s t tag 14 fun v => judgeWrite_touches v table start count
  case readTable t tag table start count => exact takeOrder_touches s t tag 15 fun v => judgeRead_touches v table start count
  case commitTables t tag => exact takeOrder_touches s t tag 16 judgeCommit_touches
  case recallTables t tag => exact takeOrder_touches s t tag 17 judgeRecall_touches
  case serviceEnter t tag strap =>
    exact (takeOrder_touches _ t tag 18 judgeEnter_touches).after (modSup_touches_pins s fun u => { u with strap := strap })
  case serviceExit t tag => exact takeOrder_touches s t tag 19 judgeExit_touches
  case disableCoil t tag coil => exact takeOrder_touches s t tag 20 fun v => judgeCoilOrder_touches v coil _ (fun _ => rfl) fun _ => rfl
  case enableCoil t tag coil => exact takeOrder_touches s t tag 21 fun v => judgeCoilOrder_touches v coil _ (fun _ => rfl) fun _ => rfl
  case setDerate t tag board value => exact takeOrder_touches s t tag 22 fun v => judgeDerate_touches v board value
  case illegalOrder t tag code => exact takeOrder_touches s t tag code.toNat fun v => endCheck_touches v _ _ _
  case data t tag p => exact (dispatchData_touches _ tag p).after (hearCell_touches s t)
  case heat t handle action level => exact (dispatchHeat_touches _ handle action level).after (hearCell_touches s t)
  case abort t tag => exact (dispatchAbort_touches _).after (hearCell_touches s t)
  case keepalive t => exact hearCell_touches s t
  case setLevel | pause | resume => all_goals exact takeHeadCell_touches s _
  case upstreamTransmit => exact transmitUp_touches s
  case boardTransmit b t => exact .ite ((transmitBoard_touches _ b).after (arrive_touches s t)) (arrive_touches s t).mono
  case sense b cell => exact .ite (takeSense_touches s b cell) (.refl _ s)
  case ident b t cell => exact .ite ((judgeIdent_touches _ b cell).after (arrive_touches s t)) (arrive_touches s t).mono
  case memberRelease =>
    refine .ite (.refl _ s) ?_
    split
    · exact (takeMemberRelease_touches _ _ _ _).after (popCoil_touches s)
    · exact .refl _ s
  case becameSensed =>
    refine .ite (.refl _ s) ?_
    split
    · exact (takeBecameSensed_touches _ _).after (popCoil_touches s)
    · exact .refl _ s
  case sensedReleased =>
    refine .ite (.refl _ s) ?_
    split
    · exact (takeSensedRelease_touches _ _).after (popCoil_touches s)
    · exact .refl _ s
  case materialChanged =>
    refine .ite (.refl _ s) ?_
    split
    · exact (refigure_touches _ _).after (popCoil_touches s)
    · exact (popCoil_touches s).mono
    · exact .refl _ s
  case heatLift =>
    split
    · exact (heatLifted_touches _ _).after (popPan_touches s)
    · exact .refl _ s
  case heatReturn =>
    split
    · exact (heatReturned_touches _ _).after (popPan_touches s)
    · exact .refl _ s
  case heatRetirement =>
    split
    · exact (heatRetired_touches _ _).after (popPan_touches s)
    · exact .refl _ s
  case heatMaterialChange =>
    split
    · exact (heatMaterial_touches _ _ _).after (popPan_touches s)
    · exact .refl _ s
  case heatHobHalt =>
    split
    · exact (takeHobPost_touches _ .halt).after (popHob_touches s)
    · exact .refl _ s
  case heatStopHob =>
    split
    · exact (takeHobPost_touches _ .stop).after (popHob_touches s)
    · exact .refl _ s
  case heatStartHob =>
    split
    · exact (takeHobPost_touches _ .start).after (popHob_touches s)
    · exact .refl _ s
  case recompute =>
    split
    · exact (recompute_touches _).after (modPosts_touches s _)
    · exact .refl _ s
  case rebuildRequest =>
    split
    · exact (takeRebuild_touches _).after ((finishStart_touches _).after (modPosts_touches_scheduler s _)
        (k := .scheduler :: heatParts))
    · exact .ite (.refl _ s) ((takeRebuild_touches _).after (modPosts_touches s _))
  case placeComplete => exact placeComplete_touches s
  case endOfCheck => exact endOfCheck_touches s
  case offer => exact .ite (.refl _ s) ((takeOffer_touches _).after (modPosts_touches s _))
  case swapNotice => exact .ite (.refl _ s) ((takeSwapNotice_touches _).after (modPosts_touches s _))
  case discard =>
    split
    · exact (takeDiscard_touches _).after (modPosts_touches_scheduler s _)
    · exact .refl _ s
  case haltCause =>
    split
    · exact (takeHaltCause_touches _ _).after (modPosts_touches s _)
    · exact .refl _ s
  case halt =>
    split
    · exact (takeHalt_touches _ _).after (modPosts_touches s _)
    · exact .refl _ s
  case hobEnteredHalted =>
    split
    · exact (takeHalted_touches _ _).after (modPosts_touches s _)
    · exact .refl _ s
  case clearHalt =>
    split
    · exact .ite (.refl _ s) ((takeClearHalt_touches _).after (modPosts_touches s _))
    · exact .refl _ s
  case releaseNotice =>
    split
    · exact (offNowLeg_touches _ _).after (modPosts_touches s _)
    · exact .refl _ s
  case offNowRequest =>
    split
    · exact (offNowLeg_touches _ _).after (modPosts_touches s _)
    · exact .refl _ s
  case mainsLossPost =>
    split
    · exact (takeLoss_touches _ _).after (modPosts_touches s _)
    · exact .refl _ s
  case protectionBoardOut b =>
    split
    · exact (protectBoardOut_touches _ b _).after (popPuBoard_touches s b)
    · exact .refl _ s
  case protectionBoardIn b =>
    split
    · exact (legsIn_touches _ b).after (popPuBoard_touches s b)
    · exact .refl _ s
  case boardRemoval b =>
    split
    · exact (legsOut_touches _ b).after (popPuBoard_touches s b)
    · exact .refl _ s
  case coilBoardOut b =>
    split
    · exact (coilsBoardOut_touches _ b).after (popCmBoard_touches s b)
    · exact .refl _ s
  case coilBoardIn b =>
    split
    · exact (coilsBoardIn_touches _ b).after (popCmBoard_touches s b)
    · exact .refl _ s
  case coilLegOut =>
    split
    · exact (legOutBy_touches _ _ _).after (popClaim_touches s)
    · exact .refl _ s
  case coilLegIn =>
    split
    · exact (modLegOut_touches _ _ _).after (popClaim_touches s)
    · exact .refl _ s
  case hotClaim =>
    split
    · exact (claimHot_touches _ _ _).after (popClaim_touches s)
    · exact .refl _ s
  case coolClaim =>
    split
    · exact (claimHot_touches _ _ _).after (popClaim_touches s)
    · exact .refl _ s
  case snapshotComplete => exact snapshotComplete_touches s

/-- An invariant holds after a step if the tails keep it and the action of every command does. -/
theorem step_keeps {I : State → Prop} (queue : ∀ s rest, I s → I { s with pending := rest }) (tails : ∀ s, I s → I (finishDue s))
    (acts : ∀ i s, I s → I (action i s)) {s u : State} (h : I s) (e : step s = .next u) : I u := by
  unfold step at e
  split at e
  · cases e; exact h
  · rename_i i rest _
    rw [exec_eq] at e
    have start := queue s rest h
    simp only [Host.Outcome.next.injEq] at e
    subst e
    split
    · split
      · exact acts i _ start
      · exact start
    · split
      · exact acts i _ start
      · exact acts i _ (tails _ start)

end Sys2Proof.Machine
end

section
/-! How an invariant goes through an event of the Pan Tracker. While coils wait in the examination queue an invariant `I` of the state between
events may hold in a weaker form `J`; the operations that leave coils waiting take `I` to `J`, and emptying the queue brings `I` back. -/

namespace Sys2Proof.Machine

-- The default arguments `by decide` wait for the kernel: one declaration after the other holds few threads.
set_option Elab.async false

/-- The parts that no invariant of the Pan Tracker or of the request order list speaks of. -/
abbrev quietParts : List Part :=
  [.pending, .clock, .draws, .links, .pins, .hub, .tables, .commit, .recalling, .readings, .legOut, .figures, .heats, .programs, .allocs,
    .schedules, .delivered, .orphans, .graceDue, .stepLists, .deratings, .budget, .stage, .bankA, .bankB, .build, .hob, .unlockTimer,
    .swapPending, .awaiting, .emitted, .mains, .frames, .legs, .hot, .faults, .dues, .boards, .orders, .silence, .heatQueue, .notices,
    .noticesFit, .scheduler, .posts]

/-- R48: a LIFTED record has taken up the settling pan; the examinations and the orphan service are still to be made. -/
def returning (s : State) (w p : PanSlot) : State :=
  let pan := s.pans[p].pres
  let t := (pan.members.foldl (fun s k => joinClaim s k w) s).modPres w fun r =>
    { r with
      presence := .placed
      members := pan.members
      settle := pan.settle
      changed := false
      x := pan.x
      y := pan.y
      area := pan.area
      material := pan.material
      signature := some ⟨pan.x, pan.y, pan.area, pan.material⟩
      liftedAt := none
      grace := none }
  let t := (t.modPt fun l => { l with liftOrder := l.liftOrder.filter (· ≠ w) }).modPres p fun r => .freed r.gen
  pan.members.foldl enqueueAround (postMembership (postPan (noticeCentroid t .panReturned w) (.back w)) w)

theorem returnPan_eq (s : State) (w p : PanSlot) : returnPan s w p = serveOrphans (emptyQueue (returning s w p)) := rfl

/-- R1, R39: the members that lose their presence are released. -/
def forcedOut (s : State) (valid : Bool) : State := (allCoils.filter (losesPresence s valid)).foldl forceRelease s

/-- R1, R32: the coils that lose their presence are ABSENT and no longer listed. -/
def removedFrom (s : State) (valid : Bool) : State :=
  (allCoils.filter (losesPresence s valid)).foldl (fun s k => leaveQueue (leaveOrphans (removeCoil s k) k) k) (forcedOut s valid)

/-- R1: the coils that gain their presence are VACANT. -/
def addedTo (s : State) (valid : Bool) : State := if valid then allCoils.foldl addCoil (removedFrom s valid) else removedFrom s valid

/-- R1, R32, R39: the coils have changed; the examinations and the orphan service are still to be made. -/
def structured (s : State) (valid : Bool) : State :=
  (addedTo s valid).modPt fun l => { l with orphans := l.orphans.filter fun k => (addedTo s valid).coils[k].occupancy == .sensed }

theorem takePresence_eq (s : State) (valid : Bool) : takePresence s valid = serveOrphans (emptyQueue (structured s valid)) := rfl

/-- What an invariant of the Pan Tracker needs of the Pan Tracker's operations. -/
structure TrackerInv (I J : State → Prop) : Prop where
  /-- The invariant holds in its weaker form, too. -/
  waits : ∀ {s : State}, I s → J s
  /-- Emptying the examination queue brings the invariant back. -/
  empties : ∀ {s : State}, J s → I (emptyQueue s)
  /-- It does not depend on the quiet parts. -/
  apart : ∀ {l : List Part} {s u : State}, Touches l s u → l ⊆ quietParts → I s → I u
  serves : ∀ {s : State} (k : CoilId), I s → J (examine (leaveOrphans s k) k)
  drops : ∀ {s : State} {k : CoilId} {p : PanSlot}, J s → s.coils[k].occupancy = .member → s.coils[k].owner = some p → J (dropMember s k p)
  vacates : ∀ {s : State} {k : CoilId}, I s → s.coils[k].occupancy = .sensed → I (vacate s k)
  withdraws : ∀ {s : State} (k : CoilId), I s → J (enqueueAround (withdraw s k) k)
  senses : ∀ {s : State} (k : CoilId), I s → J (enqueueAround (enqueue s [k]) k)
  places : ∀ {s : State} {p : PanSlot}, I s → s.pans[p].pres.presence = .forming ∨ s.pans[p].pres.presence = .moving → I (place s p)
  returns : ∀ {s : State} {w p : PanSlot}, I s → s.pans[p].pres.presence = .forming → w ∈ s.pt.liftOrder → J (returning s w p)
  retires : ∀ {s : State} {p : PanSlot} (r : Reason), I s → s.pans[p].pres.presence = .lifted → I (retire s p r)
  structures : ∀ {s : State} (valid : Bool), I s → J (structured s valid)

namespace TrackerInv

variable {I J : State → Prop} {s : State}

theorem serve (H : TrackerInv I J) (n : Nat) {s : State} (h : I s) : I (serve n s) := by
  induction n generalizing s with
  | zero => exact h
  | succ n ih =>
    unfold Machine.serve
    split
    · exact ih (H.empties (H.serves _ h))
    · exact h

theorem settled (H : TrackerInv I J) (h : J s) : I (serveOrphans (emptyQueue s)) := H.serve 64 (H.empties h)

theorem releaseMember (H : TrackerInv I J) {k : CoilId} {p : PanSlot} (h : I s) (m : s.coils[k].occupancy = .member)
    (o : s.coils[k].owner = some p) : I (releaseMember s k p) := by
  have dropped := H.drops (H.waits h) m o
  unfold Machine.releaseMember
  split
  · exact H.settled dropped
  · exact H.empties dropped

theorem takeMemberRelease (H : TrackerInv I J) (h : I s) (k : CoilId) (m : Material) (firing : Bool) :
    I (takeMemberRelease s k m firing) := by
  have told {u : State} (g : I u) : I (postRelease u k) := H.apart (postRelease_touches u k) (by decide) g
  unfold Machine.takeMemberRelease
  split
  · rename_i p member owner
    have released := H.releaseMember h member owner
    split
    · exact told released
    · exact released
  · rename_i sensed
    have vacated := H.apart (postCoilEvent_touches _ (.released k m)) (by decide) (H.vacates h sensed)
    split
    · exact h
    · split
      · exact told vacated
      · exact vacated
  · exact h

theorem refigure (H : TrackerInv I J) (h : I s) (p : PanSlot) : I (refigure s p) := H.apart (refigure_touches s p) (by decide) h

theorem takeCoilEvent (H : TrackerInv I J) (h : I s) (e : CoilEvent) : I (takeCoilEvent s e) := by
  unfold Machine.takeCoilEvent
  split
  · exact H.empties (H.senses _ h)
  · exact H.empties (H.withdraws _ h)
  · exact H.refigure h _
  · exact h
  · exact H.takeMemberRelease h _ _ _

theorem popCoil (H : TrackerInv I J) (h : I s) : I (popCoil s) := H.apart (popCoil_touches s) (by decide) h

theorem takeNextCoilEvent (H : TrackerInv I J) (h : I s) : I (takeNextCoilEvent s) := by
  unfold Machine.takeNextCoilEvent
  split
  · exact h
  · exact H.takeCoilEvent (H.popCoil h) _

theorem settleCount (H : TrackerInv I J) (h : I s) (p : PanSlot) : I (settleCount s p) := by
  unfold Machine.settleCount
  dsimp only
  split
  · rename_i unsettled
    split
    · exact H.apart (modPres_touches_figures s p _) (by decide) h
    · have counting := modPres_touches_figures s p fun r => { r with settle := r.settle + 1 }
      have same : (s.modPres p fun r => { r with settle := r.settle + 1 }).pans[p].pres.presence = s.pans[p].pres.presence :=
        congrArg Prod.fst (congrFun (counting.kept .members) p)
      have counted := H.apart counting (by decide) h
      split
      · unfold Machine.settle
        split
        · rename_i moving
          exact H.apart (noticeCentroid_touches _ _ _) (by decide) (H.places counted (.inr moving))
        · rename_i notMoving
          rw [same] at notMoving
          have forming := unsettled.resolve_right notMoving
          split
          · rename_i w winner
            rw [returnPan_eq]
            refine H.settled (H.returns counted (same.trans forming) ?_)
            exact List.mem_of_mem_filter (List.mem_of_getLast? winner)
          · exact H.apart (postMembership_touches _ _) (by decide) (H.apart (noticeCentroid_touches _ _ _) (by decide)
              (H.places counted (.inl (same.trans forming))))
      · exact counted
  · exact h

theorem panFrameEnd (H : TrackerInv I J) (h : I s) : I (panFrameEnd s) :=
  List.foldlRecOn allPans Machine.settleCount (List.foldlRecOn allPans Machine.refigure h fun _ g p _ => H.refigure g p)
    fun _ g p _ => H.settleCount g p

theorem takeNextFrameEnd (H : TrackerInv I J) (h : I s) : I (takeNextFrameEnd s) := by
  unfold Machine.takeNextFrameEnd
  split
  · exact h
  · exact H.panFrameEnd (H.apart (modPosts_touches s _) (by decide) h)

theorem expireGrace (H : TrackerInv I J) (h : I s) : I (expireGrace s) := by
  unfold Machine.expireGrace
  split
  · exact h
  · rename_i p rest _
    have popped := setGraceDue_touches s rest
    split
    · rename_i ended
      have lifted : (s.modPt fun l => { l with graceDue := rest }).pans[p].pres.presence = .lifted := by
        simp only [graceOver, Bool.and_eq_true, beq_iff_eq] at ended
        exact ended.1
      exact H.serve 64 (H.retires .grace (H.apart popped (by decide) h) lifted)
    · exact H.apart popped (by decide) h

theorem takeNextSecond (H : TrackerInv I J) (h : I s) : I (takeNextSecond s) :=
  H.apart (takeNextSecond_touches s) (by decide) h

theorem takeWholeSecond (H : TrackerInv I J) (h : I s) : I (takeWholeSecond s) :=
  Function.Iterate.rec I (H.takeNextSecond h) (fun _ g => H.expireGrace g) _

theorem finishTracker (H : TrackerInv I J) (h : I s) : I (finishTracker s) :=
  have frames := Function.Iterate.rec I h (fun _ g => H.takeNextFrameEnd g) s.posts.ptFrameEnds.length
  have seconds := Function.Iterate.rec I frames (fun _ g => H.takeWholeSecond g) _
  Function.Iterate.rec I seconds (fun _ g => H.takeNextCoilEvent g) _

theorem takeStructure (H : TrackerInv I J) (h : I s) (f : TableStore → TableStore) : I (takeStructure s f) := by
  have released : I (finishReleases s (f s.ts).work (f s.ts).valid) := by
    unfold finishReleases
    split
    · exact H.finishTracker h
    · exact h
  have flagged := H.apart (modTs_touches _ f) (by decide) released
  exact H.apart (takeBoards_touches _ _) (by decide) (H.settled (H.structures (f s.ts).valid flagged))

/-- The tails keep an invariant of the Pan Tracker that the end of a step keeps. -/
theorem finishDue (H : TrackerInv I J) (steps : ∀ {v : State}, I v → I (expireStep v)) (h : I s) : I (finishDue s) := by
  have tail {f : State → State} (g : ∀ {v : State}, I v → I (f v)) (n : Nat) {v : State} (i : I v) : I (repeatTail f n v) := by
    induction n generalizing v with
    | zero => exact i
    | succ n ih => exact ih (g i)
  have windows := tail (f := expireWindow) fun i => H.apart (expireWindow_touches _) (by decide) i
  have cooldowns := tail (f := expireCooldown) fun i => H.apart (expireCooldown_touches _) (by decide) i
  exact windows _ (cooldowns _ (tail steps _ (tail H.expireGrace _ h)))

theorem completeRecall (H : TrackerInv I J) (h : I s) : I (completeRecall s) := by
  unfold Machine.completeRecall
  dsimp only
  have taken := H.takeStructure h fun ts => { ts with work := recalledTables ts, valid := structureMarked ts, recalling := false }
  generalize Machine.takeStructure s _ = t at taken
  have ready : I (if s.sup.hub = .recalling then t.modSup fun u => { u with hub := .ready } else t) := by
    split
    · exact H.apart (setHub_touches _ .ready) (by decide) taken
    · exact taken
  have told := H.apart (postRecalled_touches s _) (by decide) (H.apart (latch_touches _) (by decide) ready)
  split
  · split
    · exact H.apart (endCheck_touches _ _ _ _) (by decide) told
    · exact H.apart (endGood_touches _) (by decide) told
  · exact told

theorem judgeExit (H : TrackerInv I J) (h : I s) : I (judgeExit s) := by
  unfold Machine.judgeExit
  split
  · exact H.apart (endCheck_touches s _ _ _) (by decide) h
  · split
    · exact H.apart (endCheck_touches s _ _ _) (by decide) h
    · exact H.apart (endGood_touches _) (by decide) (H.takeStructure h _)

theorem takeOrder (H : TrackerInv I J) (h : I s) (t : Time) (tag : Byte) (code : Nat) {judge : State → State}
    (keeps : ∀ {v : State}, I v → I (judge v)) : I (takeOrder s t tag code judge) := by
  have heard := H.apart (hearCell_touches s t) (by decide) h
  unfold Machine.takeOrder
  split
  · exact H.apart (answerStatus_touches _ _ _) (by decide) heard
  · split
    · exact H.apart (answerStatus_touches _ _ _) (by decide) heard
    · exact keeps (H.apart (openOrder_touches _ _ _) (by decide) heard)

end TrackerInv

end Sys2Proof.Machine
end

section
/-! The request order list holds each heating pan once and no other (R52): every operation that changes a heat state moves the pan in the list
with it. -/

namespace Sys2Proof.Machine

-- The default arguments `by decide` wait for the kernel: one declaration after the other holds few threads.
set_option Elab.async false

theorem RequestsHeat.apart {l : List Part} {s u : State} (h : RequestsHeat s) (t : Touches l s u) (a : Part.requests ∉ l := by decide)
    (b : Part.heatStates ∉ l := by decide) : RequestsHeat u := by
  have requests : u.hs.requests = s.hs.requests := t.kept .requests a
  have states : ∀ p : PanSlot, u.pans[p].heat.state = s.pans[p].heat.state := fun p => congrFun (t.kept .heatStates b) p
  refine ⟨requests ▸ h.1, fun p => ?_⟩
  rw [requests, states, h.2]

/-- A context that stops heating, or stays cold, leaves the list. -/
theorem RequestsHeat.removed {s : State} (h : RequestsHeat s) (p : PanSlot) {f : HeatPart → HeatPart}
    (cold : (f s.pans[p].heat).state.heating = false) : RequestsHeat (removeRequest (s.modHeat p f) p) := by
  refine ⟨h.1.filter _, fun q => ?_⟩
  have e : (removeRequest (s.modHeat p f) p).pans[q] = (s.modHeat p f).pans[q] := rfl
  rw [e, State.modHeat_get]
  change q ∈ s.hs.requests.filter (· ≠ p) ↔ _
  by_cases hq : q = p
  · subst hq; simpa using cold
  · simp [hq, h.2]

/-- A context that heats moves to the head of the list. -/
theorem RequestsHeat.moved {s : State} (h : RequestsHeat s) (p : PanSlot) {f : HeatPart → HeatPart}
    (hot : (f s.pans[p].heat).state.heating = true) : RequestsHeat (moveToHead (s.modHeat p f) p) := by
  refine ⟨List.nodup_cons.mpr ⟨by simp, h.1.filter _⟩, fun q => ?_⟩
  have e : (moveToHead (s.modHeat p f) p).pans[q] = (s.modHeat p f).pans[q] := rfl
  rw [e, State.modHeat_get]
  change q ∈ p :: s.hs.requests.filter (· ≠ p) ↔ _
  by_cases hq : q = p
  · subst hq; simpa using hot
  · simp [hq, h.2]

/-- A context whose heating does not change keeps its place. -/
theorem RequestsHeat.changed {s : State} (h : RequestsHeat s) (p : PanSlot) {f : HeatPart → HeatPart}
    (same : (f s.pans[p].heat).state.heating = s.pans[p].heat.state.heating) : RequestsHeat (s.modHeat p f) := by
  refine ⟨h.1, fun q => ?_⟩
  rw [State.modHeat_get]
  split
  · subst q; rw [same]; exact h.2 p
  · exact h.2 q

theorem toIdle_requestsHeat {s : State} (h : RequestsHeat s) (p : PanSlot) : RequestsHeat (toIdle s p) := h.removed p rfl

theorem hold_requestsHeat {s : State} (h : RequestsHeat s) (p : PanSlot) {state : HeatState} (cold : state.heating = false) :
    RequestsHeat (hold s p state) := h.removed p cold

theorem resumeContext_requestsHeat {s : State} (h : RequestsHeat s) (p : PanSlot) : RequestsHeat (resumeContext s p) := by
  refine h.moved p ?_
  dsimp only
  split <;> rfl

theorem refuseHeat_requestsHeat {s : State} (h : RequestsHeat s) (handle : Byte) (reason : HeatReason) (level : Nat) :
    RequestsHeat (refuseHeat s handle reason level) := h.apart (refuseHeat_touches s handle reason level)

theorem postHeatChange_requestsHeat {before after : State} (h : RequestsHeat after) (p : PanSlot) :
    RequestsHeat (postHeatChange before after p) := by
  unfold postHeatChange
  split
  · exact h
  · exact h.apart (postTrigger_touches _ _)

theorem postHeatChanges_requestsHeat {before after : State} (h : RequestsHeat after) : RequestsHeat (postHeatChanges before after) := by
  unfold postHeatChanges
  split
  · exact h
  · exact h.apart (postTrigger_touches _ _)

/-! ### Heat cells -/

theorem applySetLevel_requestsHeat {s : State} (h : RequestsHeat s) (cell : HeatCell) : RequestsHeat (applySetLevel s cell) := by
  have refused := refuseHeat_requestsHeat h cell.handle
  have idle := toIdle_requestsHeat h (handleSlot cell.handle)
  unfold applySetLevel
  dsimp only
  split
  · exact refused _ _
  iterate 6
    split
    · first | exact refused _ _ | exact idle
  exact h.moved _ rfl

theorem applyPause_requestsHeat {s : State} (h : RequestsHeat s) (cell : HeatCell) : RequestsHeat (applyPause s cell) := by
  have refused := refuseHeat_requestsHeat h cell.handle
  unfold applyPause
  dsimp only
  split
  · exact hold_requestsHeat h _ rfl
  · exact hold_requestsHeat h _ rfl
  · rename_i suspended
    exact h.changed _ (by rw [suspended]; rfl)
  all_goals exact refused _ _

theorem applyResume_requestsHeat {s : State} (h : RequestsHeat s) (cell : HeatCell) : RequestsHeat (applyResume s cell) := by
  have refused := refuseHeat_requestsHeat h cell.handle
  unfold applyResume
  dsimp only
  iterate 4
    split
    · exact refused _ _
  exact resumeContext_requestsHeat h _

theorem applyHeat_requestsHeat {s : State} (h : RequestsHeat s) (cell : HeatCell) : RequestsHeat (applyHeat s cell) := by
  unfold applyHeat
  split
  · split
    · exact postHeatChange_requestsHeat (applySetLevel_requestsHeat h cell) _
    · exact postHeatChange_requestsHeat (applyPause_requestsHeat h cell) _
    · exact postHeatChange_requestsHeat (applyResume_requestsHeat h cell) _
  · exact refuseHeat_requestsHeat h _ _ _

theorem takeHeadCell_requestsHeat {s : State} (h : RequestsHeat s) (action : HeatAction) : RequestsHeat (takeHeadCell s action) := by
  have met := h.apart (meetHalt_touches s)
  unfold takeHeadCell
  split
  · unfold takeHeatCell
    split
    · exact met
    · split
      · exact applyHeat_requestsHeat (met.apart (setHeatQueue_touches _ _)) _
      · exact met
  · exact h

/-! ### Steps -/

theorem endStep_requestsHeat {s : State} (h : RequestsHeat s) (p : PanSlot) : RequestsHeat (endStep s p) := by
  have done : RequestsHeat (programDone s p) := (toIdle_requestsHeat h p).apart (queueNotice_touches _ _ _ _ _)
  unfold endStep
  dsimp only
  split
  · exact h
  · split
    · split
      · exact (h.apart (beginStep_touches s p _ _)).apart (queueNotice_touches _ _ _ _ _)
      · exact done
    · exact (h.apart (modHeat_touches_heats s p _)).apart (queueNotice_touches _ _ _ _ _)
    · exact done

theorem expireStep_requestsHeat {s : State} (h : RequestsHeat s) : RequestsHeat (expireStep s) := by
  unfold expireStep
  split
  · exact h
  · rename_i p rest _
    have popped := h.apart (modHs_touches_lists s fun l => { l with stepDue := rest })
    refine RequestsHeat.apart ?_ (postStepChanges_touches _)
    unfold endDueStep
    split
    · exact (endStep_requestsHeat popped p).apart (modHs_touches_lists _ _)
    · exact popped

/-! ### Posts -/

theorem refuseIdle_requestsHeat {s : State} (h : RequestsHeat s) (p : PanSlot) (handle : Byte) (reason : HeatReason) (level : Nat) :
    RequestsHeat (refuseHeat (toIdle s p) handle reason level) := refuseHeat_requestsHeat (toIdle_requestsHeat h p) _ _ _

theorem heatRetired_requestsHeat {s : State} (h : RequestsHeat s) (p : PanSlot) : RequestsHeat (heatRetired s p) :=
  postHeatChange_requestsHeat ((toIdle_requestsHeat h p).apart (setProgram_touches _ p _)) p

theorem heatLifted_requestsHeat {s : State} (h : RequestsHeat s) (p : PanSlot) : RequestsHeat (heatLifted s p) := by
  unfold heatLifted
  split
  · exact postHeatChange_requestsHeat (hold_requestsHeat h p (state := .suspended) rfl) p
  · exact h

theorem heatReturned_requestsHeat {s : State} (h : RequestsHeat s) (p : PanSlot) : RequestsHeat (heatReturned s p) := by
  unfold heatReturned
  split
  · split
    · exact postHeatChange_requestsHeat (refuseIdle_requestsHeat h p _ _ _) p
    · exact postHeatChange_requestsHeat (resumeContext_requestsHeat h p) p
  · exact h

theorem heatMaterial_requestsHeat {s : State} (h : RequestsHeat s) (p : PanSlot) (m : Material) : RequestsHeat (heatMaterial s p m) := by
  unfold heatMaterial
  split
  · exact postHeatChange_requestsHeat (refuseIdle_requestsHeat h p _ _ _) p
  · exact h

theorem takePanPost_requestsHeat {s : State} (h : RequestsHeat s) (e : PanPost) : RequestsHeat (takePanPost s e) := by
  cases e with
  | lift p => exact heatLifted_requestsHeat h p
  | back p => exact heatReturned_requestsHeat h p
  | retirement p => exact heatRetired_requestsHeat h p
  | material p m => exact heatMaterial_requestsHeat h p m

theorem clearContext_requestsHeat {s : State} (h : RequestsHeat s) (p : PanSlot) : RequestsHeat (clearContext s p) := by
  refine heatRetired_requestsHeat ?_ p
  split
  · exact List.foldlRecOn _ takePanPost (h.apart (modPosts_touches s _)) fun _ g e _ => takePanPost_requestsHeat g e
  · exact h

theorem haltHeat_cold (r : HeatPart) : (haltHeat r).state.heating = false := by
  unfold haltHeat
  split
  · rename_i idle; rw [idle]; rfl
  · rfl

theorem stopHeat_cold (r : HeatPart) : (stopHeat r).state.heating = false := by
  unfold stopHeat
  split
  · rename_i stopped; rw [stopped]; rfl
  · rfl

theorem startHeat_same (r : HeatPart) : (startHeat r).state.heating = r.state.heating := by
  unfold startHeat
  split
  · rename_i stopped; rw [stopped]; rfl
  · rfl

theorem changeContexts_heat (s : State) (f : HeatPart → HeatPart) (clear : Bool) (p : PanSlot) :
    (changeContexts s f clear).pans[p].heat = f s.pans[p].heat := by
  change (s.modPans fun _ r => { r with heat := f r.heat }).pans[p].heat = _
  rw [State.modPans_get]

/-- Where every context turns cold the list is emptied. -/
theorem changeContexts_cold (s : State) {f : HeatPart → HeatPart} (cold : ∀ r, (f r).state.heating = false) :
    RequestsHeat (changeContexts s f true) := by
  refine ⟨List.nodup_nil, fun p => ?_⟩
  rw [changeContexts_heat, cold]
  exact iff_of_false List.not_mem_nil Bool.false_ne_true

/-- Where no context starts or stops heating the list stays. -/
theorem changeContexts_same {s : State} (h : RequestsHeat s) {f : HeatPart → HeatPart}
    (same : ∀ r, (f r).state.heating = r.state.heating) : RequestsHeat (changeContexts s f false) := by
  refine ⟨h.1, fun p => ?_⟩
  rw [changeContexts_heat, same]
  exact h.2 p

theorem takeHobPost_requestsHeat {s : State} (h : RequestsHeat s) (e : HobPost) : RequestsHeat (takeHobPost s e) := by
  cases e with
  | halt => exact postHeatChanges_requestsHeat (changeContexts_cold s haltHeat_cold)
  | stop => exact postHeatChanges_requestsHeat (changeContexts_cold s stopHeat_cold)
  | start => exact postHeatChanges_requestsHeat (changeContexts_same h startHeat_same)

theorem finishHob_requestsHeat {s : State} (h : RequestsHeat s) : RequestsHeat (finishHob s) :=
  List.foldlRecOn _ takeHobPost (h.apart (modPosts_touches s _)) fun _ g e _ => takeHobPost_requestsHeat g e

/-! ### Orders -/

theorem judgeRun_requestsHeat {s : State} (h : RequestsHeat s) (handle : Byte) : RequestsHeat (judgeRun s handle) := by
  have refused (k : SenseKey) (f d : Nat) : RequestsHeat (endCheck s k f d) := h.apart (endCheck_touches s k f d)
  unfold judgeRun
  dsimp only
  split
  · exact refused _ _ _
  · split
    · exact refused _ _ _
    · rename_i step _ _
      iterate 3
        split
        · exact refused _ _ _
      have moved : RequestsHeat (moveToHead (beginStep (s.modHeat (handleSlot handle) fun r => { r with state := .program, prior := none })
          (handleSlot handle) 0 step) (handleSlot handle)) := by
        have e (v : State) (p : PanSlot) : moveToHead (beginStep (v.modHeat p fun r => { r with state := .program, prior := none }) p 0 step) p =
            moveToHead (v.modHeat p fun r =>
              { r with state := .program, prior := none, position := 0, level := step.level, remaining := step.duration,
                       timed := decide (step.duration ≠ 0) }) p := by
          simp [moveToHead, beginStep, State.modHeat, State.modPan, State.modHs, Vector.set_set]
        rw [e]
        exact h.moved _ rfl
      exact (moved.apart (postTrigger_touches _ _)).apart (endGood_touches _)

theorem judgeStart_requestsHeat {s : State} (h : RequestsHeat s) : RequestsHeat (judgeStart s) := by
  have refused (k : SenseKey) (f d : Nat) : RequestsHeat (endCheck s k f d) := h.apart (endCheck_touches s k f d)
  unfold judgeStart
  iterate 4
    split
    · exact refused _ _ _
  have stopped : RequestsHeat (finishStop s) := by
    refine RequestsHeat.apart ?_ (modPosts_touches _ _)
    split
    · exact finishHob_requestsHeat h
    · exact (finishHob_requestsHeat h).apart (recompute_touches _)
  have running := (stopped.apart (latch_touches _)).apart (modFe_touches _ fun fe =>
    { fe with hob := .running, awaiting := true, unlockTimer := if fe.lock = .locked then fe.unlockTimer else some s.now })
  have posted := (running.apart (modPosts_touches _ fun q => { q with hob := q.hob ++ [.start] })).apart
    (modPosts_touches_scheduler _ fun q => { q with scheduler := q.scheduler ++ [.rebuild] })
  exact (posted.apart (followHob_touches _)).apart (endGood_touches _)

/-! ### The Pan Tracker: a founding alone touches heat states -/

theorem readySlot_requestsHeat {s : State} (h : RequestsHeat s) (p : PanSlot) : RequestsHeat (readySlot s p) := by
  unfold readySlot
  split
  · exact clearContext_requestsHeat h p
  · exact (clearContext_requestsHeat h p).apart (recompute_touches _)

theorem foundAt_requestsHeat {s : State} (h : RequestsHeat s) (k : CoilId) (p : PanSlot) : RequestsHeat (foundAt s k p) := by
  have joined := ((readySlot_requestsHeat h p).apart (joinClaim_touches _ k p)).apart (modPres_touches _ p fun r =>
    { PresencePart.freed (r.gen + 1) with presence := .forming, members := [k], changed := true })
  exact (joined.apart (refigure_touches _ _)).apart (enqueueAround_touches _ _)

theorem joinPan_touches_pan (s : State) (k : CoilId) (p : PanSlot) :
    Touches [.owners, .readings, .members, .figures, .examQueue, .posts] s (joinPan s k p) := by
  have joined := (modPres_touches _ p fun r =>
      { r with
        members := insertCoil k r.members
        settle := 0
        changed := true
        presence := if r.presence = .placed then .moving else r.presence }).after (joinClaim_touches s k p)
      (k := [.owners, .readings, .members, .figures, .posts])
  have figured := (refigure_touches _ p).after joined (k := [.owners, .readings, .members, .figures, .posts])
  exact (enqueueAround_touches _ _).after (Touches.ite ((postMembership_touches _ p).after figured
    (k := [.owners, .readings, .members, .figures, .posts])) figured)

theorem examine_requestsHeat {s : State} (h : RequestsHeat s) (k : CoilId) : RequestsHeat (examine s k) := by
  have left := h.apart (leaveOrphans_touches s k)
  unfold examine
  split
  · exact h
  · split
    · split
      · exact h
      · unfold found
        split
        · exact foundAt_requestsHeat h k _
        · split
          · exact foundAt_requestsHeat (h.apart (retire_touches s _ _)) k _
          · exact h.apart (addOrphan_touches s k)
    · split
      · split
        · exact left.apart (joinPan_touches_pan _ _ _)
        · exact left
      · exact left

theorem emptyQueue_requestsHeat {s : State} (h : RequestsHeat s) : RequestsHeat (emptyQueue s) := by
  unfold emptyQueue
  generalize 4225 = n
  induction n generalizing s with
  | zero => exact h
  | succ n ih =>
    unfold drain
    split
    · exact h
    · exact ih (examine_requestsHeat (h.apart (setQueue_touches s _)) _)

/-- What the Pan Tracker's events touch, foundings apart. -/
abbrev presenceParts : List Part :=
  [.owners, .readings, .members, .figures, .liftOrder, .orphans, .examQueue, .notices, .posts]

theorem dropMember_touches_presence (s : State) (k : CoilId) (p : PanSlot) : Touches presenceParts s (dropMember s k p) := by
  have gone := (modPres_touches _ p fun r => { r with members := r.members.filter (· ≠ k) }).after (vacate_touches s k)
    (k := presenceParts)
  exact .ite ((enqueueAround_touches _ _).after ((endPresence_touches _ _).after gone (k := presenceParts)))
    ((splitCheck_touches _ _ _).after gone)

theorem forceRelease_touches_presence (s : State) (k : CoilId) : Touches presenceParts s (forceRelease s k) := by
  unfold forceRelease
  split
  · exact dropMember_touches_presence s k _
  · exact .refl _ s

theorem structured_touches (s : State) (valid : Bool) : Touches (.hot :: presenceParts) s (structured s valid) := by
  have removed := (Touches.foldl (f := fun s k => leaveQueue (leaveOrphans (removeCoil s k) k) k) (l := .hot :: presenceParts)
      (fun v k => (leaveQueue_touches _ _).after ((leaveOrphans_touches _ _).after (removeCoil_touches v k) (k := .hot :: presenceParts)))
      (allCoils.filter (losesPresence s valid)) _).after
    (Touches.foldl forceRelease_touches_presence (allCoils.filter (losesPresence s valid)) s) (k := .hot :: presenceParts)
  have added := Touches.ite (c := valid = true) ((Touches.foldl addCoil_touches allCoils _).after removed (k := .hot :: presenceParts)) removed
  exact (setOrphans_touches _ _).after added

theorem returning_touches (s : State) (w p : PanSlot) : Touches presenceParts s (returning s w p) := by
  unfold returning
  dsimp only
  refine (Touches.foldl enqueueAround_touches _ _).after (l := presenceParts) ((postMembership_touches _ _).after (l := presenceParts)
    ((postPan_touches _ _).after (l := presenceParts) ((noticeCentroid_touches _ _ _).after (l := presenceParts)
      ((modPres_touches _ _ _).after (l := presenceParts) ((setLiftOrder_touches _ _).after (l := presenceParts)
        ((modPres_touches _ _ _).after (l := presenceParts) ((Touches.foldl (fun v k => joinClaim_touches v k w) _ _).mono)))))))

theorem withdraw_touches_queue (s : State) (k : CoilId) : Touches [.orphans, .examQueue] s (withdraw s k) :=
  .ite ((leaveQueue_touches _ _).after (leaveOrphans_touches s k)) (.refl _ s)

theorem requestsHeat_tracked : TrackerInv RequestsHeat RequestsHeat where
  waits := id
  empties := emptyQueue_requestsHeat
  apart t sub h := h.apart t (fun e => absurd (sub e) (by decide)) fun e => absurd (sub e) (by decide)
  serves k h := examine_requestsHeat (h.apart (leaveOrphans_touches _ k)) k
  drops h _ _ := h.apart (dropMember_touches_presence _ _ _)
  vacates h _ := h.apart (vacate_touches _ _)
  withdraws k h := (h.apart (withdraw_touches_queue _ k)).apart (enqueueAround_touches _ k)
  senses k h := (h.apart (enqueue_touches _ _)).apart (enqueueAround_touches _ k)
  places h _ := h.apart (place_touches _ _)
  returns h _ _ := h.apart (returning_touches _ _ _)
  retires r h _ := h.apart (retire_touches _ _ r)
  structures valid h := h.apart (structured_touches _ valid)

/-! ### Every command -/

theorem requestsHeat_reset {u : State} (requests : u.hs.requests = []) (pans : u.pans = Vector.replicate 8 .reset) : RequestsHeat u := by
  refine ⟨requests ▸ List.nodup_nil, fun p => ?_⟩
  rw [requests, pans]
  simp [PanRecord.reset, HeatPart.idle, HeatState.heating]

theorem resetBlocks_requestsHeat (s : State) : RequestsHeat (resetBlocks s) := requestsHeat_reset rfl rfl

theorem action_requestsHeat (i : Instr) {s : State} (h : RequestsHeat s) : RequestsHeat (action i s) := by
  cases i
  case supplyRiseAboveVDig =>
    simp only [action, riseDig]
    split
    · exact (resetBlocks_requestsHeat s).apart (modSup_touches _ _)
    · exact h
  case supplyFallBelowVDig =>
    simp only [action, loseAll]
    split
    · exact h
    · exact requestsHeat_reset rfl rfl
  case resetLineAssertion =>
    simp only [action, assertReset]
    split
    · exact resetBlocks_requestsHeat _
    · exact h.apart (modSup_touches s _)
  case resetHub t tag => exact (resetBlocks_requestsHeat _).apart (tryRecall_touches _)
  case serviceStrapRelease =>
    have pinned := h.apart (modSup_touches s fun u => { u with strap := false })
    simp only [action, forcedExit]
    split
    · exact requestsHeat_tracked.takeStructure pinned _
    · exact pinned
  case graceExpiry => exact requestsHeat_tracked.expireGrace h
  case stepEnd => exact expireStep_requestsHeat h
  case panTrackerFrameEnd =>
    simp only [action]
    split
    · exact h
    · exact requestsHeat_tracked.takeNextFrameEnd h
  case recallComplete =>
    simp only [action]
    split
    · exact requestsHeat_tracked.completeRecall h
    · exact h
  case startHob t tag => exact requestsHeat_tracked.takeOrder h t tag 6 judgeStart_requestsHeat
  case runProgram t tag handle => exact requestsHeat_tracked.takeOrder h t tag 13 fun g => judgeRun_requestsHeat g handle
  case serviceExit t tag => exact requestsHeat_tracked.takeOrder h t tag 19 requestsHeat_tracked.judgeExit
  case setLevel | pause | resume => all_goals exact takeHeadCell_requestsHeat h _
  case memberRelease =>
    simp only [action]
    split
    · exact h
    · split
      · exact requestsHeat_tracked.takeMemberRelease (requestsHeat_tracked.popCoil h) _ _ _
      · exact h
  case becameSensed =>
    simp only [action]
    split
    · exact h
    · split
      · exact requestsHeat_tracked.takeCoilEvent (requestsHeat_tracked.popCoil h) (.becameSensed _ .none)
      · exact h
  case sensedReleased =>
    simp only [action]
    split
    · exact h
    · split
      · exact requestsHeat_tracked.takeCoilEvent (requestsHeat_tracked.popCoil h) (.released _ .none)
      · exact h
  case heatLift =>
    simp only [action]
    split
    · exact takePanPost_requestsHeat (h.apart (popPan_touches s)) (.lift _)
    · exact h
  case heatReturn =>
    simp only [action]
    split
    · exact takePanPost_requestsHeat (h.apart (popPan_touches s)) (.back _)
    · exact h
  case heatRetirement =>
    simp only [action]
    split
    · exact heatRetired_requestsHeat (h.apart (popPan_touches s)) _
    · exact h
  case heatMaterialChange =>
    simp only [action]
    split
    · exact takePanPost_requestsHeat (h.apart (popPan_touches s)) (.material _ _)
    · exact h
  case heatHobHalt =>
    simp only [action]
    split
    · exact takeHobPost_requestsHeat (h.apart (popHob_touches s)) .halt
    · exact h
  case heatStopHob =>
    simp only [action]
    split
    · exact takeHobPost_requestsHeat (h.apart (popHob_touches s)) .stop
    · exact h
  case heatStartHob =>
    simp only [action]
    split
    · exact takeHobPost_requestsHeat (h.apart (popHob_touches s)) .start
    · exact h
  case rebuildRequest =>
    simp only [action]
    split
    · rename_i rest _
      have popped := h.apart (modPosts_touches_scheduler s fun q => { q with scheduler := rest })
      refine RequestsHeat.apart ?_ (takeRebuild_touches _)
      unfold finishStart
      split
      · exact finishHob_requestsHeat popped
      · exact popped
    · split
      · exact h
      · exact (h.apart (modPosts_touches s _)).apart (takeRebuild_touches _)
  all_goals exact h.apart (action_touches _ s) (by simp [footprint]) (by simp [footprint])

/-- Settles O57: by the operations that change a heat state. -/
theorem requestsHeatInEveryStep : Obligations.RequestsHeatInEveryStep := by
  intro s u h e
  exact step_keeps (I := RequestsHeat) (fun _ _ h => h) (fun _ h => requestsHeat_tracked.finishDue expireStep_requestsHeat h)
    (fun i _ h => action_requestsHeat i h) h e

end Sys2Proof.Machine
end

section
/-! The member lists, the owner fields, the presence states and the lift order agree (R21): an operation of the Pan Tracker regroups one pan
at a time. -/

namespace Sys2Proof.Machine

-- The default arguments `by decide` wait for the kernel: one declaration after the other holds few threads.
set_option Elab.async false

/-- The agreement depends on the owners, the member lists and the lift order only. -/
theorem MembersAgree.apart {l : List Part} {s u : State} (h : MembersAgree s) (t : Touches l s u) (a : Part.owners ∉ l := by decide)
    (b : Part.members ∉ l := by decide) (c : Part.liftOrder ∉ l := by decide) : MembersAgree u := by
  have owners (k : CoilId) : (u.coils[k].occupancy, u.coils[k].owner) = (s.coils[k].occupancy, s.coils[k].owner) :=
    congrFun (t.kept .owners a) k
  have pans (p : PanSlot) : (u.pans[p].pres.presence, u.pans[p].pres.members) = (s.pans[p].pres.presence, s.pans[p].pres.members) :=
    congrFun (t.kept .members b) p
  have order : u.pt.liftOrder = s.pt.liftOrder := t.kept .liftOrder c
  simp only [Prod.mk.injEq] at owners pans
  obtain ⟨owned, listed, ascending, few, empty, lifted⟩ := h
  exact ⟨by simpa only [owners] using owned, by simpa only [owners, pans] using listed, by simpa only [pans] using ascending,
    by simpa only [pans] using few, by simpa only [pans] using empty, by simpa only [order, pans] using lifted⟩

/-- Coils that are members before or after keep their owner. -/
theorem MembersAgree.recoiled {s u : State} (h : MembersAgree s)
    (coils : ∀ k : CoilId, (u.coils[k].occupancy = .member ↔ s.coils[k].occupancy = .member) ∧ u.coils[k].owner = s.coils[k].owner)
    (pans : u.pans = s.pans) (order : u.pt.liftOrder = s.pt.liftOrder) : MembersAgree u := by
  obtain ⟨owned, listed, ascending, few, empty, lifted⟩ := h
  refine ⟨fun k => ?_, fun k p => ?_, by rwa [pans], by rwa [pans], by rwa [pans], by rwa [order, pans]⟩
  · rw [(coils k).1, (coils k).2, owned]
  · rw [pans, (coils k).2, listed]

/-- What a regrouping of the pan `p` leaves, and what its new members have. -/
structure Regrouped (s : State) (p : PanSlot) (u : State) : Prop where
  others : ∀ q : PanSlot, q ≠ p → u.pans[q] = s.pans[q] ∧ (q ∈ u.pt.liftOrder ↔ q ∈ s.pt.liftOrder)
  once : u.pt.liftOrder.Nodup
  lifts : p ∈ u.pt.liftOrder ↔ u.pans[p].pres.presence = .lifted
  ascending : u.pans[p].pres.members.Pairwise (· < ·)
  few : u.pans[p].pres.members.length ≤ 12
  empty : u.pans[p].pres.members = [] ↔ u.pans[p].pres.presence = .free ∨ u.pans[p].pres.presence = .lifted
  /-- A new member was free or the pan's own. -/
  taken : ∀ k ∈ u.pans[p].pres.members,
    u.coils[k].occupancy = .member ∧ u.coils[k].owner = some p ∧ (s.coils[k].owner = none ∨ s.coils[k].owner = some p)
  /-- A member that has left is free. -/
  left : ∀ k ∈ s.pans[p].pres.members, k ∉ u.pans[p].pres.members → u.coils[k].occupancy ≠ .member ∧ u.coils[k].owner = none
  /-- Every other coil stays. -/
  stays : ∀ k, k ∉ s.pans[p].pres.members → k ∉ u.pans[p].pres.members →
    (u.coils[k].occupancy = .member ↔ s.coils[k].occupancy = .member) ∧ u.coils[k].owner = s.coils[k].owner

theorem Regrouped.agrees {s u : State} {p : PanSlot} (r : Regrouped s p u) (h : MembersAgree s) : MembersAgree u := by
  have coil (k : CoilId) :
      (u.coils[k].occupancy = .member ↔ u.coils[k].owner.isSome) ∧ (k ∈ u.pans[p].pres.members ↔ u.coils[k].owner = some p) ∧
        ∀ q, q ≠ p → (s.coils[k].owner = some q ↔ u.coils[k].owner = some q) := by
    by_cases new : k ∈ u.pans[p].pres.members
    · obtain ⟨member, owner, before⟩ := r.taken k new
      refine ⟨by simp [-Fin.getElem_fin, member, owner], by simp [-Fin.getElem_fin, new, owner], fun q hq => ?_⟩
      rcases before with b | b <;> simp [-Fin.getElem_fin, b, owner, Ne.symm hq]
    · by_cases old : k ∈ s.pans[p].pres.members
      · obtain ⟨member, owner⟩ := r.left k old new
        have before := (h.listed k p).mp old
        refine ⟨by simp [-Fin.getElem_fin, member, owner], by simp [-Fin.getElem_fin, new, owner], fun q hq => ?_⟩
        simp [-Fin.getElem_fin, before, owner, Ne.symm hq]
      · obtain ⟨member, owner⟩ := r.stays k old new
        have notHere : s.coils[k].owner ≠ some p := fun e => old ((h.listed k p).mpr e)
        exact ⟨by rw [member, owner, h.owned], by simp [-Fin.getElem_fin, new, owner, notHere], fun q _ => by rw [owner]⟩
  refine ⟨fun k => (coil k).1, fun k q => ?_, fun q => ?_, fun q => ?_, fun q => ?_, r.once, fun q => ?_⟩
  all_goals by_cases hq : q = p
  · subst q; exact (coil k).2.1
  · rw [(r.others q hq).1, h.listed, (coil k).2.2 q hq]
  · subst q; exact r.ascending
  · rw [(r.others q hq).1]; exact h.ascending q
  · subst q; exact r.few
  · rw [(r.others q hq).1]; exact h.few q
  · subst q; exact r.empty
  · rw [(r.others q hq).1]; exact h.empty q
  · subst q; exact r.lifts
  · rw [(r.others q hq).1, (r.others q hq).2]; exact h.lifted.2 q

/-! ### One pan's presence part -/

theorem MembersAgree.member {s : State} (h : MembersAgree s) {k : CoilId} {p : PanSlot} (o : s.coils[k].owner = some p) :
    s.coils[k].occupancy = .member := (h.owned k).mpr (by rw [o]; rfl)

theorem MembersAgree.unowned {s : State} (h : MembersAgree s) {k : CoilId} (n : s.coils[k].occupancy ≠ .member) :
    s.coils[k].owner = none := by
  by_contra c
  exact n ((h.owned k).mpr (Option.isSome_iff_ne_none.mpr c))

theorem MembersAgree.unlisted {s : State} (h : MembersAgree s) {k : CoilId} (o : s.coils[k].owner = none) (p : PanSlot) :
    k ∉ s.pans[p].pres.members := fun m => by
  rw [h.listed, o] at m
  cases m

/-- A pan whose members stay goes from one presence to another and takes or leaves its place in the lift order. -/
theorem MembersAgree.repres {s u : State} {p : PanSlot} (h : MembersAgree s) (others : ∀ q : PanSlot, q ≠ p → u.pans[q] = s.pans[q])
    (members : u.pans[p].pres.members = s.pans[p].pres.members) (coils : u.coils = s.coils)
    (empty : s.pans[p].pres.members = [] ↔ u.pans[p].pres.presence = .free ∨ u.pans[p].pres.presence = .lifted)
    (once : u.pt.liftOrder.Nodup) (order : ∀ q : PanSlot, q ≠ p → (q ∈ u.pt.liftOrder ↔ q ∈ s.pt.liftOrder))
    (lifts : p ∈ u.pt.liftOrder ↔ u.pans[p].pres.presence = .lifted) : MembersAgree u := by
  refine Regrouped.agrees (p := p) ⟨fun q hq => ⟨others q hq, order q hq⟩, once, lifts, ?_, ?_, ?_, fun k hk => ?_, fun k old new => ?_,
    fun k _ _ => ?_⟩ h
  · rw [members]; exact h.ascending p
  · rw [members]; exact h.few p
  · rw [members]; exact empty
  · rw [members, h.listed] at hk
    rw [coils]
    exact ⟨h.member hk, hk, .inr hk⟩
  · rw [members] at new
    exact absurd old new
  · rw [coils]; exact ⟨.rfl, rfl⟩

theorem modPres_here (s : State) (p : PanSlot) (f : PresencePart → PresencePart) : (s.modPres p f).pans[p].pres = f s.pans[p].pres := by
  rw [State.modPres_get, if_pos rfl]

theorem modPres_other {s : State} {p q : PanSlot} (h : q ≠ p) (f : PresencePart → PresencePart) : (s.modPres p f).pans[q] = s.pans[q] := by
  rw [State.modPres_get, if_neg h]

theorem modPt_pans (s : State) (f : PanLists → PanLists) : (s.modPt f).pans = s.pans := rfl

/-- R46: the record retired leaves the lift order. -/
theorem retire_agrees {s : State} {p : PanSlot} (h : MembersAgree s) (lifted : s.pans[p].pres.presence = .lifted) (reason : Reason) :
    MembersAgree (retire s p reason) := by
  have core : MembersAgree ((s.modPres p fun r => .freed r.gen).modPt fun l => { l with liftOrder := l.liftOrder.filter (· ≠ p) }) := by
    have none : s.pans[p].pres.members = [] := (h.empty p).mpr (.inr lifted)
    refine h.repres (p := p) (fun q hq => ?_) ?_ rfl ?_ (h.lifted.1.filter _) (fun q hq => ?_) ?_
    · rw [modPt_pans, modPres_other hq]
    · rw [modPt_pans, modPres_here, none]; rfl
    · rw [modPt_pans, modPres_here]
      exact iff_of_true none (.inl rfl)
    · simp [hq]
    · rw [modPt_pans, modPres_here]
      exact iff_of_false (by simp) (by simp [PresencePart.freed])
  have posted := core.apart (postPan_touches _ (.retirement p))
  exact posted.apart (queueNotice_touches _ _ _ _ _)

theorem MembersAgree.standing {s : State} (h : MembersAgree s) {p : PanSlot} (free : s.pans[p].pres.presence ≠ .free)
    (lifted : s.pans[p].pres.presence ≠ .lifted) : s.pans[p].pres.members ≠ [] ∧ p ∉ s.pt.liftOrder := by
  rw [Ne, h.empty, h.lifted.2]
  exact ⟨not_or.mpr ⟨free, lifted⟩, lifted⟩

/-- R43: a settled pan keeps its members. -/
theorem place_agrees {s : State} {p : PanSlot} (h : MembersAgree s)
    (unsettled : s.pans[p].pres.presence = .forming ∨ s.pans[p].pres.presence = .moving) : MembersAgree (place s p) := by
  have stands : s.pans[p].pres.members ≠ [] ∧ p ∉ s.pt.liftOrder := by
    refine h.standing ?_ ?_
    all_goals rcases unsettled with e | e <;> rw [e] <;> decide
  unfold place
  refine h.repres (p := p) (fun q hq => modPres_other hq _) ?_ rfl ?_ h.lifted.1 (fun q _ => .rfl) ?_
  all_goals rw [modPres_here]
  · exact iff_of_false stands.1 (by simp)
  · exact iff_of_false stands.2 (by simp)

/-! ### Founding and joining -/

theorem waiting_iff (s : State) (k : CoilId) : waiting s k = true ↔ s.coils[k].occupancy = .sensed ∧ s.coils[k].owner = none := by
  simp [waiting]

theorem joinClaim_get {s : State} {k : CoilId} (h : s.coils[k].occupancy = .sensed ∨ s.coils[k].occupancy = .member) (p : PanSlot) (j : CoilId) :
    (joinClaim s k p).coils[j] = if j = k then { s.coils[k] with occupancy := .member, owner := some p } else s.coils[j] := by
  rw [joinClaim, if_pos h, State.modCoil_get]

theorem joinClaim_pans (s : State) (k : CoilId) (p : PanSlot) : (joinClaim s k p).pans = s.pans := by
  unfold joinClaim
  split <;> rfl

theorem joinClaim_pt (s : State) (k : CoilId) (p : PanSlot) : (joinClaim s k p).pt = s.pt := by
  unfold joinClaim
  split <;> rfl

/-- A waiting coil joins a pan's list, a FREE or a standing pan's alike. -/
theorem joined_agrees {s : State} {k : CoilId} {p : PanSlot} (h : MembersAgree s) (waits : waiting s k = true)
    {f : PresencePart → PresencePart} (notLifted : s.pans[p].pres.presence ≠ .lifted)
    (members : ∀ j, j ∈ (f s.pans[p].pres).members ↔ j = k ∨ j ∈ s.pans[p].pres.members)
    (ascending : (f s.pans[p].pres).members.Pairwise (· < ·)) (few : (f s.pans[p].pres).members.length ≤ 12)
    (some : (f s.pans[p].pres).presence ≠ .free ∧ (f s.pans[p].pres).presence ≠ .lifted) :
    MembersAgree ((joinClaim s k p).modPres p f) := by
  obtain ⟨sensed, unowned⟩ := (waiting_iff s k).mp waits
  have here : ((joinClaim s k p).modPres p f).pans[p].pres = f s.pans[p].pres := by
    rw [modPres_here, joinClaim_pans]
  have coil (j : CoilId) : ((joinClaim s k p).modPres p f).coils[j] =
      if j = k then { s.coils[k] with occupancy := .member, owner := .some p } else s.coils[j] := joinClaim_get (.inl sensed) p j
  have order : ((joinClaim s k p).modPres p f).pt.liftOrder = s.pt.liftOrder := congrArg PanLists.liftOrder (joinClaim_pt s k p)
  refine Regrouped.agrees (p := p) ⟨fun q hq => ⟨?_, by rw [order]⟩, by rw [order]; exact h.lifted.1, ?_, by rwa [here], by rwa [here], ?_,
    fun j hj => ?_, fun j old new => ?_, fun j old new => ?_⟩ h
  · rw [modPres_other hq, joinClaim_pans]
  · rw [order, here]
    exact iff_of_false (fun m => notLifted ((h.lifted.2 p).mp m)) some.2
  · rw [here]
    exact iff_of_false (List.ne_nil_of_mem ((members k).mpr (.inl rfl))) fun e => e.elim some.1 some.2
  · rw [here, members] at hj
    rw [coil]
    split
    · rename_i e; subst e; exact ⟨rfl, rfl, .inl unowned⟩
    · rename_i ne
      have owner := (h.listed j p).mp (hj.resolve_left ne)
      exact ⟨h.member owner, owner, .inr owner⟩
  · rw [here, members] at new
    exact absurd (.inr old) new
  · rw [here, members] at new
    rw [coil, if_neg fun e => new (.inl e)]
    exact ⟨.rfl, rfl⟩

theorem mem_insertCoil {j k : CoilId} {l : List CoilId} : j ∈ insertCoil k l ↔ j = k ∨ j ∈ l := by
  induction l with
  | nil => simp [insertCoil]
  | cons i l ih =>
    unfold insertCoil
    split
    · simp
    · split
      · rename_i e; simp [e]
      · simp only [List.mem_cons, ih]; tauto

theorem insertCoil_ascending (k : CoilId) {l : List CoilId} (h : l.Pairwise (· < ·)) : (insertCoil k l).Pairwise (· < ·) := by
  induction l with
  | nil => simp [insertCoil]
  | cons i l ih =>
    obtain ⟨head, tail⟩ := List.pairwise_cons.mp h
    unfold insertCoil
    split
    · rename_i lt
      refine List.pairwise_cons.mpr ⟨fun j hj => ?_, h⟩
      rcases List.mem_cons.mp hj with e | hj
      · exact e ▸ lt
      · exact lt.trans (head j hj)
    · split
      · exact h
      · rename_i ge ne
        refine List.pairwise_cons.mpr ⟨fun j hj => ?_, ih tail⟩
        rcases mem_insertCoil.mp hj with e | hj
        · exact e ▸ lt_of_le_of_ne (not_lt.mp ge) (Ne.symm ne)
        · exact head j hj

theorem insertCoil_length (k : CoilId) (l : List CoilId) : (insertCoil k l).length ≤ l.length + 1 := by
  induction l with
  | nil => simp [insertCoil]
  | cons i l ih =>
    unfold insertCoil
    split
    · simp
    · split
      · simp
      · simpa using ih

theorem joinPan_agrees {s : State} {k : CoilId} {p : PanSlot} (h : MembersAgree s) (waits : waiting s k = true)
    (some : s.pans[p].pres.members ≠ []) (room : s.pans[p].pres.members.length < 12) : MembersAgree (joinPan s k p) := by
  have standing : s.pans[p].pres.presence ≠ .free ∧ s.pans[p].pres.presence ≠ .lifted :=
    not_or.mp fun e => some ((h.empty p).mpr e)
  have joined : MembersAgree ((joinClaim s k p).modPres p fun r =>
      { r with
        members := insertCoil k r.members
        settle := 0
        changed := true
        presence := if r.presence = .placed then .moving else r.presence }) := by
    refine joined_agrees h waits standing.2 (fun j => mem_insertCoil) (insertCoil_ascending k (h.ascending p))
      ((insertCoil_length k _).trans room) ?_
    dsimp only
    split
    · exact ⟨by decide, by decide⟩
    · exact standing
  have figured := joined.apart (refigure_touches _ p)
  have posted := figured.apart (postMembership_touches _ p)
  refine MembersAgree.apart ?_ (enqueueAround_touches _ k)
  split
  · exact posted
  · exact figured

/-- A coil that a footprint leaves waits as before. -/
theorem waiting_kept {l : List Part} {s u : State} (t : Touches l s u) (k : CoilId) (a : Part.owners ∉ l := by decide) :
    waiting u k = waiting s k := by
  have owners : (u.coils[k].occupancy, u.coils[k].owner) = (s.coils[k].occupancy, s.coils[k].owner) :=
    congrFun (t.kept .owners a) k
  simp only [Prod.mk.injEq] at owners
  rw [waiting, owners.1, owners.2, waiting]

theorem presence_kept {l : List Part} {s u : State} (t : Touches l s u) (p : PanSlot) (a : Part.members ∉ l := by decide) :
    u.pans[p].pres.presence = s.pans[p].pres.presence ∧ u.pans[p].pres.members = s.pans[p].pres.members :=
  Prod.mk.inj (congrFun (t.kept .members a) p)

theorem foundAt_agrees {s : State} {k : CoilId} {p : PanSlot} (h : MembersAgree s) (waits : waiting s k = true)
    (free : s.pans[p].pres.presence = .free) : MembersAgree (foundAt s k p) := by
  have ready := readySlot_touches s p
  have there := presence_kept ready p
  have none : (readySlot s p).pans[p].pres.members = [] := by
    rw [there.2]; exact (h.empty p).mpr (.inl free)
  have joined : MembersAgree ((joinClaim (readySlot s p) k p).modPres p fun r =>
      { PresencePart.freed (r.gen + 1) with presence := .forming, members := [k], changed := true }) := by
    refine joined_agrees (h.apart ready) ((waiting_kept ready k).trans waits) ?_ (fun j => ?_) (List.pairwise_singleton _ k) ?_ ?_
    · rw [there.1, free]; decide
    · rw [none]; simp
    · exact Nat.le_of_ble_eq_true rfl
    · exact ⟨Presence.noConfusion, Presence.noConfusion⟩
  exact (joined.apart (refigure_touches _ p)).apart (enqueueAround_touches _ k)

theorem found_agrees {s : State} {k : CoilId} (h : MembersAgree s) (waits : waiting s k = true) : MembersAgree (found s k) := by
  unfold found
  split
  · rename_i p first
    exact foundAt_agrees h waits (by simpa using List.find?_some first)
  · split
    · rename_i p rest order
      have lifted : s.pans[p].pres.presence = .lifted := (h.lifted.2 p).mp (by simp [order])
      refine foundAt_agrees (retire_agrees h lifted .evicted) ((waiting_kept (retire_touches s p .evicted) k).trans waits) ?_
      rw [retire_eq]
      simp [retired, PresencePart.freed]
    · exact h.apart (addOrphan_touches s k)

theorem neighbourCount_nil {s : State} (h : MembersAgree s) {p : PanSlot} (none : s.pans[p].pres.members = []) (k : CoilId) :
    neighbourCount s k p = 0 := by
  rw [neighbourCount, List.length_eq_zero_iff, List.filter_eq_nil_iff]
  intro j _ e
  simp only [Bool.and_eq_true, beq_iff_eq] at e
  have listed := (h.listed j p).mpr e.2
  rw [none] at listed
  cases listed

theorem examine_agrees {s : State} (h : MembersAgree s) (k : CoilId) : MembersAgree (examine s k) := by
  have left := leaveOrphans_touches s k
  unfold examine
  split
  · exact h
  · rename_i waits
    rw [Bool.not_eq_false] at waits
    split
    · split
      · exact h
      · exact found_agrees h waits
    · rename_i best
      split
      · rename_i p leads
        split
        · rename_i room
          have leader : neighbourCount s k p = bestCount s k := by
            have : p ∈ leaders s k := by simp [leads]
            simpa [leaders] using (List.mem_filter.mp this).2
          have some : s.pans[p].pres.members ≠ [] := fun none => best (leader ▸ neighbourCount_nil h none k)
          exact joinPan_agrees (h.apart left) ((waiting_kept left k).trans waits) some room
        · exact h.apart left
      · exact h.apart left

theorem emptyQueue_agrees {s : State} (h : MembersAgree s) : MembersAgree (emptyQueue s) := by
  unfold emptyQueue
  generalize 4225 = n
  induction n generalizing s with
  | zero => exact h
  | succ n ih =>
    unfold drain
    split
    · exact h
    · exact ih (examine_agrees (h.apart (setQueue_touches s _)) _)

end Sys2Proof.Machine
end

section
/-! The member lists and the owner fields agree (R21), continued: releases and splits, returns, and changes of the structural-valid flag. -/

namespace Sys2Proof.Machine

-- The default arguments `by decide` wait for the kernel: one declaration after the other holds few threads.
set_option Elab.async false

/-! ### Components (R36) -/

theorem iterate_spread_sublist (s : State) (ms : List CoilId) (n : Nat) (seen : List CoilId) : ((spread s ms)^[n + 1] seen).Sublist ms := by
  rw [Function.iterate_succ_apply']
  exact List.filter_sublist

theorem mem_iterate_spread (s : State) {ms seen : List CoilId} {k : CoilId} (h : k ∈ ms) (g : k ∈ seen) (n : Nat) :
    k ∈ (spread s ms)^[n] seen := by
  induction n generalizing seen with
  | zero => exact g
  | succ n ih => exact ih (List.mem_filter.mpr ⟨h, by simp [g]⟩)

theorem component_cons (s : State) (k : CoilId) (rest : List CoilId) :
    (component s (k :: rest) k).Sublist (k :: rest) ∧ component s (k :: rest) k ≠ [] :=
  ⟨iterate_spread_sublist s _ rest.length [k], List.ne_nil_of_mem (mem_iterate_spread s List.mem_cons_self List.mem_cons_self _)⟩

theorem mem_components {s : State} {n : Nat} {ms c : List CoilId} (h : c ∈ components s n ms) : c.Sublist ms ∧ c ≠ [] := by
  induction n generalizing ms with
  | zero => cases h
  | succ n ih =>
    cases ms with
    | nil => cases h
    | cons k rest =>
      rcases List.mem_cons.mp h with e | h
      · exact e ▸ component_cons s k rest
      · obtain ⟨sub, some⟩ := ih h
        exact ⟨sub.trans List.filter_sublist, some⟩

theorem keptComponent_mem (s : State) (c : List CoilId) (rest : List (List CoilId)) : keptComponent s (c :: rest) ∈ c :: rest := by
  refine List.foldlRecOn rest _ List.mem_cons_self fun best hb d hd => ?_
  split
  · exact List.mem_cons_of_mem c hd
  · exact hb

/-- R36: the pan keeps some of its members. -/
theorem keptOf_sublist {s : State} {p : PanSlot} (h : s.pans[p].pres.members ≠ []) :
    (keptOf s p).Sublist s.pans[p].pres.members ∧ keptOf s p ≠ [] := by
  obtain ⟨k, rest, e⟩ := List.exists_cons_of_ne_nil h
  have mem : keptOf s p ∈ components s 12 s.pans[p].pres.members := by
    rw [keptOf, e]
    exact keptComponent_mem s _ _
  exact mem_components mem

/-! ### Loops of claims (R12) -/

theorem unownClaim_get (s : State) (k j : CoilId) :
    (unownClaim s k).coils[j] =
      if j = k ∧ s.coils[j].occupancy = .member then { s.coils[j] with occupancy := .sensed, owner := none } else s.coils[j] := by
  unfold unownClaim
  split
  · rename_i member
    rw [State.modCoil_get]
    by_cases e : j = k
    · subst e; simp only [member, and_self, if_true]
    · rw [if_neg e, if_neg fun c => e c.1]
  · rename_i free
    have apart : ¬(j = k ∧ s.coils[j].occupancy = .member) := by
      rintro ⟨rfl, member⟩
      exact free member
    exact (if_neg apart).symm

/-- R12: the coils after a loop of unown claims. -/
theorem unowned_get (ks : List CoilId) (s : State) (j : CoilId) :
    (ks.foldl unownClaim s).coils[j] =
      if j ∈ ks ∧ s.coils[j].occupancy = .member then { s.coils[j] with occupancy := .sensed, owner := none } else s.coils[j] := by
  induction ks generalizing s with
  | nil => rw [if_neg fun c => List.not_mem_nil c.1]; rfl
  | cons k ks ih =>
    rw [List.foldl_cons, ih, unownClaim_get]
    by_cases m : s.coils[j].occupancy = .member <;> by_cases e : j = k <;> by_cases g : j ∈ ks <;> simp_all

theorem unowned_pans (ks : List CoilId) (s : State) : (ks.foldl unownClaim s).pans = s.pans ∧ (ks.foldl unownClaim s).pt = s.pt := by
  refine List.foldlRecOn ks unownClaim (motive := fun v => v.pans = s.pans ∧ v.pt = s.pt) ⟨rfl, rfl⟩ fun v h k _ => ?_
  unfold unownClaim
  split <;> exact h

/-- R12: the coils after a loop of join claims. -/
theorem joins_get (ks : List CoilId) (w : PanSlot) (s : State) (j : CoilId) :
    (ks.foldl (fun s k => joinClaim s k w) s).coils[j] =
      if j ∈ ks ∧ (s.coils[j].occupancy = .sensed ∨ s.coils[j].occupancy = .member) then
        { s.coils[j] with occupancy := .member, owner := some w } else s.coils[j] := by
  induction ks generalizing s with
  | nil => rw [if_neg fun c => List.not_mem_nil c.1]; rfl
  | cons k ks ih =>
    rw [List.foldl_cons, ih]
    by_cases c : s.coils[k].occupancy = .sensed ∨ s.coils[k].occupancy = .member
    · rw [joinClaim_get c]
      by_cases e : j = k
      · subst e; simp [-Fin.getElem_fin, c]
      · simp [-Fin.getElem_fin, e]
    · rw [joinClaim, if_neg c]
      by_cases e : j = k
      · subst e; simp [-Fin.getElem_fin, c]
      · simp [-Fin.getElem_fin, e]

theorem joins_pans (ks : List CoilId) (w : PanSlot) (s : State) :
    (ks.foldl (fun s k => joinClaim s k w) s).pans = s.pans ∧ (ks.foldl (fun s k => joinClaim s k w) s).pt = s.pt :=
  List.foldlRecOn ks _ (motive := fun v => v.pans = s.pans ∧ v.pt = s.pt) ⟨rfl, rfl⟩ fun v h k _ =>
    ⟨(joinClaim_pans v k w).trans h.1, (joinClaim_pt v k w).trans h.2⟩

/-! ### A pan that loses members (R11, R35, R36) -/

/-- A pan loses members, which are free afterwards. -/
theorem shrunk_agrees {s u : State} {p : PanSlot} (h : MembersAgree s)
    (others : ∀ q : PanSlot, q ≠ p → u.pans[q] = s.pans[q] ∧ (q ∈ u.pt.liftOrder ↔ q ∈ s.pt.liftOrder)) (once : u.pt.liftOrder.Nodup)
    (lifts : p ∈ u.pt.liftOrder ↔ u.pans[p].pres.presence = .lifted)
    (empty : u.pans[p].pres.members = [] ↔ u.pans[p].pres.presence = .free ∨ u.pans[p].pres.presence = .lifted)
    (fewer : u.pans[p].pres.members.Sublist s.pans[p].pres.members)
    (left : ∀ k ∈ s.pans[p].pres.members, k ∉ u.pans[p].pres.members → u.coils[k].occupancy ≠ .member ∧ u.coils[k].owner = none)
    (stays : ∀ k, (k ∈ s.pans[p].pres.members → k ∈ u.pans[p].pres.members) → u.coils[k] = s.coils[k]) : MembersAgree u := by
  refine Regrouped.agrees (p := p) ⟨others, once, lifts, (h.ascending p).sublist fewer, fewer.length_le.trans (h.few p), empty,
    fun k hk => ?_, left, fun k old _ => ?_⟩ h
  · rw [stays k fun _ => hk]
    have owner := (h.listed k p).mp (fewer.subset hk)
    exact ⟨h.member owner, owner, .inr owner⟩
  · rw [stays k fun e => absurd e old]
    exact ⟨.rfl, rfl⟩

/-- R11: the member is VACANT and off the pan's list; what becomes of the pan follows. -/
def released (s : State) (k : CoilId) (p : PanSlot) : State :=
  (vacate s k).modPres p fun r => { r with members := r.members.filter (· ≠ k) }

theorem dropMember_eq (s : State) (k : CoilId) (p : PanSlot) :
    dropMember s k p = if (released s k p).pans[p].pres.members = [] then enqueueAround (endPresence (released s k p) p) k
      else splitCheck (released s k p) p k := rfl

theorem released_here (s : State) (k : CoilId) (p : PanSlot) :
    (released s k p).pans[p].pres = { s.pans[p].pres with members := s.pans[p].pres.members.filter (· ≠ k) } := modPres_here _ p _

theorem released_other {q p : PanSlot} (h : q ≠ p) (s : State) (k : CoilId) : (released s k p).pans[q] = s.pans[q] := modPres_other h _

theorem released_coil (s : State) (k j : CoilId) (p : PanSlot) :
    (released s k p).coils[j] = if j = k then { s.coils[k] with occupancy := .vacant, confirm := 0, owner := none } else s.coils[j] :=
  State.modCoil_get s k j fun r => { r with occupancy := .vacant, confirm := 0, owner := none }

/-- R35: a pan whose last member is released leaves the table or is lifted. -/
theorem ended_agrees {s u : State} {k : CoilId} {p : PanSlot} (h : MembersAgree s) (last : s.pans[p].pres.members.filter (· ≠ k) = [])
    (coils : u.coils = (released s k p).coils)
    (others : ∀ q : PanSlot, q ≠ p → u.pans[q] = s.pans[q] ∧ (q ∈ u.pt.liftOrder ↔ q ∈ s.pt.liftOrder)) (once : u.pt.liftOrder.Nodup)
    (lifts : p ∈ u.pt.liftOrder ↔ u.pans[p].pres.presence = .lifted) (none : u.pans[p].pres.members = [])
    (empty : u.pans[p].pres.presence = .free ∨ u.pans[p].pres.presence = .lifted) (o : s.coils[k].owner = some p) : MembersAgree u := by
  have only (j : CoilId) (hj : j ∈ s.pans[p].pres.members) : j = k := by
    by_contra ne
    have : j ∈ s.pans[p].pres.members.filter (· ≠ k) := List.mem_filter.mpr ⟨hj, decide_eq_true ne⟩
    rw [last] at this
    cases this
  refine shrunk_agrees h others once lifts (iff_of_true none empty) (none ▸ List.nil_sublist _) (fun j old _ => ?_) fun j kept => ?_
  · rw [coils, released_coil, if_pos (only j old)]
    exact ⟨Occupancy.noConfusion, rfl⟩
  · rw [coils, released_coil, if_neg]
    rintro rfl
    have listed := kept ((h.listed j p).mpr o)
    rw [none] at listed
    exact List.not_mem_nil listed

theorem lifted_here (s : State) (p : PanSlot) :
    (lifted s p).pans[p].pres =
      { s.pans[p].pres with presence := .lifted, liftedAt := some s.fe.seconds, grace := some s.ts.work.grace } := by
  rw [lifted, modPt_pans, modPres_here]

theorem lifted_other {q p : PanSlot} (h : q ≠ p) (s : State) : (lifted s p).pans[q] = s.pans[q] := by
  rw [lifted, modPt_pans, modPres_other h]

theorem lifted_agrees {s : State} {k : CoilId} {p : PanSlot} (h : MembersAgree s) (last : s.pans[p].pres.members.filter (· ≠ k) = [])
    (o : s.coils[k].owner = some p) (away : s.pans[p].pres.presence ≠ .lifted) : MembersAgree (lifted (released s k p) p) := by
  have outside : p ∉ s.pt.liftOrder := fun m => away ((h.lifted.2 p).mp m)
  have order : (lifted (released s k p) p).pt.liftOrder = s.pt.liftOrder ++ [p] := rfl
  refine ended_agrees (u := lifted (released s k p) p) h last rfl (fun q hq => ⟨?_, ?_⟩) ?_ ?_ ?_ ?_ o
  · rw [lifted_other hq, released_other hq]
  · rw [order]; simp [hq]
  · rw [order]
    exact h.lifted.1.append (List.nodup_singleton p) (by simpa using outside)
  · rw [order, lifted_here]; simp
  · rw [lifted_here, released_here]; exact last
  · rw [lifted_here]; exact .inr rfl

theorem endPresence_agrees {s : State} {k : CoilId} {p : PanSlot} (h : MembersAgree s) (o : s.coils[k].owner = some p)
    (last : (released s k p).pans[p].pres.members = []) : MembersAgree (endPresence (released s k p) p) := by
  have presence : (released s k p).pans[p].pres.presence = s.pans[p].pres.presence := by rw [released_here]
  rw [released_here] at last
  have stands := not_or.mp fun e => List.ne_nil_of_mem ((h.listed k p).mpr o) ((h.empty p).mpr e)
  have up : MembersAgree (liftPan (released s k p) p) := by
    have told : Touches [.notices, .posts] (lifted (released s k p) p) (liftTold (released s k p) p) :=
      (postMembership_touches _ p).after ((postPan_touches _ (.lift p)).after (queueNotice_touches _ _ _ _ _) (k := [.notices, .posts]))
    have agrees := (lifted_agrees h last o stands.2).apart told
    rw [liftPan_eq]
    split
    · refine retire_agrees agrees ?_ .grace
      rw [(presence_kept told p).1, lifted_here]
    · exact agrees
  unfold endPresence
  split
  · rename_i forming
    have outside : p ∉ s.pt.liftOrder := fun m => stands.2 ((h.lifted.2 p).mp m)
    refine ended_agrees (k := k) (p := p) h last rfl (fun q hq => ⟨?_, .rfl⟩) h.lifted.1 ?_ ?_ ?_ o
    · exact (modPres_other hq _).trans (released_other hq s k)
    all_goals rw [modPres_here]
    · exact iff_of_false outside Presence.noConfusion
    · rfl
    · exact .inl rfl
  · exact up
  · exact up
  · rename_i free; exact absurd (presence ▸ free) stands.1
  · rename_i lifted; exact absurd (presence ▸ lifted) stands.2

/-- R36: a pan that keeps members keeps one component of them. -/
theorem splitOwned_agrees {s : State} {k : CoilId} {p : PanSlot} (h : MembersAgree s) (o : s.coils[k].owner = some p)
    (more : (released s k p).pans[p].pres.members ≠ []) : MembersAgree (splitOwned (released s k p) p) := by
  obtain ⟨sub, some⟩ := keptOf_sublist more
  have here : (splitOwned (released s k p) p).pans[p].pres = splitPres (keptOf (released s k p) p) (released s k p).pans[p].pres := by
    rw [splitOwned, (unowned_pans _ _).1, modPres_here]
  have presence : (released s k p).pans[p].pres.presence = s.pans[p].pres.presence := by rw [released_here]
  have members : (released s k p).pans[p].pres.members = s.pans[p].pres.members.filter (· ≠ k) := by rw [released_here]
  have order : (splitOwned (released s k p) p).pt.liftOrder = s.pt.liftOrder := by rw [splitOwned, (unowned_pans _ _).2]; rfl
  have stands := not_or.mp fun e => List.ne_nil_of_mem ((h.listed k p).mpr o) ((h.empty p).mpr e)
  have still : (splitPres (keptOf (released s k p) p) (released s k p).pans[p].pres).presence ≠ .free ∧
      (splitPres (keptOf (released s k p) p) (released s k p).pans[p].pres).presence ≠ .lifted := by
    unfold splitPres
    dsimp only
    split
    · exact ⟨Presence.noConfusion, Presence.noConfusion⟩
    · rw [presence]; exact stands
  have coil (j : CoilId) : (splitOwned (released s k p) p).coils[j] =
      if j ∈ shedOf (released s k p) p ∧ (released s k p).coils[j].occupancy = .member then
        { (released s k p).coils[j] with occupancy := .sensed, owner := .none } else (released s k p).coils[j] := unowned_get _ _ j
  refine shrunk_agrees (p := p) h (fun q hq => ⟨?_, by rw [order]⟩) (order ▸ h.lifted.1) ?_ ?_ ?_ (fun j old new => ?_) fun j kept => ?_
  · rw [splitOwned, (unowned_pans _ _).1, modPres_other hq, released_other hq]
  · rw [order, here]
    exact iff_of_false (fun m => stands.2 ((h.lifted.2 p).mp m)) still.2
  · rw [here]
    exact iff_of_false some (not_or.mpr still)
  · rw [here]
    exact sub.trans (members ▸ List.filter_sublist)
  · rw [here] at new
    rw [coil, released_coil]
    by_cases e : j = k
    · rw [if_pos e, if_neg fun c => Occupancy.noConfusion c.2]
      exact ⟨Occupancy.noConfusion, rfl⟩
    · have shed : j ∈ shedOf (released s k p) p :=
        List.mem_filter.mpr ⟨members ▸ List.mem_filter.mpr ⟨old, decide_eq_true e⟩, by simpa [splitPres] using new⟩
      rw [if_neg e, if_pos ⟨shed, h.member ((h.listed j p).mp old)⟩]
      exact ⟨Occupancy.noConfusion, rfl⟩
  · rw [here] at kept
    have notShed : j ∉ shedOf (released s k p) p := fun shed => by
      obtain ⟨old, out⟩ := List.mem_filter.mp shed
      have := kept (List.mem_of_mem_filter (members ▸ old))
      simp only [splitPres] at this
      simp [this] at out
    have ne : j ≠ k := by
      rintro rfl
      have stays := sub.subset (kept ((h.listed j p).mpr o))
      rw [members] at stays
      simp at stays
    rw [coil, if_neg fun c => notShed c.1, released_coil, if_neg ne]

theorem splitCheck_agrees {s : State} {k : CoilId} {p : PanSlot} (h : MembersAgree s) (o : s.coils[k].owner = some p)
    (more : (released s k p).pans[p].pres.members ≠ []) : MembersAgree (splitCheck (released s k p) p k) := by
  have figured := (splitOwned_agrees h o more).apart (refigure_touches _ p)
  have told : MembersAgree (splitTold (released s k p) p) := by
    have posted : MembersAgree (if (released s k p).pans[p].pres.presence.standing then
        postMembership (refigure (splitOwned (released s k p) p) p) p else refigure (splitOwned (released s k p) p) p) := by
      split
      · exact figured.apart (postMembership_touches _ p)
      · exact figured
    unfold splitTold
    dsimp only
    generalize (if (released s k p).pans[p].pres.presence.standing then
        postMembership (refigure (splitOwned (released s k p) p) p) p else refigure (splitOwned (released s k p) p) p) = u at posted ⊢
    split
    · exact posted.apart (queueNotice_touches _ _ _ _ _)
    · exact posted
  rw [splitCheck_eq]
  have first := (told.apart (enqueue_touches _ (shedOf (released s k p) p))).apart (enqueueAround_touches _ k)
  exact (first.apart (enqueue_touches _ _)).apart (Touches.foldl enqueueAround_touches _ _)

theorem dropMember_agrees {s : State} {k : CoilId} {p : PanSlot} (h : MembersAgree s) (o : s.coils[k].owner = some p) :
    MembersAgree (dropMember s k p) := by
  rw [dropMember_eq]
  split
  · rename_i last
    exact (endPresence_agrees h o last).apart (enqueueAround_touches _ k)
  · rename_i more
    exact splitCheck_agrees h o more

/-- R11: no coil but members is a member after a release, and the coil released is none. -/
theorem dropMember_member {s : State} {j k : CoilId} {p : PanSlot} (m : (dropMember s k p).coils[j].occupancy = .member) :
    s.coils[j].occupancy = .member ∧ j ≠ k := by
  have start (e : (released s k p).coils[j].occupancy = .member) : s.coils[j].occupancy = .member ∧ j ≠ k := by
    rw [released_coil] at e
    split at e
    · cases e
    · rename_i ne; exact ⟨e, ne⟩
  have same {l : List Part} {v u : State} (t : Touches l v u) (a : Part.owners ∉ l := by decide) :
      u.coils[j].occupancy = v.coils[j].occupancy := congrArg Prod.fst (congrFun (t.kept .owners a) j)
  rw [dropMember_eq] at m
  split at m
  · rw [same (enqueueAround_touches _ k), same (endPresence_touches _ p)] at m
    exact start m
  · rw [splitCheck_eq, same (Touches.foldl enqueueAround_touches _ _), same (enqueue_touches _ _), same (enqueueAround_touches _ k),
      same (enqueue_touches _ _)] at m
    have split : (splitTold (released s k p) p).coils[j].occupancy = (splitOwned (released s k p) p).coils[j].occupancy := by
      unfold splitTold
      dsimp only
      have figured := same (refigure_touches (splitOwned (released s k p) p) p)
      have posted : (if (released s k p).pans[p].pres.presence.standing then postMembership (refigure (splitOwned (released s k p) p) p) p
          else refigure (splitOwned (released s k p) p) p).coils[j].occupancy = (splitOwned (released s k p) p).coils[j].occupancy := by
        split
        · exact (same (postMembership_touches _ p)).trans figured
        · exact figured
      generalize (if (released s k p).pans[p].pres.presence.standing then postMembership (refigure (splitOwned (released s k p) p) p) p
          else refigure (splitOwned (released s k p) p) p) = u at posted ⊢
      split
      · exact (same (queueNotice_touches _ _ _ _ _)).trans posted
      · exact posted
    rw [split, splitOwned, unowned_get] at m
    split at m
    · cases m
    · exact start m

end Sys2Proof.Machine
end

section
/-! How an invariant of the grouping goes through every command: it holds at a reset, the Pan Tracker's operations keep it, the reports need
a proof of their own, and no other command touches the grouping. -/

namespace Sys2Proof.Machine

-- The default arguments `by decide` wait for the kernel: one declaration after the other holds few threads.
set_option Elab.async false

/-- The parts that make up the grouping of the coils into pans. -/
abbrev groupParts : List Part := [.owners, .members, .liftOrder, .examQueue]

/-- What an invariant of the grouping needs of the commands outside the Pan Tracker. -/
structure GroupInv (I J : State → Prop) : Prop extends TrackerInv I J where
  /-- It depends on the grouping only. -/
  grouped : ∀ {l : List Part} {s u : State}, Touches l s u → (∀ q ∈ groupParts, q ∉ l) → I s → I u
  resets : ∀ {u : State}, u.coils = Vector.replicate 64 .reset → u.pans = Vector.replicate 8 .reset → u.pt = State.reset.pt → I u
  senses' : ∀ {s : State} (b : BoardId) (cell : SenseCell), I s → I (takeSense s b cell)

namespace GroupInv

variable {I J : State → Prop} {s : State}

theorem resetBlocks (H : GroupInv I J) (s : State) : I (resetBlocks s) := H.resets rfl rfl rfl

theorem action (H : GroupInv I J) (i : Instr) (h : I s) : I (action i s) := by
  cases i
  case supplyRiseAboveVDig =>
    simp only [Machine.action, riseDig]
    split
    · exact H.apart (modSup_touches _ _) (by decide) (H.resetBlocks s)
    · exact h
  case supplyFallBelowVDig =>
    simp only [Machine.action, loseAll]
    split
    · exact h
    · exact H.resets rfl rfl rfl
  case resetLineAssertion =>
    simp only [Machine.action, assertReset]
    split
    · exact H.resetBlocks _
    · exact H.apart (modSup_touches s _) (by decide) h
  case resetHub t tag => exact H.apart (tryRecall_touches _) (by decide) (H.resetBlocks _)
  case serviceStrapRelease =>
    have pinned := H.apart (modSup_touches s fun u => { u with strap := false }) (by decide) h
    simp only [Machine.action, forcedExit]
    split
    · exact H.takeStructure pinned _
    · exact pinned
  case graceExpiry => exact H.expireGrace h
  case panTrackerFrameEnd =>
    simp only [Machine.action]
    split
    · exact h
    · exact H.takeNextFrameEnd h
  case recallComplete =>
    simp only [Machine.action]
    split
    · exact H.completeRecall h
    · exact h
  case serviceExit t tag => exact H.takeOrder h t tag 19 H.judgeExit
  case sense b cell =>
    simp only [Machine.action]
    split
    · exact H.senses' b cell h
    · exact h
  case memberRelease =>
    simp only [Machine.action]
    split
    · exact h
    · split
      · exact H.takeMemberRelease (H.popCoil h) _ _ _
      · exact h
  case becameSensed =>
    simp only [Machine.action]
    split
    · exact h
    · split
      · exact H.takeCoilEvent (H.popCoil h) (.becameSensed _ .none)
      · exact h
  case sensedReleased =>
    simp only [Machine.action]
    split
    · exact h
    · split
      · exact H.takeCoilEvent (H.popCoil h) (.released _ .none)
      · exact h
  all_goals exact H.grouped (action_touches _ s) (by simp [footprint]) h

/-- Every step keeps an invariant of the grouping. -/
theorem step (H : GroupInv I J) {u : State} (queue : ∀ (v : State) (p : List Instr), I v → I { v with pending := p }) (h : I s)
    (e : step s = .next u) : I u :=
  step_keeps queue (fun _ g => H.finishDue (fun i => H.grouped (expireStep_touches _) (by decide) i) g) (fun i _ g => H.action i g) h e

end GroupInv

end Sys2Proof.Machine
end

section
/-! The member lists and the owner fields agree (R21), continued: returns, changes of the structural-valid flag, reports, and every command. -/

namespace Sys2Proof.Machine

-- The default arguments `by decide` wait for the kernel: one declaration after the other holds few threads.
set_option Elab.async false

/-! ### Returns (R48) -/

/-- R48: the settling pan alone has left the table, its members free. -/
def dissolved (s : State) (p : PanSlot) : State :=
  (s.pans[p].pres.members.foldl unownClaim s).modPres p fun r => .freed r.gen

/-- R48: the LIFTED record has the members of the settling pan. -/
def takenUp (s : State) (w p : PanSlot) : State :=
  let pan := s.pans[p].pres
  let t := (pan.members.foldl (fun s k => joinClaim s k w) s).modPres w fun r =>
    { r with
      presence := .placed
      members := pan.members
      settle := pan.settle
      changed := false
      x := pan.x
      y := pan.y
      area := pan.area
      material := pan.material
      signature := some ⟨pan.x, pan.y, pan.area, pan.material⟩
      liftedAt := none
      grace := none }
  (t.modPt fun l => { l with liftOrder := l.liftOrder.filter (· ≠ w) }).modPres p fun r => .freed r.gen

theorem returning_eq (s : State) (w p : PanSlot) :
    returning s w p =
      s.pans[p].pres.members.foldl enqueueAround
        (postMembership (postPan (noticeCentroid (takenUp s w p) .panReturned w) (.back w)) w) := rfl

theorem dissolved_agrees {s : State} {p : PanSlot} (h : MembersAgree s) (forming : s.pans[p].pres.presence = .forming) :
    MembersAgree (dissolved s p) := by
  have outside : p ∉ s.pt.liftOrder := by rw [h.lifted.2, forming]; exact Presence.noConfusion
  have order : (dissolved s p).pt.liftOrder = s.pt.liftOrder := congrArg PanLists.liftOrder (unowned_pans _ s).2
  have here : (dissolved s p).pans[p].pres = .freed (s.pans[p].pres.gen) := by
    rw [dissolved, modPres_here, (unowned_pans _ s).1]
  have coil (j : CoilId) : (dissolved s p).coils[j] =
      if j ∈ s.pans[p].pres.members ∧ s.coils[j].occupancy = .member then { s.coils[j] with occupancy := .sensed, owner := none }
      else s.coils[j] := unowned_get _ s j
  refine shrunk_agrees (p := p) h (fun q hq => ⟨?_, by rw [order]⟩) (order ▸ h.lifted.1) ?_ ?_ ?_ (fun j old _ => ?_) fun j kept => ?_
  · rw [dissolved, modPres_other hq, (unowned_pans _ s).1]
  · rw [order, here]
    exact iff_of_false outside Presence.noConfusion
  · rw [here]
    exact iff_of_true rfl (.inl rfl)
  · rw [here]
    exact List.nil_sublist _
  · rw [coil, if_pos ⟨old, h.member ((h.listed j p).mp old)⟩]
    exact ⟨Occupancy.noConfusion, rfl⟩
  · rw [here] at kept
    rw [coil, if_neg fun c => List.not_mem_nil (kept c.1)]

theorem takenUp_agrees {s : State} {w p : PanSlot} (h : MembersAgree s) (forming : s.pans[p].pres.presence = .forming)
    (lifted : w ∈ s.pt.liftOrder) : MembersAgree (takenUp s w p) := by
  have before := dissolved_agrees h forming
  have away : s.pans[w].pres.presence = .lifted := (h.lifted.2 w).mp lifted
  have ne : w ≠ p := by
    rintro rfl
    rw [away] at forming
    cases forming
  have order : (takenUp s w p).pt.liftOrder = s.pt.liftOrder.filter (· ≠ w) :=
    congrArg (fun l : PanLists => l.liftOrder.filter (· ≠ w)) (joins_pans s.pans[p].pres.members w s).2
  have orderBefore : (dissolved s p).pt.liftOrder = s.pt.liftOrder := congrArg PanLists.liftOrder (unowned_pans _ s).2
  have here : (takenUp s w p).pans[w].pres.presence = .placed ∧ (takenUp s w p).pans[w].pres.members = s.pans[p].pres.members := by
    unfold takenUp
    dsimp only
    rw [modPres_other ne, modPt_pans, modPres_here]
    exact ⟨rfl, rfl⟩
  have other (q : PanSlot) (hq : q ≠ w) : (takenUp s w p).pans[q] = (dissolved s p).pans[q] := by
    unfold takenUp dissolved
    dsimp only
    by_cases e : q = p
    · subst e
      rw [State.modPres_get, if_pos rfl, State.modPres_get, if_pos rfl, modPt_pans, modPres_other hq, (joins_pans _ w s).1,
        (unowned_pans _ s).1]
    · rw [modPres_other e, modPres_other e, modPt_pans, modPres_other hq, (joins_pans _ w s).1, (unowned_pans _ s).1]
  have awayBefore : (dissolved s p).pans[w] = s.pans[w] := by
    rw [dissolved, modPres_other ne, (unowned_pans _ s).1]
  have coil (j : CoilId) : (takenUp s w p).coils[j] =
      if j ∈ s.pans[p].pres.members ∧ (s.coils[j].occupancy = .sensed ∨ s.coils[j].occupancy = .member) then
        { s.coils[j] with occupancy := .member, owner := some w } else s.coils[j] := joins_get _ w s j
  have coilBefore (j : CoilId) : (dissolved s p).coils[j] =
      if j ∈ s.pans[p].pres.members ∧ s.coils[j].occupancy = .member then { s.coils[j] with occupancy := .sensed, owner := none }
      else s.coils[j] := unowned_get _ s j
  have isMember (j : CoilId) (hj : j ∈ s.pans[p].pres.members) : s.coils[j].occupancy = .member := h.member ((h.listed j p).mp hj)
  have some : s.pans[p].pres.members ≠ [] := fun e => by
    have := (h.empty p).mp e
    rw [forming] at this
    rcases this with e | e <;> cases e
  refine Regrouped.agrees (s := dissolved s p) (p := w) ⟨fun q hq => ⟨other q hq, ?_⟩, ?_, ?_, ?_, ?_, ?_, fun j hj => ?_,
    fun j old _ => ?_, fun j _ new => ?_⟩ before
  · rw [order, orderBefore]; simp [hq]
  · rw [order]; exact h.lifted.1.filter _
  · rw [order, here.1]
    exact iff_of_false (by simp) Presence.noConfusion
  · rw [here.2]; exact h.ascending p
  · rw [here.2]; exact h.few p
  · rw [here.1, here.2]
    exact iff_of_false some (by simp)
  · rw [here.2] at hj
    rw [coil, if_pos ⟨hj, .inr (isMember j hj)⟩, coilBefore, if_pos ⟨hj, isMember j hj⟩]
    exact ⟨rfl, rfl, .inl rfl⟩
  · rw [awayBefore, (h.empty w).mpr (.inr away)] at old
    exact absurd old List.not_mem_nil
  · rw [here.2] at new
    rw [coil, if_neg fun c => new c.1, coilBefore, if_neg fun c => new c.1]
    exact ⟨.rfl, rfl⟩

theorem returning_agrees {s : State} {w p : PanSlot} (h : MembersAgree s) (forming : s.pans[p].pres.presence = .forming)
    (lifted : w ∈ s.pt.liftOrder) : MembersAgree (returning s w p) := by
  rw [returning_eq]
  have told := ((takenUp_agrees h forming lifted).apart (noticeCentroid_touches _ .panReturned w)).apart (postPan_touches _ (.back w))
  exact (told.apart (postMembership_touches _ w)).apart (Touches.foldl enqueueAround_touches _ _)

/-! ### Changes of the structural-valid flag (R1, R39) -/

theorem forceRelease_agrees {s : State} (h : MembersAgree s) (k : CoilId) : MembersAgree (forceRelease s k) := by
  unfold forceRelease
  split
  · rename_i owner
    exact dropMember_agrees h owner
  · exact h

theorem forceRelease_member {s : State} (h : MembersAgree s) {j k : CoilId} (m : (forceRelease s k).coils[j].occupancy = .member) :
    s.coils[j].occupancy = .member ∧ j ≠ k := by
  unfold forceRelease at m
  split at m
  · exact dropMember_member m
  · rename_i other
    refine ⟨m, fun e => ?_⟩
    subst e
    obtain ⟨p, owner⟩ := Option.isSome_iff_exists.mp ((h.owned j).mp m)
    exact other p m owner

/-- R39: once the coils of a list are released none of them is a member. -/
theorem forcedOut_agrees (ks : List CoilId) {s : State} (h : MembersAgree s) :
    MembersAgree (ks.foldl forceRelease s) ∧
      ∀ j, (ks.foldl forceRelease s).coils[j].occupancy = .member → s.coils[j].occupancy = .member ∧ j ∉ ks := by
  induction ks generalizing s with
  | nil => exact ⟨h, fun j m => ⟨m, List.not_mem_nil⟩⟩
  | cons k ks ih =>
    obtain ⟨agrees, members⟩ := ih (forceRelease_agrees h k)
    refine ⟨agrees, fun j m => ?_⟩
    obtain ⟨member, out⟩ := members j m
    obtain ⟨was, ne⟩ := forceRelease_member h member
    exact ⟨was, List.not_mem_cons_of_ne_of_not_mem ne out⟩

/-- A coil that is no member gets new values that make it none. -/
theorem recoil_agrees {s : State} (h : MembersAgree s) {k : CoilId} (free : s.coils[k].occupancy ≠ .member) {f : CoilRecord → CoilRecord}
    (stays : (f s.coils[k]).occupancy ≠ .member) (owner : (f s.coils[k]).owner = s.coils[k].owner) : MembersAgree (s.modCoil k f) := by
  refine h.recoiled (fun j => ?_) rfl rfl
  rw [State.modCoil_get]
  split
  · subst j; exact ⟨iff_of_false stays free, owner⟩
  · exact ⟨.rfl, rfl⟩

theorem removeCoil_coil (s : State) (k j : CoilId) : (removeCoil s k).coils[j] = if j = k then .reset else s.coils[j] :=
  State.modCoil_get s k j fun _ => .reset

theorem removed_agrees {s : State} (h : MembersAgree s) {k : CoilId} (free : s.coils[k].occupancy ≠ .member) :
    MembersAgree (leaveQueue (leaveOrphans (removeCoil s k) k) k) := by
  have core : MembersAgree (s.modCoil k fun _ => .reset) := recoil_agrees h free Occupancy.noConfusion (h.unowned free).symm
  have gone : MembersAgree (removeCoil s k) := core.recoiled (fun _ => ⟨.rfl, rfl⟩) rfl rfl
  exact (gone.apart (leaveOrphans_touches _ k)).apart (leaveQueue_touches _ k)

theorem removedFrom_agrees {s : State} (h : MembersAgree s) (valid : Bool) : MembersAgree (removedFrom s valid) := by
  obtain ⟨agrees, members⟩ := forcedOut_agrees (allCoils.filter (losesPresence s valid)) h
  have free : ∀ j ∈ allCoils.filter (losesPresence s valid), (forcedOut s valid).coils[j].occupancy ≠ .member :=
    fun j hj m => (members j m).2 hj
  have start : MembersAgree (forcedOut s valid) ∧
      ∀ j ∈ allCoils.filter (losesPresence s valid), (forcedOut s valid).coils[j].occupancy ≠ .member := ⟨agrees, free⟩
  refine (List.foldlRecOn (allCoils.filter (losesPresence s valid)) (fun s k => leaveQueue (leaveOrphans (removeCoil s k) k) k)
    (motive := fun v => MembersAgree v ∧ ∀ j ∈ allCoils.filter (losesPresence s valid), v.coils[j].occupancy ≠ .member) start
    fun v g k hk => ⟨removed_agrees g.1 (g.2 k hk), fun j hj => ?_⟩).1
  change (removeCoil v k).coils[j].occupancy ≠ .member
  rw [removeCoil_coil]
  split
  · exact Occupancy.noConfusion
  · exact g.2 j hj

theorem addCoil_agrees {s : State} (h : MembersAgree s) (k : CoilId) : MembersAgree (addCoil s k) := by
  unfold addCoil
  split
  · rename_i absent
    have free : s.coils[k].occupancy ≠ .member := by rw [absent.1]; exact Occupancy.noConfusion
    exact recoil_agrees h free Occupancy.noConfusion (h.unowned free).symm
  · exact h

theorem structured_agrees {s : State} (h : MembersAgree s) (valid : Bool) : MembersAgree (structured s valid) := by
  have removed := removedFrom_agrees h valid
  have added : MembersAgree (addedTo s valid) := by
    unfold addedTo
    split
    · exact List.foldlRecOn allCoils addCoil removed fun _ g k _ => addCoil_agrees g k
    · exact removed
  exact added.apart (setOrphans_touches _ _)

/-! ### Reports (R5, R9 to R11) -/

/-- R9 to R11: a member neither becomes SENSED nor is released without the Pan Tracker. -/
theorem classify_member {s : State} {k : CoilId} (m : s.coils[k].occupancy = .member) (coverage : Nat) :
    classify s k coverage ≠ .sensed ∧ classify s k coverage ≠ .released := by
  unfold classify
  rw [m]
  dsimp only
  split <;> exact ⟨Verdict.noConfusion, Verdict.noConfusion⟩

theorem takeMeasurement_agrees {s : State} (h : MembersAgree s) (k : CoilId) (r : Report) : MembersAgree (takeMeasurement s k r) := by
  unfold takeMeasurement
  refine MembersAgree.apart ?_ (postMeasured_touches _ _ _ _ _)
  refine h.recoiled (fun j => ?_) rfl rfl
  rw [State.modCoil_get]
  split
  · subst j
    refine ⟨?_, rfl⟩
    unfold measured
    dsimp only
    split
    · rename_i sensed
      exact iff_of_false Occupancy.noConfusion fun m => (classify_member m _).1 sensed
    · rename_i released
      exact iff_of_false Occupancy.noConfusion fun m => (classify_member m _).2 released
    all_goals exact .rfl
  · exact ⟨.rfl, rfl⟩

theorem takeSense_agrees {s : State} (b : BoardId) (cell : SenseCell) (h : MembersAgree s) : MembersAgree (takeSense s b cell) := by
  have recorded : MembersAgree (recordSense s b cell) := h.apart (modBoard_touches s b _)
  have reported : MembersAgree (takeReport (recordSense s b cell) (Report.ofCell b cell)) := by
    unfold takeReport
    split
    · exact recorded
    · exact takeMeasurement_agrees recorded _ _
  unfold takeSense
  split
  · exact (reported.apart (protectReport_touches _ _ _)).apart (takeHeatsink_touches _ _ _)
  · exact h

/-! ### Every command -/

theorem vacate_agrees {s : State} {k : CoilId} (h : MembersAgree s) (sensed : s.coils[k].occupancy = .sensed) : MembersAgree (vacate s k) := by
  have free : s.coils[k].occupancy ≠ .member := by rw [sensed]; exact Occupancy.noConfusion
  exact recoil_agrees h free Occupancy.noConfusion (h.unowned free).symm

theorem membersAgree_reset {u : State} (coils : u.coils = Vector.replicate 64 .reset) (pans : u.pans = Vector.replicate 8 .reset)
    (lists : u.pt = State.reset.pt) : MembersAgree u := by
  have coil (k : CoilId) : u.coils[k] = .reset := by rw [coils]; simp
  have pan (p : PanSlot) : u.pans[p] = .reset := by rw [pans]; simp
  refine ⟨fun k => ?_, fun k p => ?_, fun p => ?_, fun p => ?_, fun p => ?_, ?_, fun p => ?_⟩
  · rw [coil]; exact iff_of_false Occupancy.noConfusion Bool.noConfusion
  · rw [coil, pan]; exact iff_of_false List.not_mem_nil (Option.noConfusion rfl ∘ heq_of_eq)
  · rw [pan]; exact List.Pairwise.nil
  · rw [pan]; exact Nat.zero_le 12
  · rw [pan]; exact iff_of_true rfl (.inl rfl)
  · rw [lists]; exact List.nodup_nil
  · rw [lists, pan]; exact iff_of_false List.not_mem_nil Presence.noConfusion

theorem membersAgree_tracked : GroupInv MembersAgree MembersAgree where
  waits := id
  empties := emptyQueue_agrees
  apart t sub h := h.apart t (fun e => absurd (sub e) (by decide)) (fun e => absurd (sub e) (by decide)) fun e => absurd (sub e) (by decide)
  serves k h := examine_agrees (h.apart (leaveOrphans_touches _ k)) k
  drops h _ o := dropMember_agrees h o
  vacates := vacate_agrees
  withdraws k h := (h.apart (withdraw_touches_queue _ k)).apart (enqueueAround_touches _ k)
  senses k h := (h.apart (enqueue_touches _ _)).apart (enqueueAround_touches _ k)
  places := place_agrees
  returns := returning_agrees
  retires r h lifted := retire_agrees h lifted r
  structures valid h := structured_agrees h valid
  grouped t out h := h.apart t (out _ (by decide)) (out _ (by decide)) (out _ (by decide))
  resets := membersAgree_reset
  senses' := takeSense_agrees

/-- Settles O60: every operation of the Pan Tracker regroups one pan at a time. -/
theorem membersAgreeInEveryStep : Obligations.MembersAgreeInEveryStep :=
  fun _ _ h e => membersAgree_tracked.step (fun _ _ g => g.recoiled (fun _ => ⟨.rfl, rfl⟩) rfl rfl) h e

end Sys2Proof.Machine
end

section
/-! The examination queue is emptied (R26): each coil gains an owner at most once and then brings in at most 64 coils, so that 4225
examinations are enough (log 25). -/

namespace Sys2Proof.Machine

-- The default arguments `by decide` wait for the kernel: one declaration after the other holds few threads.
set_option Elab.async false

/-- While examinations are made no coil is queued twice. -/
abbrev QueuedOnce (s : State) : Prop := s.pt.examQueue.Nodup

theorem QueuedOnce.apart {l : List Part} {s u : State} (h : QueuedOnce s) (t : Touches l s u) (a : Part.examQueue ∉ l := by decide) :
    QueuedOnce u := by
  have queue : u.pt.examQueue = s.pt.examQueue := t.kept .examQueue a
  rwa [QueuedOnce, queue]

theorem enqueue_once {s : State} (h : QueuedOnce s) (ks : List CoilId) : QueuedOnce (enqueue s ks) := by
  refine List.foldlRecOn (motive := List.Nodup) ks (fun q k => if q.contains k then q else q ++ [k]) h fun q hq k _ => ?_
  split
  · exact hq
  · rename_i out
    exact hq.append (List.nodup_singleton k) (by simpa using out)

theorem enqueueAround_once {s : State} (h : QueuedOnce s) (k : CoilId) : QueuedOnce (enqueueAround s k) := enqueue_once h _

theorem enqueueAll_once {s : State} (h : QueuedOnce s) (ks : List CoilId) : QueuedOnce (ks.foldl enqueueAround s) :=
  List.foldlRecOn ks enqueueAround h fun _ g k _ => enqueueAround_once g k

/-! ### One examination -/

/-- What an examination leaves: the queue and the waiting coils as they were, or one coil less waiting. -/
def Examined (s : State) (k : CoilId) (u : State) : Prop :=
  (u.pt.examQueue = s.pt.examQueue ∧ ∀ j, waiting u j = waiting s j) ∨
    (QueuedOnce u ∧ waiting s k = true ∧ ∀ j, waiting u j = true → waiting s j = true ∧ j ≠ k)

theorem Examined.of_touches {l : List Part} {s u : State} (t : Touches l s u) (k : CoilId) (a : Part.examQueue ∉ l := by decide)
    (b : Part.owners ∉ l := by decide) : Examined s k u := .inl ⟨t.kept .examQueue a, fun j => waiting_kept t j b⟩

/-- A coil that has joined a pan does not wait, and no other coil begins to. -/
theorem joinClaim_waiting {s : State} {k : CoilId} (waits : waiting s k = true) (p : PanSlot) {j : CoilId}
    (h : waiting (joinClaim s k p) j = true) : waiting s j = true ∧ j ≠ k := by
  obtain ⟨sensed, -⟩ := (waiting_iff s k).mp waits
  rw [waiting_iff, joinClaim_get (.inl sensed)] at h
  split at h
  · exact absurd h.1 Occupancy.noConfusion
  · rename_i ne; exact ⟨(waiting_iff s j).mpr h, ne⟩

/-- A coil that has joined a pan brings in its neighbours. -/
theorem Examined.joined {l m : List Part} {s r u : State} {k : CoilId} {p : PanSlot} (once : QueuedOnce s) (waits : waiting s k = true)
    (ready : Touches l s r) (told : Touches m (joinClaim r k p) u) (a : Part.examQueue ∉ l := by decide) (b : Part.owners ∉ l := by decide)
    (c : Part.examQueue ∉ m := by decide) (d : Part.owners ∉ m := by decide) : Examined s k (enqueueAround u k) := by
  have waits' : waiting r k = true := (waiting_kept ready k b).trans waits
  refine .inr ⟨enqueueAround_once (((once.apart ready a).apart (joinClaim_touches r k p)).apart told c) k, waits, fun j h => ?_⟩
  rw [waiting_kept (enqueueAround_touches u k) j, waiting_kept told j d] at h
  rw [← waiting_kept ready j b]
  exact joinClaim_waiting waits' p h

theorem examined_foundAt {l : List Part} {s r : State} {k : CoilId} (once : QueuedOnce s) (waits : waiting s k = true) (p : PanSlot)
    (t : Touches l s r) (a : Part.examQueue ∉ l := by decide) (b : Part.owners ∉ l := by decide) : Examined s k (foundAt r k p) := by
  have ready := (readySlot_touches r p).after t (k := l ++ (.allocs :: .budget :: .programs :: heatParts)) (List.Subset.refl _)
  have joined := (refigure_touches _ p).after (modPres_touches (joinClaim (readySlot r p) k p) p fun r =>
    { PresencePart.freed (r.gen + 1) with presence := .forming, members := [k], changed := true }) (k := [.members, .figures, .posts])
  exact .joined once waits ready joined (by simpa using a) (by simpa using b)

theorem examined_found {s : State} {k : CoilId} (once : QueuedOnce s) (waits : waiting s k = true) : Examined s k (found s k) := by
  unfold found
  split
  · exact examined_foundAt once waits _ (.refl [] s)
  · split
    · exact examined_foundAt once waits _ (retire_touches s _ .evicted)
    · exact .of_touches (addOrphan_touches s k) k

theorem examined_joinPan {s : State} {k : CoilId} (once : QueuedOnce s) (waits : waiting s k = true) (p : PanSlot) :
    Examined s k (joinPan (leaveOrphans s k) k p) := by
  have figured := (refigure_touches _ p).after (modPres_touches (joinClaim (leaveOrphans s k) k p) p fun r =>
    { r with
      members := insertCoil k r.members
      settle := 0
      changed := true
      presence := if r.presence = .placed then .moving else r.presence }) (k := [.members, .figures, .posts])
  have posted := Touches.ite (c := (leaveOrphans s k).pans[p].pres.presence.standing = true)
    ((postMembership_touches _ p).after figured (k := [.members, .figures, .posts])) figured
  exact .joined once waits (leaveOrphans_touches s k) posted

/-- R27: an examination. -/
theorem examined {s : State} (once : QueuedOnce s) (k : CoilId) : Examined s k (examine s k) := by
  have left := Examined.of_touches (leaveOrphans_touches s k) k
  unfold examine
  split
  · exact .inl ⟨rfl, fun _ => rfl⟩
  · rename_i waits
    rw [Bool.not_eq_false] at waits
    split
    · split
      · exact .inl ⟨rfl, fun _ => rfl⟩
      · exact examined_found once waits
    · split
      · split
        · exact examined_joinPan once waits _
        · exact left
      · exact left

theorem examine_once {s : State} (once : QueuedOnce s) (k : CoilId) : QueuedOnce (examine s k) := by
  rcases examined once k with ⟨queue, -⟩ | ⟨h, -⟩
  · rwa [QueuedOnce, queue]
  · exact h

/-! ### The queue is emptied -/

/-- The coils that wait for a pan. -/
def waitingCoils (s : State) : List CoilId := allCoils.filter (waiting s)

/-- How many examinations the queue can still lead to: each waiting coil may bring in 64 coils once. -/
def examinationsLeft (s : State) : Nat := 65 * (waitingCoils s).length + s.pt.examQueue.length

theorem once_length {ks : List CoilId} (h : ks.Nodup) : ks.length ≤ 64 := by
  simpa using h.length_le_card

/-- With one coil less waiting there are fewer. -/
theorem waitingCoils_lt {s u : State} {k : CoilId} (waits : waiting s k = true)
    (fewer : ∀ j, waiting u j = true → waiting s j = true ∧ j ≠ k) : (waitingCoils u).length < (waitingCoils s).length := by
  have sub : waitingCoils u ⊆ (waitingCoils s).erase k := fun j hj => by
    obtain ⟨mem, w⟩ := List.mem_filter.mp hj
    obtain ⟨w', ne⟩ := fewer j w
    exact (List.mem_erase_of_ne ne).mpr (List.mem_filter.mpr ⟨mem, w'⟩)
  have nodup : (waitingCoils u).Nodup := (List.nodup_finRange 64).filter _
  have mem : k ∈ waitingCoils s := List.mem_filter.mpr ⟨List.mem_finRange k, waits⟩
  have le := (List.subperm_of_subset nodup sub).length_le
  rw [List.length_erase_of_mem mem] at le
  have pos := List.length_pos_of_mem mem
  omega

theorem popped_once {s : State} {k : CoilId} {rest : List CoilId} (once : QueuedOnce s) (queue : s.pt.examQueue = k :: rest) :
    QueuedOnce (s.modPt fun l => { l with examQueue := rest }) := by
  rw [QueuedOnce, queue] at once
  exact (List.nodup_cons.mp once).2

/-- Each examination leaves fewer. -/
theorem examine_left {s : State} {k : CoilId} {rest : List CoilId} (once : QueuedOnce s) (queue : s.pt.examQueue = k :: rest) :
    examinationsLeft (examine (s.modPt fun l => { l with examQueue := rest }) k) < examinationsLeft s := by
  have popped := setQueue_touches s rest
  have same (j : CoilId) : waiting (s.modPt fun l => { l with examQueue := rest }) j = waiting s j := waiting_kept popped j
  rcases examined (popped_once once queue) k with ⟨queue', waits'⟩ | ⟨nodup, waits, fewer⟩
  · have coils : waitingCoils (examine (s.modPt fun l => { l with examQueue := rest }) k) = waitingCoils s :=
      List.filter_congr fun j _ => (waits' j).trans (same j)
    rw [examinationsLeft, coils, queue', examinationsLeft, queue]
    exact Nat.lt_succ_self _
  · rw [same] at waits
    have lt := waitingCoils_lt (u := examine (s.modPt fun l => { l with examQueue := rest }) k) waits
      fun j h => by rw [← same j]; exact fewer j h
    have few := once_length nodup
    unfold examinationsLeft
    omega

theorem drain_empties (n : Nat) {s : State} (once : QueuedOnce s) (enough : examinationsLeft s ≤ n) : (drain n s).pt.examQueue = [] := by
  induction n generalizing s with
  | zero =>
    unfold examinationsLeft at enough
    exact List.eq_nil_of_length_eq_zero (by change s.pt.examQueue.length = 0; omega)
  | succ n ih =>
    unfold drain
    split
    · rename_i none; exact none
    · rename_i k rest queue
      have less := examine_left once queue
      exact ih (examine_once (popped_once once queue) k) (by omega)

/-- R26, log 25: 4225 examinations empty the queue. -/
theorem emptyQueue_empties {s : State} (once : QueuedOnce s) : NothingToExamine (emptyQueue s) := by
  have coils : (waitingCoils s).length ≤ 64 := once_length ((List.nodup_finRange 64).filter _)
  have queue := once_length once
  refine drain_empties 4225 once ?_
  unfold examinationsLeft
  omega

/-! ### The operations that leave coils to be examined -/

theorem splitCheck_once {s : State} (h : QueuedOnce s) (p : PanSlot) (k : CoilId) : QueuedOnce (splitCheck s p k) := by
  rw [splitCheck_eq]
  have told := h.apart (splitTold_touches s p)
  exact enqueueAll_once (enqueue_once (enqueueAround_once (enqueue_once told _) k) _) _

theorem dropMember_once {s : State} (h : QueuedOnce s) (k : CoilId) (p : PanSlot) : QueuedOnce (dropMember s k p) := by
  have released : QueuedOnce (released s k p) := (h.apart (vacate_touches s k)).apart (modPres_touches _ p _)
  rw [dropMember_eq]
  split
  · exact enqueueAround_once (released.apart (endPresence_touches _ p)) k
  · exact splitCheck_once released p k

theorem withdraw_once {s : State} (h : QueuedOnce s) (k : CoilId) : QueuedOnce (withdraw s k) := by
  unfold withdraw
  split
  · exact h.filter _
  · exact h

theorem returning_once {s : State} (h : QueuedOnce s) (w p : PanSlot) : QueuedOnce (returning s w p) := by
  rw [returning_eq]
  have joined := h.apart (Touches.foldl (fun v k => joinClaim_touches v k w) s.pans[p].pres.members s)
  have taken : QueuedOnce (takenUp s w p) := joined
  have told := (taken.apart (noticeCentroid_touches _ .panReturned w)).apart (postPan_touches _ (.back w))
  exact enqueueAll_once (told.apart (postMembership_touches _ w)) _

theorem structured_once {s : State} (h : QueuedOnce s) (valid : Bool) : QueuedOnce (structured s valid) := by
  have forced : QueuedOnce (forcedOut s valid) := List.foldlRecOn _ forceRelease h fun v g k _ => by
    unfold forceRelease
    split
    · exact dropMember_once g k _
    · exact g
  have removed : QueuedOnce (removedFrom s valid) := List.foldlRecOn _ _ forced fun v g k _ =>
    ((g.apart (removeCoil_touches v k)).apart (leaveOrphans_touches _ k)).filter _
  have added : QueuedOnce (addedTo s valid) := by
    unfold addedTo
    split
    · exact removed.apart (Touches.foldl addCoil_touches allCoils _)
    · exact removed
  exact added.apart (setOrphans_touches _ _)

theorem NothingToExamine.once {s : State} (h : NothingToExamine s) : QueuedOnce s := by
  rw [QueuedOnce, h]
  exact List.nodup_nil

theorem NothingToExamine.apart {l : List Part} {s u : State} (h : NothingToExamine s) (t : Touches l s u)
    (a : Part.examQueue ∉ l := by decide) : NothingToExamine u := by
  have queue : u.pt.examQueue = s.pt.examQueue := t.kept .examQueue a
  rw [NothingToExamine, queue, h]

theorem nothingToExamine_tracked : GroupInv NothingToExamine QueuedOnce where
  waits h := NothingToExamine.once h
  empties := emptyQueue_empties
  apart t sub h := NothingToExamine.apart h t fun e => absurd (sub e) (by decide)
  serves k h := examine_once (NothingToExamine.once (NothingToExamine.apart h (leaveOrphans_touches _ k))) k
  drops h _ _ := dropMember_once h _ _
  vacates h _ := NothingToExamine.apart h (vacate_touches _ _)
  withdraws k h := enqueueAround_once (withdraw_once (NothingToExamine.once h) k) k
  senses k h := enqueueAround_once (enqueue_once (NothingToExamine.once h) [k]) k
  places h _ := NothingToExamine.apart h (place_touches _ _)
  returns h _ _ := returning_once (NothingToExamine.once h) _ _
  retires r h _ := NothingToExamine.apart h (retire_touches _ _ r)
  structures valid h := structured_once (NothingToExamine.once h) valid
  grouped t out h := NothingToExamine.apart h t (out _ (by decide))
  resets _ _ lists := congrArg PanLists.examQueue lists
  senses' b cell h := NothingToExamine.apart h (takeSense_touches _ b cell)

/-- Settles O59: every operation that queues coils is followed by enough examinations. -/
theorem examinationEndsInEveryStep : Obligations.ExaminationEndsInEveryStep :=
  fun _ _ h e => nothingToExamine_tracked.step (fun _ _ g => g) h e

end Sys2Proof.Machine
end

section
/-! What only a RUNNING hob has (R107, R111, R116, R117, R162), and what a hob that has left RUNNING leaves of the banks (R90, R103, R104). -/

namespace Sys2Proof.Machine

-- The default arguments `by decide` wait for the kernel: one declaration after the other holds few threads.
set_option Elab.async false

/-! ### The three claims of the invariant -/

/-- What a hob that is not RUNNING has none of. -/
def Quiet (s : State) : Prop :=
  s.cp.silence = none ∧ s.fe.unlockTimer = none ∧ s.fe.swapPending = false ∧ (∀ p : PanSlot, s.fe.emitted[p] = 0) ∧
    ∀ p : PanSlot, s.pans[p].delivered = 0

/-- An IDLE Slot Scheduler with empty banks. -/
def BanksEmpty (s : State) : Prop :=
  s.ss.stage = .idle ∧ (∀ slot ∈ s.ss.bankA, slot = []) ∧ ∀ slot ∈ s.ss.bankB, slot = []

theorem runningOnly_iff (s : State) :
    RunningOnly s ↔ (s.fe.hob ≠ .running → Quiet s) ∧ (DiscardWaits s → s.fe.swapPending = false ∧ (s.fe.hob = .running → s.fe.awaiting = true)) ∧
      (s.fe.hob ≠ .running → ¬ DiscardWaits s → BanksEmpty s) := Iff.rfl

/-- A hob that is RUNNING: what is held is no swap while a discard waits. -/
theorem runningOnly_of_running {s : State} (r : s.fe.hob = .running)
    (held : DiscardWaits s → s.fe.swapPending = false ∧ s.fe.awaiting = true) : RunningOnly s :=
  ⟨fun n => absurd r n, fun d => ⟨(held d).1, fun _ => (held d).2⟩, fun n => absurd r n⟩

/-- A hob that is not RUNNING is quiet, and its banks are empty unless the discard waits. -/
theorem runningOnly_of_stopped {s : State} (n : s.fe.hob ≠ .running) (quiet : Quiet s) (banks : ¬ DiscardWaits s → BanksEmpty s) :
    RunningOnly s :=
  ⟨fun _ => quiet, fun _ => ⟨quiet.2.2.1, fun r => absurd r n⟩, fun _ => banks⟩

/-- An operation that keeps the hob state and the discards. -/
theorem RunningOnly.through {s u : State} (h : RunningOnly s) (hob : u.fe.hob = s.fe.hob)
    (waits : DiscardWaits u ↔ DiscardWaits s) (quiet : s.fe.hob ≠ .running → Quiet s → Quiet u)
    (held : DiscardWaits s → s.fe.swapPending = false → u.fe.swapPending = false ∧ u.fe.awaiting = s.fe.awaiting)
    (banks : s.fe.hob ≠ .running → ¬ DiscardWaits s → BanksEmpty s → BanksEmpty u) : RunningOnly u := by
  by_cases r : s.fe.hob = .running
  · refine runningOnly_of_running (hob.trans r) fun d => ?_
    obtain ⟨swap, awaits⟩ := h.2.1 (waits.mp d)
    obtain ⟨swap', awaits'⟩ := held (waits.mp d) swap
    exact ⟨swap', awaits'.trans (awaits r)⟩
  · exact runningOnly_of_stopped (hob ▸ r) (quiet r (h.1 r)) fun d => banks r (fun e => d (waits.mpr e)) (h.2.2 r fun e => d (waits.mpr e))

/-! ### Parts -/

theorem hob_kept {l : List Part} {s u : State} (t : Touches l s u) (a : Part.hob ∉ l := by decide) : u.fe.hob = s.fe.hob := t.kept .hob a

theorem discardWaits_kept {l : List Part} {s u : State} (t : Touches l s u) (a : Part.scheduler ∉ l := by decide) :
    DiscardWaits u ↔ DiscardWaits s := by
  have posts : u.posts.scheduler = s.posts.scheduler := t.kept .scheduler a
  rw [DiscardWaits, posts]

/-- The parts that make a hob quiet. -/
abbrev quietHobParts : List Part := [.silence, .unlockTimer, .swapPending, .emitted, .delivered]

theorem Quiet.apart {l : List Part} {s u : State} (h : Quiet s) (t : Touches l s u) (out : ∀ q ∈ quietHobParts, q ∉ l := by decide) :
    Quiet u := by
  obtain ⟨silence, unlock, swap, emitted, delivered⟩ := h
  have emitted' : u.fe.emitted = s.fe.emitted := t.kept .emitted (out _ (by decide))
  have delivered' (p : PanSlot) : u.pans[p].delivered = s.pans[p].delivered := congrFun (t.kept .delivered (out _ (by decide))) p
  exact ⟨t.kept .silence (out _ (by decide)) silence, Eq.trans (t.kept .unlockTimer (out _ (by decide))) unlock,
    Eq.trans (t.kept .swapPending (out _ (by decide))) swap, fun p => by rw [emitted', emitted p], fun p => by rw [delivered', delivered p]⟩

theorem BanksEmpty.apart {l : List Part} {s u : State} (h : BanksEmpty s) (t : Touches l s u)
    (out : ∀ q ∈ [Part.stage, .bankA, .bankB], q ∉ l := by decide) : BanksEmpty u := by
  have stage : u.ss.stage = s.ss.stage := t.kept .stage (out _ (by decide))
  have bankA : u.ss.bankA = s.ss.bankA := t.kept .bankA (out _ (by decide))
  have bankB : u.ss.bankB = s.ss.bankB := t.kept .bankB (out _ (by decide))
  rwa [BanksEmpty, stage, bankA, bankB]

/-- Every part the invariant speaks of. -/
abbrev runningParts : List Part :=
  [.hob, .unlockTimer, .swapPending, .awaiting, .emitted, .delivered, .silence, .scheduler, .stage, .bankA, .bankB]

theorem RunningOnly.apart {l : List Part} {s u : State} (h : RunningOnly s) (t : Touches l s u)
    (out : ∀ q ∈ runningParts, q ∉ l := by decide) : RunningOnly u := by
  refine h.through (hob_kept t (out _ (by decide))) (discardWaits_kept t (out _ (by decide))) (fun _ g => ?_) (fun _ swap => ?_) fun _ _ g => ?_
  · exact g.apart t fun q hq => out q ((by decide : quietHobParts ⊆ runningParts) hq)
  · exact ⟨Eq.trans (t.kept .swapPending (out _ (by decide))) swap, t.kept .awaiting (out _ (by decide))⟩
  · exact g.apart t fun q hq => out q ((by decide : [Part.stage, .bankA, .bankB] ⊆ runningParts) hq)

/-! ### Energies -/

/-- No energy is emitted or delivered. -/
def NoEnergy (s : State) : Prop := (∀ p : PanSlot, s.fe.emitted[p] = 0) ∧ ∀ p : PanSlot, s.pans[p].delivered = 0

/-- An operation that touches the energies and the unlock timer leaves none of them to a hob that is not RUNNING. -/
theorem RunningOnly.energies {l : List Part} {s u : State} (h : RunningOnly s) (t : Touches l s u)
    (energy : s.fe.hob ≠ .running → NoEnergy s → NoEnergy u) (unlock : s.fe.hob ≠ .running → s.fe.unlockTimer = none → u.fe.unlockTimer = none)
    (out : ∀ q ∈ [Part.hob, .swapPending, .awaiting, .silence, .scheduler, .stage, .bankA, .bankB], q ∉ l := by decide) : RunningOnly u := by
  refine h.through (hob_kept t (out _ (by decide))) (discardWaits_kept t (out _ (by decide))) (fun r g => ?_) (fun _ swap => ?_) fun _ _ g => ?_
  · obtain ⟨silence, timer, swap, noEnergy⟩ := g
    exact ⟨t.kept .silence (out _ (by decide)) silence, unlock r timer, Eq.trans (t.kept .swapPending (out _ (by decide))) swap, energy r noEnergy⟩
  · exact ⟨Eq.trans (t.kept .swapPending (out _ (by decide))) swap, t.kept .awaiting (out _ (by decide))⟩
  · exact g.apart t fun q hq =>
      out q ((by decide : [Part.stage, .bankA, .bankB] ⊆ [Part.hob, .swapPending, .awaiting, .silence, .scheduler, .stage, .bankA, .bankB]) hq)

theorem NoEnergy.apart {l : List Part} {s u : State} (h : NoEnergy s) (t : Touches l s u) (a : Part.emitted ∉ l := by decide)
    (b : Part.delivered ∉ l := by decide) : NoEnergy u := by
  have emitted : u.fe.emitted = s.fe.emitted := t.kept .emitted a
  have delivered (p : PanSlot) : u.pans[p].delivered = s.pans[p].delivered := congrFun (t.kept .delivered b) p
  exact ⟨fun p => by rw [emitted, h.1 p], fun p => by rw [delivered, h.2 p]⟩

theorem clearEnergies_none (s : State) : NoEnergy (clearEnergies s) := by
  refine ⟨fun p => ?_, fun p => ?_⟩
  · change (Vector.replicate 8 0)[p] = 0
    simp
  · rw [clearEnergies, State.modPans_get]

theorem cutFrame_none (s : State) : NoEnergy (cutFrame s) := (clearEnergies_none s).apart (modFe_touches_frames _ _)

theorem cutFrame_running {s : State} (h : RunningOnly s) : RunningOnly (cutFrame s) :=
  h.energies (cutFrame_touches s) (fun _ _ => cutFrame_none s) fun _ n => n

theorem latch_running {s : State} (h : RunningOnly s) : RunningOnly (latch s) :=
  (cutFrame_running h).apart (modFe_touches_frames _ _)

/-! ### The mains (R109 to R111) -/

theorem loseLock_running {s : State} (h : RunningOnly s) (cause : LossCause) : RunningOnly (loseLock s cause) := by
  have cut := ((cutFrame_running h).apart (offNowAll_touches _)).apart (queueNotice_touches _ .mainsLost 0 cause.code s.fe.serial.toNat)
  have posted := cut.apart (postLoss_touches _ cause)
  refine posted.energies (setUnlock_touches _ _) (fun _ e => e) fun n timer => ?_
  change (if _ = HobState.running then some s.now else _) = none
  rw [if_neg n]
  exact timer

theorem enterLocked_running {s : State} (h : RunningOnly s) : RunningOnly (enterLocked s) := by
  have locked := h.energies (setUnlock_touches s fun fe => { fe with lock := .locked, lockCount := 0, unlockTimer := none })
    (fun _ e => e) fun _ _ => rfl
  exact locked.apart (queueNotice_touches _ _ _ _ _)

theorem frameEnd_running {s : State} (h : RunningOnly s) : RunningOnly (frameEnd s) := by
  refine h.energies (frameEnd_touches s) (fun _ e => ⟨fun p => ?_, fun p => ?_⟩) fun _ n => n
  · change (Vector.replicate 8 0)[p] = 0
    simp
  · change (s.modPans fun p r => { r with delivered := s.fe.emitted[p] / s.fe.f }).pans[p].delivered = 0
    rw [State.modPans_get, e.1 p, Nat.zero_div]

/-- R113: a swap is made only where one is pending. -/
theorem swapBanks_running {s : State} (h : RunningOnly s) : RunningOnly (swapBanks s) := by
  unfold swapBanks
  split
  · rename_i pending
    have running : s.fe.hob = .running := by
      by_contra n
      have none := (h.1 n).2.2.1
      rw [pending] at none
      cases none
    refine runningOnly_of_running running fun d => ?_
    have held := (h.2.1 d).1
    rw [pending] at held
    cases held
  · exact h

theorem frameStart_running {s : State} (h : RunningOnly s) : RunningOnly (frameStart s) :=
  swapBanks_running (h.apart (modFe_touches_frames s _))

theorem beginSlot_running {s : State} (h : RunningOnly s) : RunningOnly (beginSlot s) := by
  unfold beginSlot
  split
  · exact frameStart_running h
  · split
    · exact h.apart (modFe_touches_frames s _)
    · exact frameStart_running (frameEnd_running h)

/-- R118: a hob that is not RUNNING emits nothing. -/
theorem emission_stopped {s : State} (n : s.fe.hob ≠ .running) : emission s = ⟨[], s.fe.emitted⟩ := if_neg fun c => n c.1

theorem emitSlot_running {s : State} (h : RunningOnly s) : RunningOnly (emitSlot s) := by
  refine RunningOnly.apart ?_ (Touches.foldl (fun v b => takeDrive_touches v b _) _ _)
  refine h.energies (setEmission_touches s _ _) (fun n e => ?_) fun _ timer => timer
  rw [emission_stopped n, ite_self]
  exact e

theorem slotStart_running {s : State} (h : RunningOnly s) : RunningOnly (slotStart s) := by
  unfold slotStart
  split
  · exact emitSlot_running (beginSlot_running h)
  · exact h

theorem judgeCrossing_running {s : State} (h : RunningOnly s) (good : Bool) : RunningOnly (judgeCrossing s good) := by
  unfold judgeCrossing
  split
  · exact h.apart (modFe_touches_frames s _)
  · split
    · split
      · exact h.apart (modFe_touches_frames s _)
      · exact slotStart_running (enterLocked_running h)
    · exact h.apart (modFe_touches_frames s _)
  · split
    · exact slotStart_running h
    · exact (loseLock_running h _).apart (modFe_touches_frames _ _)

theorem judgeSilence_running {s : State} (h : RunningOnly s) : RunningOnly (judgeSilence s) := by
  unfold judgeSilence
  split
  · exact h
  · split
    · split
      · exact h
      · exact h.apart (modFe_touches_frames s _)
      · exact (loseLock_running h _).apart (modFe_touches_frames _ _)
    · exact h

theorem judgeUnlock_running {s : State} (h : RunningOnly s) : RunningOnly (judgeUnlock s) := by
  unfold judgeUnlock
  split
  · exact h
  · split
    · exact (h.apart (postHaltCause_touches s .mains)).energies (setUnlock_touches _ fun fe => { fe with unlockTimer := none })
        (fun _ e => e) fun _ _ => rfl
    · exact h

/-! ### The hob states (R115 to R117) -/

/-- R116, R117: a hob that leaves RUNNING is quiet at once, and its discard waits. -/
theorem leaveRunning_quiet (s : State) {hob : HobState} (n : hob ≠ .running) (post : HobPost) : RunningOnly (leaveRunning s hob post) := by
  have energy : NoEnergy (clearEnergies (offNowAll (s.modFe fun fe => { fe with hob := hob, unlockTimer := none, swapPending := false }))) :=
    clearEnergies_none _
  have fe : (offNowAll (s.modFe fun fe => { fe with hob := hob, unlockTimer := none, swapPending := false })).fe =
      { s.fe with hob := hob, unlockTimer := none, swapPending := false } := by rw [offNowAll_eq]; rfl
  unfold leaveRunning
  dsimp only
  generalize offNowAll _ = t at energy fe
  have stopped : t.fe.hob = hob := congrArg FrameEngine.hob fe
  have waits : SchedulerPost.discard ∈ t.posts.scheduler ++ [.discard] := by simp
  refine runningOnly_of_stopped (stopped ▸ n) ⟨?_, congrArg FrameEngine.unlockTimer fe, congrArg FrameEngine.swapPending fe, energy.1, energy.2⟩
    fun d => absurd waits d
  exact if_neg (stopped ▸ n)

theorem judgeStop_running {s : State} (h : RunningOnly s) : RunningOnly (judgeStop s) := by
  unfold judgeStop
  split
  · exact (leaveRunning_quiet s HobState.noConfusion .stop).apart (endGood_touches _)
  · exact (h.apart (drawn_touches s _)).apart (endCheck_touches _ _ _ _)

theorem takeHalt_running {s : State} (h : RunningOnly s) (c : HaltCause) : RunningOnly (takeHalt s c) := by
  unfold takeHalt
  split
  · exact (leaveRunning_quiet s HobState.noConfusion .halt).apart (modPosts_touches _ _)
  · exact h

theorem finishHalt_running {s : State} (h : RunningOnly s) : RunningOnly (finishHalt s) := by
  have causes := h.apart (finishCauses_touches s)
  unfold finishHalt
  split
  · unfold takeFirstHalt
    split
    · exact takeHalt_running (causes.apart (modPosts_touches _ _)) _
    · exact takeHalt_running (causes.apart (modPosts_touches _ _)) _
  · exact causes

theorem meetHalt_running {s : State} (h : RunningOnly s) : RunningOnly (meetHalt s) := by
  unfold meetHalt
  split
  · exact finishHalt_running h
  · exact h

theorem takeHeadCell_running {s : State} (h : RunningOnly s) (action : HeatAction) : RunningOnly (takeHeadCell s action) := by
  unfold takeHeadCell
  split
  · exact (meetHalt_running h).apart (takeHeatCell_touches _ _)
  · exact h

/-- R117: a HALTED hob that becomes STOPPED stays quiet. -/
theorem takeClearHalt_running {s : State} (h : RunningOnly s) : RunningOnly (takeClearHalt s) := by
  unfold takeClearHalt
  split
  · rename_i halted
    have n : s.fe.hob ≠ .running := by rw [halted]; exact HobState.noConfusion
    exact runningOnly_of_stopped HobState.noConfusion (h.1 n) (h.2.2 n)
  · exact h

/-- R115: a hob that becomes RUNNING awaits its first swap. -/
theorem judgeStart_running {s : State} (h : RunningOnly s) : RunningOnly (judgeStart s) := by
  have refused (k : SenseKey) (f d : Nat) : RunningOnly (endCheck s k f d) := h.apart (endCheck_touches s k f d)
  unfold judgeStart
  split
  · exact refused _ _ _
  · rename_i stopped
    iterate 3
      split
      · exact refused _ _ _
    rw [Decidable.not_not] at stopped
    have ready := (latch_touches _).after (finishStop_touches s)
      (k := stopParts ++ [.emitted, .delivered, .mains, .frames])
    have noSwap : (latch (finishStop s)).fe.swapPending = false :=
      Eq.trans (ready.kept .swapPending) (h.1 (stopped ▸ HobState.noConfusion)).2.2.1
    generalize latch (finishStop s) = t at noSwap
    refine RunningOnly.apart ?_ (endGood_touches _)
    exact runningOnly_of_running rfl fun _ => ⟨noSwap, rfl⟩

/-! ### The Slot Scheduler (R90, R92 to R103) -/

/-- A stage that is not IDLE belongs to a RUNNING hob, or to one whose discard waits. -/
theorem RunningOnly.busy {s : State} (h : RunningOnly s) (stage : s.ss.stage ≠ .idle) : s.fe.hob = .running ∨ DiscardWaits s := by
  by_contra c
  obtain ⟨n, d⟩ := not_or.mp c
  exact stage (h.2.2 n d).1

/-- While the hob is RUNNING or its discard waits a build may write the banks. -/
theorem RunningOnly.built {l : List Part} {s u : State} (h : RunningOnly s) (busy : s.fe.hob = .running ∨ DiscardWaits s) (t : Touches l s u)
    (out : ∀ q ∈ [Part.hob, .unlockTimer, .swapPending, .awaiting, .emitted, .delivered, .silence, .scheduler], q ∉ l := by decide) :
    RunningOnly u := by
  refine h.through (hob_kept t (out _ (by decide))) (discardWaits_kept t (out _ (by decide))) (fun _ g => ?_) (fun _ swap => ?_)
    fun n d => absurd busy (not_or.mpr ⟨n, d⟩)
  · exact g.apart t fun q hq =>
      out q ((by decide : quietHobParts ⊆ [Part.hob, .unlockTimer, .swapPending, .awaiting, .emitted, .delivered, .silence, .scheduler]) hq)
  · exact ⟨Eq.trans (t.kept .swapPending (out _ (by decide))) swap, t.kept .awaiting (out _ (by decide))⟩

theorem takeRebuild_running {s : State} (h : RunningOnly s) : RunningOnly (takeRebuild s) := by
  by_cases r : s.fe.hob = .running
  · exact h.built (.inl r) (takeRebuild_touches s)
  · rw [takeRebuild, if_pos r]
    exact h

theorem snapshotComplete_running {s : State} (h : RunningOnly s) : RunningOnly (snapshotComplete s) := by
  by_cases stage : s.ss.stage = .gather
  · exact h.built (h.busy (stage ▸ Stage.noConfusion)) (snapshotComplete_touches s)
  · unfold snapshotComplete
    split
    · rename_i gather _; exact absurd gather stage
    · exact h

theorem placeComplete_running {s : State} (h : RunningOnly s) : RunningOnly (placeComplete s) := by
  by_cases stage : s.ss.stage = .place
  · exact h.built (h.busy (stage ▸ Stage.noConfusion)) (placeComplete_touches s)
  · unfold placeComplete
    split
    · rename_i place _; exact absurd place stage
    · exact h

theorem endOfCheck_running {s : State} (h : RunningOnly s) : RunningOnly (endOfCheck s) := by
  by_cases stage : s.ss.stage = .check
  · exact h.built (h.busy (stage ▸ Stage.noConfusion)) (endOfCheck_touches s)
  · rw [endOfCheck, if_pos stage]
    exact h

theorem takeSwapNotice_running {s : State} (h : RunningOnly s) : RunningOnly (takeSwapNotice s) := by
  by_cases stage : s.ss.stage = .ready
  · exact h.built (h.busy (stage ▸ Stage.noConfusion)) (takeSwapNotice_touches s)
  · rw [takeSwapNotice, if_pos stage]
    exact h

/-- R103, R114: an offer makes a swap pending where no discard waits. -/
theorem takeOffer_running {s : State} (h : RunningOnly s) : RunningOnly (takeOffer s) := by
  unfold takeOffer
  split
  · rename_i offered
    exact runningOnly_of_running offered.1 fun d => absurd d offered.2
  · exact h

theorem takeDiscard_banks (s : State) : BanksEmpty (takeDiscard s) :=
  ⟨rfl, fun _ h => List.eq_of_mem_replicate h, fun _ h => List.eq_of_mem_replicate h⟩

/-- R103: the discard that waits is taken. -/
theorem discard_running {s : State} (h : RunningOnly s) (waits : DiscardWaits s) (rest : List SchedulerPost) :
    RunningOnly (takeDiscard (s.modPosts fun q => { q with scheduler := rest })) := by
  have t := (takeDiscard_touches _).after (modPosts_touches_scheduler s fun q => { q with scheduler := rest })
    (k := .scheduler :: .schedules :: .posts :: buildParts)
  obtain ⟨swap, awaits⟩ := h.2.1 waits
  by_cases r : s.fe.hob = .running
  · exact runningOnly_of_running ((hob_kept t).trans r) fun _ =>
      ⟨Eq.trans (t.kept .swapPending) swap, Eq.trans (t.kept .awaiting) (awaits r)⟩
  · exact runningOnly_of_stopped (by rwa [hob_kept t]) (Quiet.apart (h.1 r) t) fun _ => takeDiscard_banks _

theorem finishDiscard_running {s : State} (h : RunningOnly s) : RunningOnly (finishDiscard s) := by
  unfold finishDiscard
  split
  · rename_i waits; exact discard_running h waits _
  · exact h

/-! ### The supply -/

theorem riseOp_running {s : State} (h : RunningOnly s) : RunningOnly (riseOp s) := by
  have risen := h.apart (modSup_touches_pins s fun u => { u with level := .aboveOp, seenReleased := u.seenReleased || !u.resetLine })
  unfold riseOp
  split
  · dsimp only
    split
    · have ready := finishDiscard_running ((finishHalt_running risen).apart (finishHalted_touches _))
      exact (ready.apart (setHub_touches _ .ready)).apart (setBoards_touches _ _)
    · exact risen.apart (tryRecall_touches _)
  · exact h

theorem enterSupplyLow_running {s : State} (h : RunningOnly s) : RunningOnly (enterSupplyLow s) := by
  have cut := cutFrame_running ((h.apart (setHub_touches s .supplyLow)).apart (lastOffNow_touches _))
  exact (cut.apart (postHaltCause_touches _ .supply)).apart (stopStore_touches _)

theorem fallOp_running {s : State} (h : RunningOnly s) : RunningOnly (fallOp s) := by
  have fallen := h.apart (modSup_touches_pins s fun u => { u with level := .belowOp })
  unfold fallOp
  split
  · dsimp only
    split
    · exact enterSupplyLow_running fallen
    · exact (fallen.apart (setHub_touches _ .dormant)).apart (setRecalling_touches _ false)
    · exact fallen
    · exact fallen
  · exact h

/-- After a reset the hob is STOPPED, quiet, and without a build. -/
theorem runningOnly_reset {u : State} (fe : u.fe = State.reset.fe) (ss : u.ss = State.reset.ss) (cp : u.cp = State.reset.cp)
    (pans : u.pans = Vector.replicate 8 .reset) : RunningOnly u := by
  have stopped : u.fe.hob ≠ .running := by rw [fe]; exact HobState.noConfusion
  refine runningOnly_of_stopped stopped ⟨?_, ?_, ?_, fun p => ?_, fun p => ?_⟩ fun _ => ⟨?_, ?_, ?_⟩
  · rw [cp]; rfl
  · rw [fe]; rfl
  · rw [fe]; rfl
  · rw [fe]
    change (Vector.replicate 8 0)[p] = 0
    simp
  · rw [pans]
    simp [PanRecord.reset]
  · rw [ss]; rfl
  · rw [ss]; exact fun _ h => List.eq_of_mem_replicate h
  · rw [ss]; exact fun _ h => List.eq_of_mem_replicate h

theorem completeRecall_running {s : State} (h : RunningOnly s) : RunningOnly (completeRecall s) := by
  unfold completeRecall
  dsimp only
  have taken := h.apart (takeStructure_touches s fun ts => { ts with work := recalledTables ts, valid := structureMarked ts, recalling := false })
  generalize takeStructure s _ = t at taken
  have ready : RunningOnly (if s.sup.hub = .recalling then t.modSup fun u => { u with hub := .ready } else t) := by
    split
    · exact taken.apart (setHub_touches _ .ready)
    · exact taken
  have told := (latch_running ready).apart (postRecalled_touches s _)
  split
  · split
    · exact told.apart (endCheck_touches _ _ _ _)
    · exact told.apart (endGood_touches _)
  · exact told

/-! ### Every command -/

/-- An order keeps the invariant if its judgement does. -/
theorem takeOrder_running {s : State} (h : RunningOnly s) (t : Time) (tag : Byte) (code : Nat) {judge : State → State}
    (keeps : ∀ {v : State}, RunningOnly v → RunningOnly (judge v)) : RunningOnly (takeOrder s t tag code judge) := by
  have heard := h.apart (hearCell_touches s t)
  unfold takeOrder
  split
  · exact heard.apart (answerStatus_touches _ _ _)
  · split
    · exact heard.apart (answerStatus_touches _ _ _)
    · exact keeps (heard.apart (openOrder_touches _ _ _))

/-- A rebuild request that leaves the Frame Engine's posts leaves the discards. -/
theorem popRebuild_running {s : State} (h : RunningOnly s) {rest : List SchedulerPost} (posts : s.posts.scheduler = .rebuild :: rest) :
    RunningOnly (s.modPosts fun q => { q with scheduler := rest }) := by
  have t := modPosts_touches_scheduler s fun q => { q with scheduler := rest }
  have waits : DiscardWaits (s.modPosts fun q => { q with scheduler := rest }) ↔ DiscardWaits s := by
    rw [DiscardWaits, DiscardWaits, posts, State.modPosts_posts]
    simp
  exact h.through rfl waits (fun _ g => g.apart t) (fun _ swap => ⟨swap, rfl⟩) fun _ _ g => g.apart t

theorem action_running (i : Instr) {s : State} (h : RunningOnly s) : RunningOnly (action i s) := by
  have blocks (v : State) : RunningOnly (resetBlocks v) := runningOnly_reset rfl rfl rfl rfl
  cases i
  case supplyRiseAboveVDig =>
    simp only [action, riseDig]
    split
    · exact (blocks s).apart (modSup_touches _ _)
    · exact h
  case supplyFallBelowVDig =>
    simp only [action, loseAll]
    split
    · exact h
    · exact runningOnly_reset rfl rfl rfl rfl
  case supplyRiseAboveVOp => exact riseOp_running h
  case supplyFallBelowVOp => exact fallOp_running h
  case resetLineAssertion =>
    simp only [action, assertReset]
    split
    · exact blocks _
    · exact h.apart (modSup_touches s _)
  case resetHub t tag => exact (blocks _).apart (tryRecall_touches _)
  case zeroCrossing t => exact judgeCrossing_running ((h.apart (arrive_touches s t)).apart (modFe_touches_frames _ _)) _
  case mainsSilence t => exact judgeSilence_running (h.apart (arrive_touches s t))
  case unlockTimerExpiry t => exact judgeUnlock_running (h.apart (arrive_touches s t))
  case recallComplete =>
    simp only [action]
    split
    · exact completeRecall_running h
    · exact h
  case startHob t tag => exact takeOrder_running h t tag 6 judgeStart_running
  case stopHob t tag => exact takeOrder_running h t tag 7 judgeStop_running
  case setLevel | pause | resume => all_goals exact takeHeadCell_running h _
  case rebuildRequest =>
    simp only [action]
    split
    · rename_i rest posts
      exact takeRebuild_running ((popRebuild_running h posts).apart (finishStart_touches _))
    · split
      · exact h
      · exact takeRebuild_running (h.apart (modPosts_touches s _))
  case snapshotComplete => exact snapshotComplete_running h
  case placeComplete => exact placeComplete_running h
  case endOfCheck => exact endOfCheck_running h
  case offer =>
    simp only [action]
    split
    · exact h
    · exact takeOffer_running (h.apart (modPosts_touches s _))
  case swapNotice =>
    simp only [action]
    split
    · exact h
    · exact takeSwapNotice_running (h.apart (modPosts_touches s _))
  case discard =>
    simp only [action]
    split
    · rename_i rest posts
      exact discard_running h (by rw [DiscardWaits, posts]; exact List.mem_cons_self) rest
    · exact h
  case halt =>
    simp only [action]
    split
    · exact takeHalt_running (h.apart (modPosts_touches s _)) _
    · exact h
  case clearHalt =>
    simp only [action]
    split
    · split
      · exact h
      · exact takeClearHalt_running (h.apart (modPosts_touches s _))
    · exact h
  all_goals exact h.apart (action_touches _ s) (by simp [footprint])

/-- Settles O58: by the operations that start, stop and feed a RUNNING hob. -/
theorem runningOnlyInEveryStep : Obligations.RunningOnlyInEveryStep :=
  fun _ _ h e => step_keeps (I := RunningOnly) (fun _ _ h => h) (fun _ h => h.apart (finishDue_touches _)) (fun i _ h => action_running i h) h e

end Sys2Proof.Machine
end

section
/-! The queues of the Controller Port fit (R154, R163, R164): an order goes from its cell to its status through the order states, and each
judgement leaves the port in one of them. -/

namespace Sys2Proof.Machine

-- The default arguments `by decide` wait for the kernel: one declaration after the other holds few threads.
set_option Elab.async false

/-! ### What the invariant speaks of -/

/-- Every part the invariant speaks of. -/
abbrev portParts : List Part := [.commit, .recalling, .hub, .heatQueue, .orders, .noticesFit]

/-- The order items of the Controller Port that a footprint leaves. -/
theorem orders_kept {l : List Part} {s u : State} (t : Touches l s u) (a : Part.orders ∉ l := by decide) :
    u.cp.state = s.cp.state ∧ u.cp.order = s.cp.order ∧ u.cp.statuses = s.cp.statuses ∧ u.cp.dataIn = s.cp.dataIn := by
  have e : { u.cp with silence := none, heatQueue := [], notices := [], gap := false } =
      { s.cp with silence := none, heatQueue := [], notices := [], gap := false } := t.kept .orders a
  exact ⟨(congrArg ControllerPort.state e :), (congrArg ControllerPort.order e :), (congrArg ControllerPort.statuses e :),
    (congrArg ControllerPort.dataIn e :)⟩

/-- What the store works for, by the order state and the hub state (R174 to R176). -/
def StoreWorks (s : State) : Prop :=
  (s.ts.commit.isSome = true → s.cp.state = .completing ∧ (s.sup.hub = .ready ∨ s.sup.hub = .supplyLow)) ∧
    (s.ts.recalling = true → s.ts.commit = none ∧ (s.sup.hub = .recalling ∨ (s.sup.hub = .ready ∧ s.cp.state = .completing)))

/-- The places that no order takes. -/
def PlacesFit (s : State) : Prop :=
  s.cp.notices.length ≤ 32 ∧ s.cp.heatQueue.length ≤ 16 ∧ (s.cp.statuses.filter fun c => !c.own).length ≤ 3

/-- The status, the order and the reply that go with the order state (R156, R157, R159). -/
def OrderStands (s : State) : Prop :=
  (s.cp.statuses.filter fun c => c.own).length = (if s.cp.state = .status then 1 else 0) ∧
    (s.cp.order.isSome = true ↔ s.cp.state ≠ .idle) ∧ (s.cp.dataIn ≠ [] → s.cp.state = .dataIn)

/-- The statuses fit: three of orders turned away, one of the order in progress. -/
theorem queuesFit_iff (s : State) : QueuesFit s ↔ PlacesFit s ∧ OrderStands s ∧ StoreWorks s := by
  constructor
  · rintro ⟨⟨notices, heats, -⟩, ⟨others, own⟩, order, replies, commit, recalls⟩
    exact ⟨⟨notices, heats, others⟩, ⟨own, order, replies⟩, commit, recalls⟩
  · rintro ⟨⟨notices, heats, others⟩, ⟨own, order, replies⟩, commit, recalls⟩
    refine ⟨⟨notices, heats, ?_⟩, ⟨others, own⟩, order, replies, commit, recalls⟩
    have split := List.length_eq_length_filter_add (l := s.cp.statuses) fun c => c.own
    have one : (if s.cp.state = .status then 1 else 0) ≤ 1 := by split <;> decide
    omega

section Apart

variable {l : List Part} {s u : State}

theorem PlacesFit.apart (h : PlacesFit s) (t : Touches l s u) (out : ∀ q ∈ [Part.heatQueue, .orders, .noticesFit], q ∉ l := by decide) :
    PlacesFit u := by
  obtain ⟨notices, heats, others⟩ := h
  have queue : u.cp.heatQueue = s.cp.heatQueue := t.kept .heatQueue (out _ (by decide))
  obtain ⟨-, -, statuses, -⟩ := orders_kept t (out _ (by decide))
  exact ⟨t.kept .noticesFit (out _ (by decide)) notices, queue ▸ heats, statuses ▸ others⟩

theorem OrderStands.apart (h : OrderStands s) (t : Touches l s u) (a : Part.orders ∉ l := by decide) : OrderStands u := by
  obtain ⟨state, order, statuses, dataIn⟩ := orders_kept t a
  rwa [OrderStands, state, order, statuses, dataIn]

theorem StoreWorks.apart (h : StoreWorks s) (t : Touches l s u)
    (out : ∀ q ∈ [Part.commit, .recalling, .hub, .orders], q ∉ l := by decide) : StoreWorks u := by
  have commit : u.ts.commit = s.ts.commit := t.kept .commit (out _ (by decide))
  have recalling : u.ts.recalling = s.ts.recalling := t.kept .recalling (out _ (by decide))
  have hub : u.sup.hub = s.sup.hub := t.kept .hub (out _ (by decide))
  obtain ⟨state, -⟩ := orders_kept t (out _ (by decide))
  rwa [StoreWorks, commit, recalling, hub, state]

theorem QueuesFit.apart (h : QueuesFit s) (t : Touches l s u) (out : ∀ q ∈ portParts, q ∉ l := by decide) : QueuesFit u := by
  obtain ⟨places, stands, works⟩ := (queuesFit_iff s).mp h
  have sub {m : List Part} (e : m ⊆ portParts) : ∀ q ∈ m, q ∉ l := fun q hq => out q (e hq)
  exact (queuesFit_iff u).mpr ⟨places.apart t (sub (by decide)), stands.apart t (out _ (by decide)), works.apart t (sub (by decide))⟩

end Apart

/-! ### An order that is being decided -/

/-- An order is in progress whose state is still to be set: no status of it waits, and the store works for no order. -/
structure Deciding (s : State) : Prop where
  places : PlacesFit s
  noStatus : (s.cp.statuses.filter fun c => c.own).length = 0
  order : s.cp.order.isSome = true
  noCommit : s.ts.commit = none
  recalls : s.ts.recalling = true → s.sup.hub = .recalling

theorem Deciding.apart {l : List Part} {s u : State} (h : Deciding s) (t : Touches l s u) (out : ∀ q ∈ portParts, q ∉ l := by decide) :
    Deciding u := by
  have commit : u.ts.commit = s.ts.commit := t.kept .commit (out _ (by decide))
  have recalling : u.ts.recalling = s.ts.recalling := t.kept .recalling (out _ (by decide))
  have hub : u.sup.hub = s.sup.hub := t.kept .hub (out _ (by decide))
  obtain ⟨-, order, statuses, -⟩ := orders_kept t (out _ (by decide))
  exact ⟨h.places.apart t fun q hq => out q ((by decide : [Part.heatQueue, .orders, .noticesFit] ⊆ portParts) hq),
    statuses ▸ h.noStatus, order ▸ h.order, commit ▸ h.noCommit, by rw [recalling, hub]; exact h.recalls⟩

/-- R157: the order ends. -/
theorem Deciding.ends {s : State} (h : Deciding s) (condition : Condition) (sense : SenseRecord) : QueuesFit (endOrder s condition sense) := by
  obtain ⟨o, order⟩ := Option.isSome_iff_exists.mp h.order
  obtain ⟨notices, heats, others⟩ := h.places
  have commit : ¬ s.ts.commit.isSome = true := by rw [h.noCommit]; exact Bool.false_ne_true
  unfold endOrder
  rw [order]
  refine (queuesFit_iff _).mpr ⟨⟨notices, heats, ?_⟩, ⟨?_, ?_, ?_⟩, fun c => absurd c commit, fun r => ⟨h.noCommit, .inl (h.recalls r)⟩⟩
  · simpa [State.modCp] using others
  · simpa [State.modCp] using h.noStatus
  · simp [State.modCp, order]
  · simp [State.modCp]

theorem Deciding.endsGood {s : State} (h : Deciding s) : QueuesFit (endGood s) := h.ends _ _

theorem Deciding.endsCheck {s : State} (h : Deciding s) (key : SenseKey) (field detail : Nat) : QueuesFit (endCheck s key field detail) :=
  h.ends _ _

/-- R159: the order is in DATA-IN. -/
theorem Deciding.replies {s : State} (h : Deciding s) (cells : List Payload) : QueuesFit (reply s cells) := by
  have commit : ¬ s.ts.commit.isSome = true := by rw [h.noCommit]; exact Bool.false_ne_true
  refine (queuesFit_iff _).mpr ⟨h.places, ⟨h.noStatus, ?_, fun _ => rfl⟩, fun c => absurd c commit,
    fun r => ⟨h.noCommit, .inl (h.recalls r)⟩⟩
  exact iff_of_true h.order OrderState.noConfusion

/-- An order that has just been taken has no reply yet. -/
def Opened (s : State) : Prop := Deciding s ∧ s.cp.dataIn = []

theorem Opened.apart {l : List Part} {s u : State} (h : Opened s) (t : Touches l s u) (out : ∀ q ∈ portParts, q ∉ l := by decide) :
    Opened u := by
  obtain ⟨-, -, -, dataIn⟩ := orders_kept t (out _ (by decide))
  exact ⟨h.1.apart t out, dataIn.trans h.2⟩

/-- R158: the order is in DATA-OUT. -/
theorem Opened.entersDataOut {s : State} (h : Opened s) (expected : Nat) (job : OrderJob) : QueuesFit (enterDataOut s expected job) := by
  obtain ⟨h, none⟩ := h
  have commit : ¬ s.ts.commit.isSome = true := by rw [h.noCommit]; exact Bool.false_ne_true
  refine (queuesFit_iff _).mpr ⟨h.places, ⟨h.noStatus, iff_of_true ?_ OrderState.noConfusion, fun c => absurd none c⟩,
    fun c => absurd c commit, fun r => ⟨h.noCommit, .inl (h.recalls r)⟩⟩
  rw [← h.order]
  exact Option.isSome_map

/-- R156, R174, R175: the order is in COMPLETING, and the store works for it alone. -/
theorem Opened.entersCompleting {s : State} (h : Opened s) {f : TableStore → TableStore} (ready : s.sup.hub = .ready)
    (one : (f s.ts).recalling = true → (f s.ts).commit = none) : QueuesFit (enterCompleting (s.modTs f)) := by
  obtain ⟨h, none⟩ := h
  exact (queuesFit_iff _).mpr ⟨h.places, ⟨h.noStatus, iff_of_true h.order OrderState.noConfusion, fun c => absurd none c⟩,
    fun _ => ⟨rfl, .inl ready⟩, fun r => ⟨one r, .inr ⟨ready, rfl⟩⟩⟩

/-- A change of the order's job, the sense record or the booking mask. -/
theorem Opened.modCp {s : State} (h : Opened s) {f : ControllerPort → ControllerPort} (statuses : (f s.cp).statuses = s.cp.statuses := by rfl)
    (order : (f s.cp).order.isSome = s.cp.order.isSome := by rfl) (dataIn : (f s.cp).dataIn = s.cp.dataIn := by rfl)
    (notices : (f s.cp).notices = s.cp.notices := by rfl) (heats : (f s.cp).heatQueue = s.cp.heatQueue := by rfl) : Opened (s.modCp f) := by
  obtain ⟨⟨⟨fit, room, others⟩, noStatus, some, noCommit, recalls⟩, none⟩ := h
  refine ⟨⟨⟨?_, ?_, ?_⟩, ?_, ?_, noCommit, recalls⟩, ?_⟩
  · rw [State.modCp_cp, notices]; exact fit
  · rw [State.modCp_cp, heats]; exact room
  · rw [State.modCp_cp, statuses]; exact others
  · rw [State.modCp_cp, statuses]; exact noStatus
  · rw [State.modCp_cp, order]; exact some
  · rw [State.modCp_cp, dataIn]; exact none

/-- An order in DATA-OUT or DATA-IN is still being decided. -/
theorem QueuesFit.deciding {s : State} (h : QueuesFit s) (state : s.cp.state = .dataOut ∨ s.cp.state = .dataIn) : Deciding s := by
  obtain ⟨places, ⟨own, order, -⟩, commit, recalls⟩ := (queuesFit_iff s).mp h
  have notStatus : s.cp.state ≠ .status := by rcases state with e | e <;> rw [e] <;> exact OrderState.noConfusion
  have notIdle : s.cp.state ≠ .idle := by rcases state with e | e <;> rw [e] <;> exact OrderState.noConfusion
  have notCompleting : s.cp.state ≠ .completing := by rcases state with e | e <;> rw [e] <;> exact OrderState.noConfusion
  rw [if_neg notStatus] at own
  refine ⟨places, own, order.mpr notIdle, ?_, fun r => (recalls r).2.resolve_right fun c => notCompleting c.2⟩
  by_contra c
  exact notCompleting (commit (Option.isSome_iff_ne_none.mpr c)).1

/-- R156: an order is taken where none is in progress. -/
theorem takeOrder_fits {s : State} (h : QueuesFit s) (t : Time) (tag : Byte) (code : Nat) {judge : State → State}
    (judged : ∀ {v : State}, Opened v → (code ≠ 1 → v.sup.hub = .ready) → QueuesFit (judge v)) : QueuesFit (takeOrder s t tag code judge) := by
  have heard := QueuesFit.apart h (hearCell_touches s t)
  generalize e : hearCell s t = v at heard
  unfold takeOrder
  rw [e]
  obtain ⟨⟨notices, heats, others⟩, ⟨own, order, replies⟩, commit, recalls⟩ := (queuesFit_iff v).mp heard
  have answered (condition : Condition) : QueuesFit (answerStatus v tag condition) := by
    unfold answerStatus
    split
    · rename_i room
      refine (queuesFit_iff _).mpr ⟨⟨notices, heats, ?_⟩, ⟨?_, order, replies⟩, commit, recalls⟩
      · simpa [State.modCp] using room
      · refine Eq.trans (congrArg List.length ?_) own
        simp [State.modCp]
    · exact heard
  split
  · exact answered _
  · rename_i ready
    split
    · exact answered _
    · rename_i none
      have idle : v.cp.state = .idle := by
        by_contra c
        exact none (order.mpr c)
      have noReply : v.cp.dataIn = [] := by
        by_contra c
        rw [replies c] at idle
        cases idle
      have noCommit : v.ts.commit = .none := by
        by_contra c
        rw [(commit (Option.isSome_iff_ne_none.mpr c)).1] at idle
        cases idle
      have noStatus : (v.cp.statuses.filter fun c => c.own).length = 0 := by
        rw [own, idle]
        rfl
      refine judged ⟨⟨⟨notices, heats, others⟩, noStatus, rfl, noCommit, fun r => (recalls r).2.resolve_right fun c => ?_⟩, noReply⟩ fun n => ?_
      · rw [c.2] at idle
        cases idle
      · by_contra c
        exact ready ⟨c, n⟩

/-! ### The judgement of each order -/

section Judged

variable {s : State}

theorem judgeLoad_fits (h : Opened s) (handle count : Byte) : QueuesFit (judgeLoad s handle count) := by
  unfold judgeLoad
  dsimp only
  iterate 4
    split
    · exact h.1.endsCheck _ _ _
  exact (h.apart (modHs_touches_lists s fun l => { l with held := [] })).entersDataOut _ _

theorem judgeRun_fits (h : Opened s) (handle : Byte) : QueuesFit (judgeRun s handle) := by
  unfold judgeRun
  dsimp only
  split
  · exact h.1.endsCheck _ _ _
  · split
    · exact h.1.endsCheck _ _ _
    · rename_i step _ _
      iterate 3
        split
        · exact h.1.endsCheck _ _ _
      have begun := (h.1.apart (modHeat_touches s (handleSlot handle) fun r => { r with state := .program, prior := none })).apart
        (beginStep_touches _ (handleSlot handle) 0 step)
      exact ((begun.apart (moveToHead_touches _ _)).apart (postTrigger_touches _ _)).endsGood

theorem judgeWrite_fits (h : Opened s) (table start count : Byte) : QueuesFit (judgeWrite s table start count) := by
  unfold judgeWrite
  split
  · exact h.1.endsCheck _ _ _
  · iterate 3
      split
      · exact h.1.endsCheck _ _ _
    exact h.entersDataOut _ _

theorem openReply_fits (h : Opened s) (cells : List Payload) : QueuesFit (openReply s cells) := (h.1.apart (drawn_touches s _)).replies cells

theorem judgeRead_fits (h : Opened s) (table start count : Byte) : QueuesFit (judgeRead s table start count) := by
  unfold judgeRead
  split
  · exact h.1.endsCheck _ _ _
  · split
    · exact h.1.endsCheck _ _ _
    · split
      · exact h.1.endsCheck _ _ _
      · exact openReply_fits h _

theorem judgeCommit_fits (h : Opened s) (ready : s.sup.hub = .ready) : QueuesFit (judgeCommit s) := by
  unfold judgeCommit
  split
  · exact h.1.endsCheck _ _ _
  · split
    · exact h.1.endsCheck _ _ _
    · refine h.entersCompleting ready fun r => ?_
      have recalling := h.1.recalls r
      rw [ready] at recalling
      cases recalling

theorem judgeRecall_fits (h : Opened s) (ready : s.sup.hub = .ready) : QueuesFit (judgeRecall s) := by
  unfold judgeRecall
  split
  · exact h.1.endsCheck _ _ _
  · split
    · exact h.1.endsCheck _ _ _
    · exact h.entersCompleting ready fun _ => h.1.noCommit

theorem judgeEnter_fits (h : Opened s) : QueuesFit (judgeEnter s) := by
  unfold judgeEnter
  split
  · exact h.1.endsCheck _ _ _
  · split
    · exact h.1.endsCheck _ _ _
    · exact (h.1.apart (modTs_touches_tables s fun ts => { ts with service := true })).endsGood

theorem judgeExit_fits (h : Opened s) : QueuesFit (judgeExit s) := by
  unfold judgeExit
  split
  · exact h.1.endsCheck _ _ _
  · split
    · exact h.1.endsCheck _ _ _
    · exact (h.1.apart (takeStructure_touches_tables s (fun ts => { ts with service := false, valid := true }) (fun _ => rfl)
        fun _ => rfl)).endsGood

theorem judgeCoilOrder_fits (h : Opened s) (coil : Byte) (f : CoilRecord → CoilRecord) (o : ∀ r, (f r).occupancy = r.occupancy)
    (w : ∀ r, (f r).owner = r.owner) : QueuesFit (judgeCoilOrder s coil f) := by
  unfold judgeCoilOrder
  split
  · split
    · exact h.1.endsCheck _ _ _
    · exact (h.1.apart (changeFlags_touches s _ f (o _) (w _))).endsGood
  · exact h.1.endsCheck _ _ _

theorem judgeDerate_fits (h : Opened s) (board value : Byte) : QueuesFit (judgeDerate s board value) := by
  unfold judgeDerate
  split
  · split
    · exact h.1.endsCheck _ _ _
    · exact (h.1.apart (takeDerating_touches (l := [.deratings, .allocs, .budget, .notices, .posts]) (setDerating_touches s _).mono)).endsGood
  · exact h.1.endsCheck _ _ _

theorem judgeStart_fits (h : Opened s) : QueuesFit (judgeStart s) := by
  unfold judgeStart
  iterate 4
    split
    · exact h.1.endsCheck _ _ _
  have latched := (h.1.apart (finishStop_touches s)).apart (latch_touches _)
  have running := latched.apart (modFe_touches _ fun fe =>
    { fe with hob := .running, awaiting := true, unlockTimer := if fe.lock = .locked then fe.unlockTimer else some s.now })
  have posted := (running.apart (modPosts_touches _ fun q => { q with hob := q.hob ++ [.start] })).apart
    (modPosts_touches_scheduler _ fun q => { q with scheduler := q.scheduler ++ [.rebuild] })
  exact (posted.apart (followHob_touches _)).endsGood

theorem judgeStop_fits (h : Opened s) : QueuesFit (judgeStop s) := by
  unfold judgeStop
  split
  · exact (h.1.apart (leaveRunning_touches s .stopped .stop)).endsGood
  · exact (h.1.apart (drawn_touches s _)).endsCheck _ _ _

theorem judgeReadPan_fits (h : Opened s) (slot : Byte) : QueuesFit (judgeReadPan s slot) := by
  unfold judgeReadPan
  split
  · exact openReply_fits h _
  · exact h.1.endsCheck _ _ _

theorem judgeReadCoil_fits (h : Opened s) (coil : Byte) : QueuesFit (judgeReadCoil s coil) := by
  unfold judgeReadCoil
  split
  · exact h.1.replies _
  · exact h.1.endsCheck _ _ _

end Judged

/-! ### The store (R174, R175) -/

/-- An order in COMPLETING whose commit or recall has ended is decided. -/
theorem completing_deciding {s u : State} {l : List Part} (h : QueuesFit s) (state : s.cp.state = .completing) (t : Touches l s u)
    (out : ∀ q ∈ [Part.heatQueue, .orders, .noticesFit], q ∉ l) (commit : u.ts.commit = none)
    (recalls : u.ts.recalling = true → u.sup.hub = .recalling) : Deciding u := by
  obtain ⟨places, ⟨own, order, -⟩, -⟩ := (queuesFit_iff s).mp h
  obtain ⟨-, order', statuses, -⟩ := orders_kept t (out _ (by decide))
  rw [state, if_neg OrderState.noConfusion] at own
  exact ⟨places.apart t out, statuses ▸ own, order' ▸ order.mpr (state ▸ OrderState.noConfusion), commit, recalls⟩

/-- R174: the position that a row leaves. -/
theorem TableStore.nextRow_commit (ts : TableStore) (c : CommitPos) : (ts.nextRow c).2 = true ↔ (ts.nextRow c).1.commit = none := by
  unfold nextRow
  split
  · exact iff_of_false Bool.false_ne_true (Option.some_ne_none _)
  · split
    · exact iff_of_true rfl rfl
    · exact iff_of_false Bool.false_ne_true (Option.some_ne_none _)

theorem rowWritten_fits {s : State} (h : QueuesFit s) : QueuesFit (rowWritten s) := by
  unfold rowWritten
  split
  · exact h
  · rename_i c commits
    obtain ⟨places, stands, commit, recalls⟩ := (queuesFit_iff s).mp h
    obtain ⟨completing, hub⟩ := commit (by rw [commits]; rfl)
    have idle : ¬ s.ts.recalling = true := fun r => by
      have none := (recalls r).1
      rw [commits] at none
      cases none
    have stopped : ¬ (s.ts.finishRow.recalling = true) := by rwa [s.ts.finishRow_recalling]
    have going : ¬ ((s.ts.nextRow c).1.recalling = true) := by rwa [s.ts.nextRow_recalling]
    split
    · exact (completing_deciding h completing (modTs_touches_commit s (fun ts => { ts.finishRow with commit := none })
        s.ts.finishRow_recalling) (by decide) rfl fun r => absurd r stopped).endsCheck _ _ _
    · have t := modTs_touches_commit s (fun ts => (ts.nextRow c).1) (s.ts.nextRow_recalling c)
      split
      · rename_i last
        exact (completing_deciding h completing t (by decide) ((s.ts.nextRow_commit c).mp last) fun r => absurd r going).endsGood
      · exact (queuesFit_iff _).mpr ⟨places.apart t, stands.apart t, fun _ => ⟨completing, hub⟩, fun r => absurd r going⟩

/-- The Table Store that a footprint leaves. -/
theorem ts_kept {l : List Part} {s u : State} (t : Touches l s u) (out : ∀ q ∈ [Part.tables, .commit, .recalling], q ∉ l := by decide) :
    u.ts = s.ts := by
  have tables : { u.ts with commit := none, recalling := false } = { s.ts with commit := none, recalling := false } :=
    t.kept .tables (out _ (by decide))
  have commit : u.ts.commit = s.ts.commit := t.kept .commit (out _ (by decide))
  have recalling : u.ts.recalling = s.ts.recalling := t.kept .recalling (out _ (by decide))
  cases hu : u.ts
  cases hs : s.ts
  simp_all

/-- R172, R175: the Table Store after a change of the structural-valid flag. -/
theorem takeStructure_ts (s : State) (f : TableStore → TableStore) : (takeStructure s f).ts = f s.ts := by
  have before := ts_kept (finishReleases_touches s (f s.ts).work (f s.ts).valid)
  have after := ts_kept ((takeBoards_touches _ (f s.ts).valid).after (takePresence_touches
    ((finishReleases s (f s.ts).work (f s.ts).valid).modTs f) (f s.ts).valid) (k := .boards :: .posts :: .hot :: trackerParts))
  exact after.trans (congrArg f before)

theorem completeRecall_fits {s : State} (h : QueuesFit s) (recalling : s.ts.recalling = true) : QueuesFit (completeRecall s) := by
  obtain ⟨places, stands, -, recalls⟩ := (queuesFit_iff s).mp h
  have noCommit := (recalls recalling).1
  unfold completeRecall
  dsimp only
  have taken := takeStructure_touches s fun ts => { ts with work := recalledTables ts, valid := structureMarked ts, recalling := false }
  have store := takeStructure_ts s fun ts => { ts with work := recalledTables ts, valid := structureMarked ts, recalling := false }
  generalize takeStructure s _ = t at taken store
  have ready := Touches.ite (c := s.sup.hub = .recalling)
    ((setHub_touches t .ready).after taken (k := .hub :: .commit :: .recalling :: structureParts)) taken.mono
  have store' : (if s.sup.hub = .recalling then t.modSup fun u => { u with hub := .ready } else t).ts = t.ts := by split <;> rfl
  generalize (if s.sup.hub = .recalling then t.modSup fun u => { u with hub := .ready } else t) = v at ready store'
  have later := (postRecalled_touches s _).after (latch_touches v) (k := [.emitted, .delivered, .mains, .frames, .posts])
  have told := later.after ready (k := .emitted :: .delivered :: .mains :: .frames :: .hub :: .commit :: .recalling :: structureParts)
  have ended : (postRecalled s (latch v)).ts.commit = none ∧ (postRecalled s (latch v)).ts.recalling = false := by
    rw [ts_kept later, store', store]
    exact ⟨noCommit, rfl⟩
  generalize postRecalled s (latch v) = w at told ended
  have noRecall : ¬ w.ts.recalling = true := by rw [ended.2]; exact Bool.false_ne_true
  split
  · rename_i completing
    have deciding := completing_deciding h completing told (by decide) ended.1 fun r => absurd r noRecall
    split
    · exact deciding.endsCheck _ _ _
    · exact deciding.endsGood
  · refine (queuesFit_iff w).mpr ⟨places.apart told, stands.apart told, fun c => ?_, fun r => absurd r noRecall⟩
    rw [ended.1] at c
    cases c

/-! ### DATA, HEAT and ABORT cells (R155, R158, R160, R163) -/

section Cells

variable {s : State}

theorem countEntry_dataOut (h : QueuesFit s) (state : s.cp.state = .dataOut) (o : Order) :
    QueuesFit (countEntry s o) ∧ (countEntry s o).cp.state = .dataOut := by
  obtain ⟨places, ⟨own, order, replies⟩, works⟩ := (queuesFit_iff s).mp h
  have notIdle : s.cp.state ≠ .idle := state ▸ OrderState.noConfusion
  exact ⟨(queuesFit_iff _).mpr ⟨places, ⟨own, iff_of_true rfl notIdle, replies⟩, works⟩, state⟩

theorem finishLoad_fits (h : Deciding s) (handle : Byte) : QueuesFit (finishLoad s handle) := by
  unfold finishLoad
  split
  · exact ((h.apart (setProgram_touches s (handleSlot handle) s.hs.held)).apart (modHs_touches_lists _ fun l => { l with held := [] })).endsGood
  · exact (h.apart (modHs_touches_lists s fun l => { l with held := [] })).endsCheck _ _ _

theorem takeStep_fits (h : QueuesFit s) (state : s.cp.state = .dataOut) (o : Order) (handle : Byte) (p : Payload) :
    QueuesFit (takeStep s o handle p) := by
  unfold takeStep
  split
  · exact ((h.deciding (.inl state)).apart (dropHeld_touches s)).endsCheck _ _ _
  · rename_i st _
    have held : QueuesFit (s.modHs fun l => { l with held := l.held ++ [st] }) := QueuesFit.apart h (modHs_touches_lists s _)
    obtain ⟨counted, state'⟩ := countEntry_dataOut held state o
    dsimp only
    split
    · exact counted
    · exact finishLoad_fits (QueuesFit.deciding counted (.inl state')) handle

theorem takeEntry_fits (h : QueuesFit s) (state : s.cp.state = .dataOut) (o : Order) (t : Fin 7) (start : Nat) (p : Payload) :
    QueuesFit (takeEntry s o t start p) := by
  have deciding := QueuesFit.deciding h (.inl state)
  unfold takeEntry
  split
  · exact deciding.endsCheck _ _ _
  · split
    · exact deciding.endsCheck _ _ _
    · rename_i w _
      have written := entryTaken_touches (l := [.tables, .allocs, .budget, .notices, .posts])
        (modTs_touches_tables s fun ts => { ts with work := w }).mono t (entryIndex t start o.taken)
      have same := (orders_kept written).1
      obtain ⟨counted, state'⟩ := countEntry_dataOut (QueuesFit.apart h written) (same.trans state) o
      dsimp only
      split
      · exact counted
      · exact (QueuesFit.deciding counted (.inl state')).endsGood

theorem dispatchData_fits (h : QueuesFit s) (tag : Byte) (p : Payload) : QueuesFit (dispatchData s tag p) := by
  unfold dispatchData
  split
  · exact h
  · split
    · rename_i dataOut
      unfold takeData
      split
      · exact ((QueuesFit.deciding h (.inl dataOut.1)).apart (dropHeld_touches s)).endsCheck _ _ _
      · split
        · exact takeStep_fits h dataOut.1 _ _ p
        · exact takeEntry_fits h dataOut.1 _ _ _ p
        · exact h
        · exact h
    · exact h

theorem setHeatQueue_fits (h : QueuesFit s) {cells : List HeatCell} (room : cells.length ≤ 16) :
    QueuesFit (s.modCp fun cp => { cp with heatQueue := cells }) := by
  obtain ⟨⟨notices, -, others⟩, stands, works⟩ := (queuesFit_iff s).mp h
  exact (queuesFit_iff _).mpr ⟨⟨notices, room, others⟩, stands, works⟩

theorem dispatchHeat_fits (h : QueuesFit s) (handle action level : Byte) : QueuesFit (dispatchHeat s handle action level) := by
  unfold dispatchHeat
  split
  · split
    · exact h
    · split
      · rename_i room
        exact setHeatQueue_fits h (by simpa using room)
      · exact QueuesFit.apart h (refuseHeat_touches s _ _ _)
  · exact h

theorem dispatchAbort_fits (h : QueuesFit s) : QueuesFit (dispatchAbort s) := by
  unfold dispatchAbort
  split
  · exact h
  · exact h
  · rename_i state
    exact ((QueuesFit.deciding h (.inl state)).apart (dropHeld_touches s)).endsCheck _ _ _
  · rename_i state
    exact (QueuesFit.deciding h (.inr state)).endsCheck _ _ _
  · obtain ⟨places, stands, works⟩ := (queuesFit_iff s).mp h
    exact (queuesFit_iff _).mpr ⟨places, stands, works⟩

theorem takeHeadCell_fits (h : QueuesFit s) (action : HeatAction) : QueuesFit (takeHeadCell s action) := by
  have met := QueuesFit.apart h (meetHalt_touches s)
  unfold takeHeadCell
  split
  · unfold takeHeatCell
    split
    · exact met
    · rename_i cell rest queue
      split
      · have room := met.1.2.1
        rw [queue] at room
        exact QueuesFit.apart (setHeatQueue_fits met (cells := rest) ((Nat.le_succ _).trans room)) (applyHeat_touches _ cell)
      · exact met
  · exact h

/-! ### The transmit arbiter (R165) -/

theorem ControllerPort.closeOrder_keeps (cp : ControllerPort) (condition : Condition) :
    (cp.closeOrder condition).statuses = cp.statuses ∧ (cp.closeOrder condition).dataIn = cp.dataIn ∧
      (cp.closeOrder condition).notices = cp.notices ∧ (cp.closeOrder condition).heatQueue = cp.heatQueue ∧
      (cp.closeOrder condition).state = .idle ∧ (cp.closeOrder condition).order = none := by
  unfold closeOrder takePace
  split
  · split <;> exact ⟨rfl, rfl, rfl, rfl, rfl, rfl⟩
  · exact ⟨rfl, rfl, rfl, rfl, rfl, rfl⟩

/-- R157: the status of the order in progress has been sent. -/
theorem ownSent_fits (h : QueuesFit s) {c : StatusCell} {rest : List StatusCell} (queue : s.cp.statuses = c :: rest) (own : c.own = true)
    (line : State) (cp : line.cp = s.cp) (ts : line.ts = s.ts) (sup : line.sup = s.sup) :
    QueuesFit ((line.modCp fun cp => { cp with statuses := rest }).modCp (·.closeOrder c.condition)) := by
  obtain ⟨⟨notices, heats, others⟩, ⟨ownCount, order, replies⟩, commit, recalls⟩ := (queuesFit_iff s).mp h
  rw [queue, List.filter_cons_of_pos own, List.length_cons] at ownCount
  rw [queue, List.filter_cons_of_neg (by simp [own])] at others
  have status : s.cp.state = .status := by
    by_contra n
    rw [if_neg n] at ownCount
    cases ownCount
  rw [if_pos status] at ownCount
  have noReply : s.cp.dataIn = [] := by
    by_contra n
    rw [replies n] at status
    cases status
  have noCommit : ¬ s.ts.commit.isSome = true := fun e => by
    rw [(commit e).1] at status
    cases status
  obtain ⟨statuses', dataIn', notices', heats', state', order'⟩ := ({ s.cp with statuses := rest } : ControllerPort).closeOrder_keeps c.condition
  have port : ((line.modCp fun cp => { cp with statuses := rest }).modCp (·.closeOrder c.condition)).cp =
      ({ s.cp with statuses := rest } : ControllerPort).closeOrder c.condition := by
    rw [State.modCp_cp, State.modCp_cp, cp]
  refine (queuesFit_iff _).mpr ⟨⟨?_, ?_, ?_⟩, ⟨?_, ?_, ?_⟩, ?_, ?_⟩
  · rw [port, notices']; exact notices
  · rw [port, heats']; exact heats
  · rw [port, statuses']; exact others
  · rw [port, statuses', state']; exact Nat.succ.inj ownCount
  · rw [port, state', order']; simp
  · rw [port, dataIn', state']; exact fun n => absurd noReply n
  · change line.ts.commit.isSome = true → _
    rw [ts]; exact fun e => absurd e noCommit
  · change line.ts.recalling = true → line.ts.commit = none ∧ (line.sup.hub = _ ∨ (line.sup.hub = _ ∧ _))
    rw [ts, sup]
    intro r
    obtain ⟨none, recalling | completing⟩ := recalls r
    · exact ⟨none, .inl recalling⟩
    · rw [completing.2] at status
      cases status

/-- R157: the status of an order turned away has been sent. -/
theorem otherSent_fits (h : QueuesFit s) {c : StatusCell} {rest : List StatusCell} (queue : s.cp.statuses = c :: rest) (other : c.own = false) :
    QueuesFit (s.modCp fun cp => { cp with statuses := rest }) := by
  obtain ⟨⟨notices, heats, others⟩, ⟨own, order, replies⟩, works⟩ := (queuesFit_iff s).mp h
  rw [queue, List.filter_cons_of_neg (by simp [other])] at own
  rw [queue, List.filter_cons_of_pos (by simp [other])] at others
  exact (queuesFit_iff _).mpr ⟨⟨notices, heats, (Nat.le_succ _).trans others⟩, ⟨own, order, replies⟩, works⟩

/-- R159: a reply cell has been sent. -/
theorem replySent_fits (h : QueuesFit s) {p : Payload} {rest : List Payload} (cells : s.cp.dataIn = p :: rest) :
    QueuesFit (if rest = [] then endGood (s.modCp fun cp => { cp with dataIn := rest }) else s.modCp fun cp => { cp with dataIn := rest }) := by
  obtain ⟨places, ⟨own, order, replies⟩, works⟩ := (queuesFit_iff s).mp h
  have dataIn : s.cp.state = .dataIn := replies (by rw [cells]; exact List.cons_ne_nil _ _)
  have sent : QueuesFit (s.modCp fun cp => { cp with dataIn := rest }) :=
    (queuesFit_iff _).mpr ⟨places, ⟨own, order, fun _ => dataIn⟩, works⟩
  split
  · exact (QueuesFit.deciding sent (.inr dataIn)).endsGood
  · exact sent

theorem transmitUp_fits (h : QueuesFit s) : QueuesFit (transmitUp s) := by
  unfold transmitUp
  split
  · rename_i c rest queue
    dsimp only
    split
    · rename_i own
      exact ownSent_fits h queue own (sendUp s (statusCell c)) rfl rfl rfl
    · rename_i other
      exact otherSent_fits (QueuesFit.apart h (sendUp_touches s (statusCell c))) queue (by simpa using other)
  · split
    · obtain ⟨places, stands, works⟩ := (queuesFit_iff s).mp h
      exact (queuesFit_iff _).mpr ⟨places, stands, works⟩
    · split
      · rename_i p rest cells
        exact replySent_fits (QueuesFit.apart h (sendUp_touches s (dataCell (orderTag s) p))) cells
      · split
        · rename_i n rest queue
          obtain ⟨⟨notices, heats, others⟩, stands, works⟩ := (queuesFit_iff s).mp h
          rw [queue] at notices
          exact (queuesFit_iff _).mpr ⟨⟨(Nat.le_succ _).trans notices, heats, others⟩, stands, works⟩
        · exact h

end Cells

/-! ### The supply (R174 to R177) -/

section Supply

variable {s : State}

/-- After a reset the port is empty, and the store works for nothing. -/
theorem queuesFit_reset {u : State} (cp : u.cp = State.reset.cp) (commit : u.ts.commit = none) (recalling : u.ts.recalling = false) :
    QueuesFit u := by
  refine (queuesFit_iff u).mpr ⟨?_, ?_, ?_, ?_⟩
  · rw [PlacesFit, cp]; decide
  · rw [OrderStands, cp]; decide
  · rw [commit]; exact fun c => absurd c Bool.false_ne_true
  · rw [recalling]; exact fun r => absurd r Bool.false_ne_true

/-- R176: a DORMANT hub works for no order. -/
theorem tryRecall_fits (h : QueuesFit s) : QueuesFit (tryRecall s) := by
  obtain ⟨places, stands, commit, -⟩ := (queuesFit_iff s).mp h
  unfold tryRecall
  split
  · rename_i dormant
    have noCommit : s.ts.commit = none := by
      by_contra c
      have hub := (commit (Option.isSome_iff_ne_none.mpr c)).2
      rw [dormant.1] at hub
      rcases hub with e | e <;> cases e
    have none : ¬ s.ts.commit.isSome = true := by rw [noCommit]; exact Bool.false_ne_true
    exact (queuesFit_iff _).mpr ⟨places, stands, fun c => absurd c none, fun _ => ⟨noCommit, .inl rfl⟩⟩
  · exact h

theorem modSup_fits (h : QueuesFit s) {f : Supply → Supply} (hub : (f s.sup).hub = s.sup.hub := by rfl) : QueuesFit (s.modSup f) :=
  QueuesFit.apart h (modSup_touches_pins s f hub)

/-- A hub in SUPPLY LOW that is READY again goes on with its commit. -/
theorem ready_fits (h : QueuesFit s) (low : s.sup.hub = .supplyLow) : QueuesFit (s.modSup fun u => { u with hub := .ready }) := by
  obtain ⟨places, stands, commit, recalls⟩ := (queuesFit_iff s).mp h
  refine (queuesFit_iff _).mpr ⟨places, stands, fun c => ⟨(commit c).1, .inl rfl⟩, fun r => ?_⟩
  rcases (recalls r).2 with e | e
  · rw [low] at e
    cases e
  · rw [low] at e
    cases e.1

theorem riseOp_fits (h : QueuesFit s) : QueuesFit (riseOp s) := by
  have risen : QueuesFit (s.modSup fun u => { u with level := .aboveOp, seenReleased := u.seenReleased || !u.resetLine }) := modSup_fits h
  unfold riseOp
  split
  · dsimp only
    split
    · rename_i low
      have finished := (finishDiscard_touches _).after ((finishHalted_touches _).after (finishHalt_touches
        (s.modSup fun u => { u with level := .aboveOp, seenReleased := u.seenReleased || !u.resetLine }))
        (k := .notices :: .faults :: leaveParts))
        (k := .notices :: .faults :: .schedules :: .stage :: .bankA :: .bankB :: .build :: leaveParts)
      have low' := Eq.trans (finished.kept .hub) low
      exact QueuesFit.apart (ready_fits (QueuesFit.apart risen finished) low') (setBoards_touches _ _)
    · exact tryRecall_fits risen
  · exact h

/-- R176: a fall from READY leaves the store to the end of its row, or to nothing. -/
theorem stopStore_fits {v : State} (h : QueuesFit v) (ready : v.sup.hub = .ready) {l : List Part} {u : State} (t : Touches l v u)
    (low : u.sup.hub = .supplyLow) (out : ∀ q ∈ [Part.commit, .recalling, .heatQueue, .orders, .noticesFit], q ∉ l := by decide) :
    QueuesFit (stopStore u) := by
  obtain ⟨places, stands, commit, recalls⟩ := (queuesFit_iff v).mp h
  have sub : [Part.heatQueue, .orders, .noticesFit] ⊆ [Part.commit, .recalling, .heatQueue, .orders, .noticesFit] := by decide
  have commit' : u.ts.commit = v.ts.commit := t.kept .commit (out _ (by decide))
  have recalling' : u.ts.recalling = v.ts.recalling := t.kept .recalling (out _ (by decide))
  have state' := (orders_kept t (out _ (by decide))).1
  have places' := places.apart t fun q hq => out q (sub hq)
  have stands' := stands.apart t (out _ (by decide))
  unfold stopStore
  split
  · rename_i some
    rw [commit'] at some
    refine (queuesFit_iff _).mpr ⟨places', stands', fun _ => ⟨state'.trans (commit some).1, .inr low⟩, fun r => ?_⟩
    have none := (recalls (recalling' ▸ r)).1
    rw [none] at some
    cases some
  · rename_i noCommit
    have noCommit' : u.ts.commit = none := by simpa using noCommit
    split
    · rename_i recalls'
      have completing : v.cp.state = .completing := by
        rcases (recalls (recalling' ▸ recalls')).2 with e | e
        · rw [ready] at e
          cases e
        · exact e.2
      have off := (setRecalling_touches u false).after t (k := l ++ [.recalling]) (List.Subset.refl _)
      have out' : ∀ q ∈ [Part.heatQueue, .orders, .noticesFit], q ∉ l ++ [.recalling] := fun q hq e =>
        (List.mem_append.mp e).elim (out q (sub hq)) fun r => by
          rw [List.mem_singleton.mp r] at hq
          exact absurd hq (by decide)
      exact (completing_deciding h completing off out' noCommit' fun r => absurd r Bool.false_ne_true).endsCheck _ _ _
    · rename_i idle
      exact (queuesFit_iff _).mpr ⟨places', stands', fun c => absurd c noCommit, fun r => absurd r idle⟩

theorem fallOp_fits (h : QueuesFit s) : QueuesFit (fallOp s) := by
  have fallen : QueuesFit (s.modSup fun u => { u with level := .belowOp }) := modSup_fits h
  unfold fallOp
  split
  · dsimp only
    split
    · rename_i ready
      have low := (postHaltCause_touches _ .supply).after ((cutFrame_touches _).after ((lastOffNow_touches _).after
        (setHub_touches (s.modSup fun u => { u with level := .belowOp }) .supplyLow) (k := [.hub, .links, .boards]))
        (k := [.hub, .links, .boards, .emitted, .delivered, .mains, .frames]))
        (k := [.hub, .links, .boards, .emitted, .delivered, .mains, .frames, .posts])
      exact stopStore_fits fallen ready low rfl
    · rename_i recalling
      obtain ⟨places, stands, commit, -⟩ := (queuesFit_iff _).mp fallen
      refine (queuesFit_iff _).mpr ⟨places, stands, fun c => ?_, fun r => absurd r Bool.false_ne_true⟩
      have hub : s.sup.hub = .ready ∨ s.sup.hub = .supplyLow := (commit c).2
      rw [recalling] at hub
      rcases hub with e | e <;> cases e
    · exact fallen
    · exact fallen
  · exact h

end Supply

/-! ### Every command -/

theorem action_fits (i : Instr) {s : State} (h : QueuesFit s) : QueuesFit (action i s) := by
  have heard (t : Time) : QueuesFit (hearCell s t) := QueuesFit.apart h (hearCell_touches s t)
  have blocks (v : State) : QueuesFit (resetBlocks v) := queuesFit_reset rfl rfl rfl
  cases i
  case supplyRiseAboveVDig =>
    simp only [action, riseDig]
    split
    · exact modSup_fits (blocks s)
    · exact h
  case supplyFallBelowVDig =>
    simp only [action, loseAll]
    split
    · exact h
    · exact queuesFit_reset rfl rfl rfl
  case supplyRiseAboveVOp => exact riseOp_fits h
  case supplyFallBelowVOp => exact fallOp_fits h
  case resetLineAssertion =>
    simp only [action, assertReset]
    split
    · exact blocks _
    · exact modSup_fits h
  case resetLineRelease =>
    simp only [action]
    split
    · exact modSup_fits h
    · exact tryRecall_fits (modSup_fits h)
  case resetHub t tag => exact tryRecall_fits (blocks _)
  case recallComplete =>
    simp only [action]
    split
    · rename_i recalling; exact completeRecall_fits h recalling
    · exact h
  case commitRowWritten => exact rowWritten_fits h
  case identifyHub t tag => exact takeOrder_fits h t tag 1 fun g _ => g.1.replies _
  case setPace t tag w d => exact takeOrder_fits h t tag 3 fun g _ => (g.modCp (order := Option.isSome_map)).1.replies _
  case bookNotices t tag m => exact takeOrder_fits h t tag 4 fun g _ => g.modCp.1.endsGood
  case fetchSense t tag => exact takeOrder_fits h t tag 5 fun g _ => g.modCp.1.replies _
  case startHob t tag => exact takeOrder_fits h t tag 6 fun g _ => judgeStart_fits g
  case stopHob t tag => exact takeOrder_fits h t tag 7 fun g _ => judgeStop_fits g
  case clearFault t tag =>
    change QueuesFit (takeOrder s t tag 8 fun s => endGood (Machine.clearFault s))
    refine takeOrder_fits h t tag 8 fun {v} g _ => ?_
    have cleared : Deciding (clearFault v) := g.1.apart (clearFault_touches v)
    exact cleared.endsGood
  case readPan t tag slot => exact takeOrder_fits h t tag 9 fun g _ => judgeReadPan_fits g slot
  case readCoil t tag coil => exact takeOrder_fits h t tag 10 fun g _ => judgeReadCoil_fits g coil
  case readFault t tag => exact takeOrder_fits h t tag 11 fun g _ => openReply_fits g _
  case loadProgram t tag handle count => exact takeOrder_fits h t tag 12 fun g _ => judgeLoad_fits g handle count
  case runProgram t tag handle => exact takeOrder_fits h t tag 13 fun g _ => judgeRun_fits g handle
  case writeTable t tag table start count => exact takeOrder_fits h t tag 14 fun g _ => judgeWrite_fits g table start count
  case readTable t tag table start count => exact takeOrder_fits h t tag 15 fun g _ => judgeRead_fits g table start count
  case commitTables t tag => exact takeOrder_fits h t tag 16 fun g ready => judgeCommit_fits g (ready (by decide))
  case recallTables t tag => exact takeOrder_fits h t tag 17 fun g ready => judgeRecall_fits g (ready (by decide))
  case serviceEnter t tag strap => exact takeOrder_fits (modSup_fits h) t tag 18 fun g _ => judgeEnter_fits g
  case serviceExit t tag => exact takeOrder_fits h t tag 19 fun g _ => judgeExit_fits g
  case disableCoil t tag coil => exact takeOrder_fits h t tag 20 fun g _ => judgeCoilOrder_fits g coil _ (fun _ => rfl) fun _ => rfl
  case enableCoil t tag coil => exact takeOrder_fits h t tag 21 fun g _ => judgeCoilOrder_fits g coil _ (fun _ => rfl) fun _ => rfl
  case setDerate t tag board value => exact takeOrder_fits h t tag 22 fun g _ => judgeDerate_fits g board value
  case illegalOrder t tag code => exact takeOrder_fits h t tag code.toNat fun g _ => g.1.endsCheck _ _ _
  case data t tag p => exact dispatchData_fits (heard t) tag p
  case heat t handle action level => exact dispatchHeat_fits (heard t) handle action level
  case abort t tag => exact dispatchAbort_fits (heard t)
  case setLevel | pause | resume => all_goals exact takeHeadCell_fits h _
  case upstreamTransmit => exact transmitUp_fits h
  all_goals exact QueuesFit.apart h (action_touches _ s) (by simp [footprint])

/-- Settles O56: by the states that an order goes through. -/
theorem queuesFitInEveryStep : Obligations.QueuesFitInEveryStep :=
  fun _ _ h e => step_keeps (I := QueuesFit) (fun _ _ h => h) (fun _ h => QueuesFit.apart h (finishDue_touches _))
    (fun i _ h => action_fits i h) h e

end Sys2Proof.Machine
end

section
/-! How a command is taken: from the front of the queue, with the tails before it finished (logs 1, 3, 4, 32). -/

namespace Sys2Proof.Machine

-- The default arguments `by decide` wait for the kernel: one declaration after the other holds few threads.
set_option Elab.async false

/-! ### Where a command acts -/

/-- On a settled state every command acts at once. -/
theorem exec_settled {s : State} (h : Settled s) (i : Instr) : exec i s = .next (action i s) := by
  rw [exec_eq, if_neg h.1, finishDue_drained h.2, ite_self]

/-- With no tail waiting a command of a pin acts at once, above and below V_dig. -/
theorem exec_drained_pin {s : State} (h : Drained s) {i : Instr} (p : ActsOnPins i = true) : exec i s = .next (action i s) := by
  rw [exec_pin p, runPin_drained h]

/-- Below V_dig a command of a pin acts on the state as it is. -/
theorem exec_below_pin {s : State} (h : s.sup.level = .belowDig) {i : Instr} (p : ActsOnPins i = true) : exec i s = .next (action i s) := by
  rw [exec_pin p, runPin_below h]

/-- Below V_dig no other command changes anything. -/
theorem exec_below {s : State} (h : s.sup.level = .belowDig) {i : Instr} (p : ActsOnPins i = false) : exec i s = .next s := by
  rw [exec_eq, if_pos h, p]
  rfl

/-- Settles O1: by the definition of a step. -/
theorem stepTakesTheFrontCommand : Obligations.StepTakesTheFrontCommand := by
  refine ⟨fun i rest s h => ?_, fun s h => ?_⟩ <;> unfold step <;> rw [h]

/-- Settles O2: no action touches the queue or runs the clock back. -/
theorem everyCommandCompletes : Obligations.EveryCommandCompletes := by
  intro i s
  have acts (v : State) : (action i v).pending = v.pending ∧ v.now ≤ (action i v).now := by
    have pending : Part.pending ∉ footprint i := by cases i <;> simp [footprint]
    have clock : Part.clock ∉ footprint i := by cases i <;> simp [footprint]
    exact ⟨(action_touches i v).kept .pending pending, (action_touches i v).kept .clock clock⟩
  have tails : (finishDue s).pending = s.pending ∧ s.now ≤ (finishDue s).now :=
    ⟨(finishDue_touches s).kept .pending, (finishDue_touches s).kept .clock⟩
  refine ⟨_, exec_eq i s, ?_⟩
  split
  · split
    · exact acts s
    · exact ⟨rfl, le_rfl⟩
  · split
    · exact acts s
    · exact ⟨(acts _).1.trans tails.1, tails.2.trans (acts _).2⟩

/-! ### The tails (log 3) -/

/-- The lists of the tails that wait. -/
def tailLists (s : State) : List PanSlot × List PanSlot × List LegId × List LegId :=
  (s.pt.graceDue, s.hs.stepDue, s.pu.cooldownDue, s.pu.windowDue)

theorem drained_iff (s : State) : Drained s ↔ tailLists s = ([], [], [], []) := by simp [Drained, tailLists]

theorem stepDue_kept {l : List Part} {s u : State} (t : Touches l s u) (a : Part.stepLists ∉ l := by decide) : u.hs.stepDue = s.hs.stepDue :=
  congrArg (fun e : List ProgramStep × List PanSlot × List PanSlot => e.2.1) (t.kept .stepLists a)

theorem dues_kept {l : List Part} {s u : State} (t : Touches l s u) (a : Part.dues ∉ l := by decide) :
    u.pu.cooldownDue = s.pu.cooldownDue ∧ u.pu.windowDue = s.pu.windowDue := Prod.mk.inj (t.kept .dues a)

theorem expireGrace_lists (s : State) :
    tailLists (expireGrace s) = (s.pt.graceDue.tail, s.hs.stepDue, s.pu.cooldownDue, s.pu.windowDue) := by
  have t := expireGrace_touches s
  have graces : (expireGrace s).pt.graceDue = s.pt.graceDue.tail := by
    unfold expireGrace
    split
    · rename_i none; rw [none]; rfl
    · rename_i p rest due
      rw [due]
      split
      · exact ((serveOrphans_touches _).after (retire_touches _ p .grace) (k := trackerParts)).kept .graceDue
      · rfl
  obtain ⟨cooldowns, windows⟩ := dues_kept t
  rw [tailLists, graces, stepDue_kept t, cooldowns, windows]

theorem expireStep_lists (s : State) :
    tailLists (expireStep s) = (s.pt.graceDue, s.hs.stepDue.tail, s.pu.cooldownDue, s.pu.windowDue) := by
  have t := expireStep_touches s
  have steps : (expireStep s).hs.stepDue = s.hs.stepDue.tail := by
    have post (v : State) : (postStepChanges v).hs.stepDue = v.hs.stepDue := by
      unfold postStepChanges
      split <;> rfl
    unfold expireStep
    split
    · rename_i none; rw [none]; rfl
    · rename_i p rest due
      rw [due, post, List.tail_cons]
      unfold endDueStep
      split
      · exact stepDue_kept (endStep_touches (s.modHs fun l => { l with stepDue := rest }) p)
      · rfl
  obtain ⟨cooldowns, windows⟩ := dues_kept t
  have graces : (expireStep s).pt.graceDue = s.pt.graceDue := t.kept .graceDue
  rw [tailLists, graces, steps, cooldowns, windows]

theorem expireCooldown_lists (s : State) :
    tailLists (expireCooldown s) = (s.pt.graceDue, s.hs.stepDue, s.pu.cooldownDue.tail, s.pu.windowDue) := by
  have t := expireCooldown_touches s
  have graces : (expireCooldown s).pt.graceDue = s.pt.graceDue := t.kept .graceDue
  have dues : (expireCooldown s).pu.cooldownDue = s.pu.cooldownDue.tail ∧ (expireCooldown s).pu.windowDue = s.pu.windowDue := by
    unfold expireCooldown
    split
    · rename_i none; rw [none]; exact ⟨rfl, rfl⟩
    · rename_i l rest due
      rw [due]
      split
      · exact dues_kept (changeLeg_touches (s.modPu fun pu => { pu with cooldownDue := rest }) l _)
      · exact ⟨rfl, rfl⟩
  rw [tailLists, graces, stepDue_kept t, dues.1, dues.2]

theorem expireWindow_lists (s : State) :
    tailLists (expireWindow s) = (s.pt.graceDue, s.hs.stepDue, s.pu.cooldownDue, s.pu.windowDue.tail) := by
  unfold expireWindow
  split
  · rename_i none; rw [tailLists, none]; rfl
  · rename_i l rest due; rw [due]; rfl

/-- A tail is emptied by as many steps as it is long. -/
theorem repeatTail_lists {f : State → State} {g : List PanSlot × List PanSlot × List LegId × List LegId →
      List PanSlot × List PanSlot × List LegId × List LegId} (h : ∀ v, tailLists (f v) = g (tailLists v)) (n : Nat) (s : State) :
    tailLists (repeatTail f n s) = g^[n] (tailLists s) := by
  induction n generalizing s with
  | zero => rfl
  | succ n ih => rw [repeatTail, ih, h]; rfl

theorem iterate_tail {α : Type} (l : List α) : List.tail^[l.length] l = [] := by
  induction l with
  | nil => rfl
  | cons a l ih => exact ih

theorem graces_finished (s : State) :
    tailLists (repeatTail expireGrace s.pt.graceDue.length s) = ([], s.hs.stepDue, s.pu.cooldownDue, s.pu.windowDue) := by
  rw [repeatTail_lists (g := Prod.map List.tail id) expireGrace_lists]
  simp [Prod.map_iterate, tailLists, iterate_tail]

theorem steps_finished (s : State) :
    tailLists (repeatTail expireStep s.hs.stepDue.length s) = (s.pt.graceDue, [], s.pu.cooldownDue, s.pu.windowDue) := by
  rw [repeatTail_lists (g := Prod.map id (Prod.map List.tail id)) expireStep_lists]
  simp [Prod.map_iterate, tailLists, iterate_tail]

theorem cooldowns_finished (s : State) :
    tailLists (repeatTail expireCooldown s.pu.cooldownDue.length s) = (s.pt.graceDue, s.hs.stepDue, [], s.pu.windowDue) := by
  rw [repeatTail_lists (g := Prod.map id (Prod.map id (Prod.map List.tail id))) expireCooldown_lists]
  simp [Prod.map_iterate, tailLists, iterate_tail]

theorem windows_finished (s : State) :
    tailLists (repeatTail expireWindow s.pu.windowDue.length s) = (s.pt.graceDue, s.hs.stepDue, s.pu.cooldownDue, []) := by
  rw [repeatTail_lists (g := Prod.map id (Prod.map id (Prod.map id List.tail))) expireWindow_lists]
  simp [Prod.map_iterate, tailLists, iterate_tail]

/-- Log 3: the tails are finished one after another. -/
theorem finishDue_lists (s : State) : tailLists (finishDue s) = ([], [], [], []) := by
  unfold finishDue
  dsimp only
  have graces := graces_finished s
  generalize repeatTail expireGrace s.pt.graceDue.length s = a at graces
  have steps := steps_finished a
  generalize repeatTail expireStep a.hs.stepDue.length a = b at steps
  have cooldowns := cooldowns_finished b
  generalize repeatTail expireCooldown b.pu.cooldownDue.length b = c at cooldowns
  rw [windows_finished]
  simp_all [tailLists]

theorem finishDue_settled {s : State} (h : s.sup.level ≠ .belowDig) : Settled (finishDue s) := by
  have pins : ((finishDue s).sup.level, (finishDue s).sup.resetLine, (finishDue s).sup.strap, (finishDue s).sup.seenReleased) =
      (s.sup.level, s.sup.resetLine, s.sup.strap, s.sup.seenReleased) := (finishDue_touches s).kept .pins
  refine ⟨?_, (drained_iff _).mpr (finishDue_lists s)⟩
  rwa [(Prod.mk.inj pins).1]

/-! ### One step of a tail -/

theorem length_of_ne_nil {α : Type} {l : List α} (h : l ≠ []) : l.length = l.tail.length + 1 := by
  cases l with
  | nil => exact absurd rfl h
  | cons a l => rfl

/-- The lists after a step of a tail, one by one. -/
theorem tailLists_eq {s : State} {a b : List PanSlot} {c d : List LegId} (h : tailLists s = (a, b, c, d)) :
    s.pt.graceDue = a ∧ s.hs.stepDue = b ∧ s.pu.cooldownDue = c ∧ s.pu.windowDue = d := by
  simpa [tailLists] using h

theorem finishDue_expireGrace {s : State} (h : s.pt.graceDue ≠ []) : finishDue s = finishDue (expireGrace s) := by
  obtain ⟨graces, -, -, -⟩ := tailLists_eq (expireGrace_lists s)
  unfold finishDue
  rw [graces, length_of_ne_nil h]
  rfl

theorem finishDue_expireStep {s : State} (a : s.pt.graceDue = []) (h : s.hs.stepDue ≠ []) : finishDue s = finishDue (expireStep s) := by
  obtain ⟨graces, steps, -, -⟩ := tailLists_eq (expireStep_lists s)
  unfold finishDue
  rw [graces, a]
  dsimp only [List.length_nil, repeatTail]
  rw [steps, length_of_ne_nil h]
  rfl

theorem finishDue_expireCooldown {s : State} (a : s.pt.graceDue = []) (b : s.hs.stepDue = []) (h : s.pu.cooldownDue ≠ []) :
    finishDue s = finishDue (expireCooldown s) := by
  obtain ⟨graces, steps, cooldowns, -⟩ := tailLists_eq (expireCooldown_lists s)
  unfold finishDue
  rw [graces, a]
  dsimp only [List.length_nil, repeatTail]
  rw [steps, b]
  dsimp only [List.length_nil, repeatTail]
  rw [cooldowns, length_of_ne_nil h]
  rfl

theorem finishDue_expireWindow {s : State} (a : s.pt.graceDue = []) (b : s.hs.stepDue = []) (c : s.pu.cooldownDue = [])
    (h : s.pu.windowDue ≠ []) : finishDue s = finishDue (expireWindow s) := by
  obtain ⟨graces, steps, cooldowns, windows⟩ := tailLists_eq (expireWindow_lists s)
  unfold finishDue
  rw [graces, a]
  dsimp only [List.length_nil, repeatTail]
  rw [steps, b]
  dsimp only [List.length_nil, repeatTail]
  rw [cooldowns, c]
  dsimp only [List.length_nil, repeatTail]
  rw [windows, length_of_ne_nil h]
  rfl

/-- Settles O3: the tails empty their lists one after another, and each tail command takes the next step of them. -/
theorem tailsFinishFirstAndNothingActsBelowVDig : Obligations.TailsFinishFirstAndNothingActsBelowVDig := by
  refine ⟨fun i s above t => ?_, fun s h => finishDue_drained h, fun i s u above tail e => ?_, fun i s below p => exec_below below p⟩
  · have settled := finishDue_settled above
    refine ⟨settled, ?_⟩
    rw [exec_settled settled, exec_eq, if_neg above, t]
    rfl
  · have took {f : State → State} (j : Instr) (t : TakesTail j = true) (act : action j s = f s) (step : finishDue s = finishDue (f s))
        (e : exec j s = .next u) : finishDue s = finishDue u := by
      rw [exec_tail t, runTail_above above, act] at e
      cases e
      exact step
    rcases tail with ⟨rfl, h⟩ | ⟨rfl, a, h⟩ | ⟨rfl, a, b, h⟩ | ⟨rfl, a, b, c, h⟩
    · exact took .graceExpiry rfl rfl (finishDue_expireGrace h) e
    · exact took .stepEnd rfl rfl (finishDue_expireStep a h) e
    · exact took .cooldownExpiry rfl rfl (finishDue_expireCooldown a b h) e
    · exact took .retryWindowClose rfl rfl (finishDue_expireWindow a b c h) e

end Sys2Proof.Machine
end

section
/-! Reset and supply: the reset values, the resets, and the supply across V_dig (R176, R177). -/

namespace Sys2Proof.Machine

-- The default arguments `by decide` wait for the kernel: one declaration after the other holds few threads.
set_option Elab.async false

/-- Settles O4: each item of the reset state is read off. -/
theorem resetValuesOfEveryBlock : Obligations.ResetValuesOfEveryBlock := by
  refine ⟨fun k => ?_, fun l => ?_, fun p => ?_, ⟨rfl, rfl, rfl, rfl⟩, fun b => ?_, rfl, rfl, ⟨rfl, rfl, rfl⟩, rfl, ⟨rfl, rfl, rfl, rfl⟩, rfl, rfl⟩
  · have coil : State.reset.coils[k] = .reset := by simp [State.reset]
    rw [coil]
    decide
  · have leg : State.reset.pu.legs[l] = .reset := by simp [State.reset, Protection.reset]
    have out : State.reset.legOut[l] = ⟨false, false⟩ := by simp [State.reset]
    rw [outOfService, leg, out]
    exact ⟨rfl, rfl⟩
  · have pan : State.reset.pans[p] = .reset := by simp [State.reset]
    rw [pan]
    rfl
  · have board : State.reset.boards[b] = .reset := by simp [State.reset]
    have derating : State.reset.ba.derating[b] = { manual := none, bucket := 0 } := by
      simp [State.reset, Budget.reset]
    rw [board, derating]
    exact ⟨rfl, rfl, rfl, rfl, rfl, rfl, rfl, rfl, rfl, rfl, rfl, rfl, rfl, rfl⟩

/-- Settles O5: by the supply, the reset line and the seen-released flag. -/
theorem resetsLeaveTheStoreOnly : Obligations.ResetsLeaveTheStoreOnly := by
  refine ⟨fun t tag s h => ?_, fun s h seen => ?_, fun s h seen => ?_, fun s h => ?_, fun s below => ?_⟩
  · rw [exec_settled h]
    change Host.Outcome.next (tryRecall (resetBlocks (s.arrive t))) = _
    unfold tryRecall
    by_cases c : s.sup.level = .aboveOp ∧ s.sup.resetLine = false
    · rw [if_pos ⟨rfl, c⟩, if_pos c, decide_eq_true c]
      rfl
    · rw [if_neg fun e => c e.2, if_neg c, decide_eq_false c]
      rfl
  · rw [exec_drained_pin h rfl]
    change Host.Outcome.next (assertReset s) = _
    rw [assertReset, if_pos seen]
    rfl
  · rw [exec_drained_pin h rfl]
    change Host.Outcome.next (assertReset s) = _
    rw [assertReset, if_neg (by rw [seen]; exact Bool.false_ne_true)]
    rfl
  · rw [exec_settled h]
    simp only [action, if_neg h.1, releaseReset, tryRecall]
    by_cases c : s.sup.hub = .dormant ∧ s.sup.level = .aboveOp
    · rw [if_pos ⟨c.1, c.2, rfl⟩, if_pos c, decide_eq_true c, Bool.or_true]
      rfl
    · rw [if_neg fun e => c ⟨e.1, e.2.1⟩, if_neg c, decide_eq_false c, Bool.or_false]
      rfl
  · rw [exec_below_pin below rfl]
    simp only [action, if_pos below]
    rfl

/-- Settles O6: by the level before. -/
theorem supplyAcrossVDig : Obligations.SupplyAcrossVDig := by
  refine ⟨fun s above h => ?_, fun s below => ?_, fun s below noCommit => ?_, fun s h => ?_⟩
  · rw [exec_drained_pin h rfl]
    change Host.Outcome.next (loseAll s) = _
    rw [loseAll, if_neg above]
    rfl
  · rw [exec_below_pin below rfl]
    change Host.Outcome.next (loseAll s) = _
    rw [loseAll, if_pos below]
  · rw [exec_below_pin below rfl]
    change Host.Outcome.next (riseDig s) = _
    have kept : s.ts.finishRow = s.ts := by rw [TableStore.finishRow, noCommit]
    rw [riseDig, if_pos below, resetBlocks, storeAfterReset, kept]
    rfl
  · rw [exec_settled h]
    change Host.Outcome.next (riseDig s) = _
    rw [riseDig, if_neg h.1]

/-- Settles O55: a reset satisfies each invariant. -/
theorem invariantsHoldAtReset : Obligations.InvariantsHoldAtReset :=
  ⟨queuesFit_reset rfl rfl rfl, requestsHeat_reset rfl rfl, runningOnly_reset rfl rfl rfl rfl, rfl, membersAgree_reset rfl rfl rfl⟩

end Sys2Proof.Machine
end

section
/-! The orders: turned away, judged and ended (R58, R60, R139, R156, R157, R161, R164, R169, R172, R174). -/

namespace Sys2Proof.Machine

-- The default arguments `by decide` wait for the kernel: one declaration after the other holds few threads.
set_option Elab.async false

/-! ### An order that is taken, and one that is not -/

/-- R156: a free order is judged in the state `taken`. -/
theorem exec_order {s : State} (h : OrderFree s) (i : Instr) (t : Time) (tag : Byte) (code : Nat) (judge : State → State)
    (a : action i s = takeOrder s t tag code judge) : exec i s = .next (judge (taken s t tag code)) := by
  rw [exec_settled h.1, a, takeOrder_free h]

theorem endCheck_taken (s : State) (t : Time) (tag : Byte) (code : Nat) (key : SenseKey) (field detail : Nat) :
    endCheck (taken s t tag code) key field detail = endedCheck (taken s t tag code) tag key field detail :=
  endCheck_eq (o := ⟨code, tag, 0, 0, .plain⟩) rfl key field detail

theorem endGood_taken (s : State) (t : Time) (tag : Byte) (code : Nat) : endGood (taken s t tag code) = endedGood (taken s t tag code) tag :=
  endGood_eq (o := ⟨code, tag, 0, 0, .plain⟩) rfl

/-- The order that ends is that of an earlier state. -/
theorem endCheck_kept {s u : State} {o : Order} (h : s.cp.order = some o) (key : SenseKey) (field detail : Nat)
    (e : u.cp.order = s.cp.order := by rfl) : endCheck u key field detail = endedCheck u o.tag key field detail := endCheck_eq (e.trans h) key field detail

theorem endGood_kept {s u : State} {o : Order} (h : s.cp.order = some o) (e : u.cp.order = s.cp.order := by rfl) : endGood u = endedGood u o.tag :=
  endGood_eq (e.trans h)

theorem takeOrder_notReady {s : State} {t : Time} {tag : Byte} {code : Nat} (h : s.sup.hub ≠ .ready) (c : code ≠ 1) (judge : State → State) :
    takeOrder s t tag code judge = answered (heard s t) tag .notReady := by
  rw [takeOrder, if_pos ⟨h, c⟩]
  rfl

theorem takeOrder_busy {s : State} {t : Time} {tag : Byte} {code : Nat} (h : s.sup.hub = .ready ∨ code = 1) (o : s.cp.order.isSome = true)
    (judge : State → State) : takeOrder s t tag code judge = answered (heard s t) tag .busy := by
  have taken : ¬ ((hearCell s t).sup.hub ≠ .ready ∧ code ≠ 1) := fun c => h.elim c.1 c.2
  have busy : (hearCell s t).cp.order.isSome = true := o
  rw [takeOrder, if_neg taken, if_pos busy]
  rfl

/-- An ORDER cell other than RESET HUB acts by `takeOrder`. -/
theorem action_order {i : Instr} {t : Time} {tag : Byte} {code : Nat} (h : orderParts i = some (t, tag, code)) :
    ∃ judge, ∀ s, action i s = takeOrder (strapSeen i s) t tag code judge := by
  cases i <;> cases h <;> exact ⟨_, fun _ => by simp only [action]; rfl⟩

/-- Settles O14: by the two answers of R156 and the judgement of an undefined code. -/
theorem ordersTurnedAwayOrIllegal : Obligations.OrdersTurnedAwayOrIllegal := by
  refine ⟨fun i t tag code s h settled => ?_, fun s t tag code free => ?_⟩
  · obtain ⟨judge, act⟩ := action_order h
    have sup : (strapSeen i s).sup.hub = s.sup.hub := by unfold strapSeen; split <;> rfl
    have cp : (strapSeen i s).cp = s.cp := by unfold strapSeen; split <;> rfl
    rw [exec_settled settled, act]
    refine ⟨fun notReady c => ?_, fun ready busy => ?_⟩
    · rw [takeOrder_notReady (by rwa [sup]) c]
    · rw [takeOrder_busy (by rwa [sup]) (by rwa [cp])]
  · rw [exec_order free (.illegalOrder t tag code) t tag code.toNat (fun s => endCheck s .illegalOrder 0 0) rfl]
    exact congrArg _ (endCheck_taken ..)

/-- Settles O17: by the two tests of R164. -/
theorem noticesAreBookedAndQueued : Obligations.NoticesAreBookedAndQueued := by
  refine ⟨fun s kind subject a b => ⟨fun off => ?_, fun on room => ?_, fun on full => ?_⟩, fun s t tag mask free => ?_⟩
  · rw [queueNotice, booked, off]
    rfl
  · rw [queueNotice, booked, if_pos on, if_pos room]
    rfl
  · rw [queueNotice, booked, if_pos on, if_neg (by omega)]
    rfl
  · rw [exec_order free (.bookNotices t tag mask) t tag 4 (fun s => judgeBook s mask) rfl]
    rfl

/-! ### The pace (R161) -/

theorem agreedWindow_eq (window : Byte) : agreedWindow window = if window.toNat = 0 then 1 else min window.toNat 4 := by
  unfold agreedWindow
  split <;> omega

theorem agreedTimeout_eq (timeout : BitVec 16) :
    agreedTimeout timeout = (if timeout.toNat < 50 then 50 else if 2000 < timeout.toNat then 2000 else timeout.toNat) / 10 * 10 := by
  have clamped : min (max timeout.toNat 50) 2000 = if timeout.toNat < 50 then 50 else if 2000 < timeout.toNat then 2000 else timeout.toNat := by
    split_ifs <;> omega
  rw [agreedTimeout, clamped]

/-- Settles O16: the proposal is clamped as R161 says, and the transmitter sends the reply, then the status. -/
theorem setPaceAgrees : Obligations.SetPaceAgrees := by
  refine ⟨fun s t tag window timeout free => ?_, fun s o p settled statuses credit order data => ?_,
    fun s c rest o w d settled statuses own good order pace => ?_⟩
  · rw [exec_order free (.setPace t tag window timeout) t tag 3 (fun s => judgePace s window timeout) rfl]
    dsimp only
    rw [← agreedWindow_eq, ← agreedTimeout_eq]
    rfl
  · rw [exec_settled settled]
    simp only [action, transmitUp, statuses, credit, data, ne_eq, not_true, if_false, sendReply, if_true, orderTag, order]
    exact congrArg _ (endGood_eq (s := { s with upLine := some (dataCell o.tag p), cp := { s.cp with dataIn := [] } }) order)
  · rw [exec_settled settled]
    obtain ⟨code, tag, expected, taken, job⟩ := o
    cases pace
    simp only [action, transmitUp, statuses, own, good, if_true, ControllerPort.closeOrder, ControllerPort.takePace, sendUp, State.modCp, order]

/-! ### Programs and tables -/

@[simp] theorem taken_pending (s : State) (t : Time) (tag : Byte) (code : Nat) : (taken s t tag code).pending = s.pending := rfl
@[simp] theorem taken_draws (s : State) (t : Time) (tag : Byte) (code : Nat) : (taken s t tag code).draws = s.draws := rfl
@[simp] theorem taken_upLine (s : State) (t : Time) (tag : Byte) (code : Nat) : (taken s t tag code).upLine = s.upLine := rfl
@[simp] theorem taken_boardLines (s : State) (t : Time) (tag : Byte) (code : Nat) : (taken s t tag code).boardLines = s.boardLines := rfl
@[simp] theorem taken_sup (s : State) (t : Time) (tag : Byte) (code : Nat) : (taken s t tag code).sup = s.sup := rfl
@[simp] theorem taken_ts (s : State) (t : Time) (tag : Byte) (code : Nat) : (taken s t tag code).ts = s.ts := rfl
@[simp] theorem taken_coils (s : State) (t : Time) (tag : Byte) (code : Nat) : (taken s t tag code).coils = s.coils := rfl
@[simp] theorem taken_legOut (s : State) (t : Time) (tag : Byte) (code : Nat) : (taken s t tag code).legOut = s.legOut := rfl
@[simp] theorem taken_pans (s : State) (t : Time) (tag : Byte) (code : Nat) : (taken s t tag code).pans = s.pans := rfl
@[simp] theorem taken_pt (s : State) (t : Time) (tag : Byte) (code : Nat) : (taken s t tag code).pt = s.pt := rfl
@[simp] theorem taken_hs (s : State) (t : Time) (tag : Byte) (code : Nat) : (taken s t tag code).hs = s.hs := rfl
@[simp] theorem taken_ba (s : State) (t : Time) (tag : Byte) (code : Nat) : (taken s t tag code).ba = s.ba := rfl
@[simp] theorem taken_ss (s : State) (t : Time) (tag : Byte) (code : Nat) : (taken s t tag code).ss = s.ss := rfl
@[simp] theorem taken_fe (s : State) (t : Time) (tag : Byte) (code : Nat) : (taken s t tag code).fe = s.fe := rfl
@[simp] theorem taken_pu (s : State) (t : Time) (tag : Byte) (code : Nat) : (taken s t tag code).pu = s.pu := rfl
@[simp] theorem taken_boards (s : State) (t : Time) (tag : Byte) (code : Nat) : (taken s t tag code).boards = s.boards := rfl
@[simp] theorem taken_posts (s : State) (t : Time) (tag : Byte) (code : Nat) : (taken s t tag code).posts = s.posts := rfl
@[simp] theorem handleCurrent_taken (s : State) (t : Time) (tag : Byte) (code : Nat) (handle : Byte) :
    handleCurrent (taken s t tag code) handle = handleCurrent s handle := rfl

/-- R61: the pan of an accepted RUN PROGRAM begins step 0. -/
theorem programBegun (s : State) (p : PanSlot) (step : ProgramStep) :
    moveToHead (beginStep (s.modHeat p fun h => { h with state := .program, prior := none }) p 0 step) p =
      { s with
        pans := s.pans.set p
          { s.pans[p] with
            heat := { s.pans[p].heat with
                      state := .program, prior := none, position := 0, level := step.level, remaining := step.duration
                      timed := decide (step.duration ≠ 0) } }
        hs := { s.hs with requests := p :: s.hs.requests.filter (· ≠ p) } } := by
  simp [moveToHead, beginStep, State.modHeat, State.modPan, State.modHs]

/-- Settles O20: the rows of R58 and R60 one after another. -/
theorem programOrdersAreJudged : Obligations.ProgramOrdersAreJudged := by
  refine ⟨fun s t tag handle count free => ?_, fun s t tag handle free => ?_⟩
  · rw [exec_order free (.loadProgram t tag handle count) t tag 12 (fun s => judgeLoad s handle count) rfl]
    simp only [judgeLoad, taken_pans, handleCurrent_taken, endCheck_taken]
    refine ⟨fun wrong => by rw [if_pos wrong], fun one eight => ?_, fun one eight => ?_, fun one eight => ?_⟩
    all_goals rw [if_neg (by omega)]
    · intro stale
      rw [if_pos stale]
    · intro current down
      rw [if_neg (ne_false_of_eq_true current), if_pos down]
    · intro current stands
      rw [if_neg (ne_false_of_eq_true current), if_neg (ne_false_of_eq_true stands)]
      exact ⟨fun runs => by rw [if_pos runs], fun idle held => by rw [if_neg fun c => c.elim idle held]; rfl⟩
  · rw [exec_order free (.runProgram t tag handle) t tag 13 (fun s => judgeRun s handle) rfl]
    simp only [judgeRun, taken_pans, taken_fe, handleCurrent_taken, endCheck_taken, ne_eq]
    refine ⟨fun stale => by rw [if_pos stale], fun current none => ?_, fun step rest current program => ?_⟩
    all_goals rw [if_neg (ne_false_of_eq_true current)]
    · simp only [none]
    · simp only [program]
      refine ⟨fun off => by rw [if_pos off], fun on down => ?_, fun on stands wrong => ?_, fun on stands suits => ?_⟩
      all_goals rw [if_neg (not_not_intro on)]
      · rw [if_pos down]
      all_goals rw [if_neg (ne_false_of_eq_true stands)]
      · rw [if_pos wrong]
      · rw [if_neg suits, programBegun, ← program]
        rfl

/-- Settles O21: the rows of R169 one after another. -/
theorem writeTableIsJudged : Obligations.WriteTableIsJudged := by
  intro s t tag table start count free
  rw [exec_order free (.writeTable t tag table start count) t tag 14 (fun s => judgeWrite s table start count) rfl]
  dsimp only
  refine ⟨fun none => ?_, fun h => ?_⟩
  · have unknown : tableOf table = Option.none := dif_neg (by omega)
    rw [judgeWrite, unknown]
    exact congrArg _ (endCheck_taken ..)
  · have last : #v[3, 63, 63, 2, 15, 31, 17][table.toNat] = lastEntry ⟨table.toNat, h⟩ := by
      generalize table.toNat = n at h
      interval_cases n <;> rfl
    have first : (if table.toNat = 4 then 1 else 0) = firstWritable ⟨table.toNat, h⟩ := by
      generalize table.toNat = n at h
      interval_cases n <;> rfl
    have entries : #v[4, 64, 64, 3, 15, 32, 18][table.toNat] = writableCount ⟨table.toNat, h⟩ := by
      generalize table.toNat = n at h
      interval_cases n <;> rfl
    have known : tableOf table = some ⟨table.toNat, h⟩ := dif_pos h
    rw [last, first, entries]
    simp only [judgeWrite, known, endCheck_taken, taken_ts, structural, decide_eq_true_eq]
    refine ⟨fun wrong => by rw [if_pos wrong], fun low high => ?_, fun low high => ?_, fun low high => ?_⟩
    all_goals rw [if_neg (by omega)]
    · intro wrong
      rw [if_pos wrong]
    all_goals
      intro one most
      rw [if_neg (by omega)]
    · intro struct off
      rw [if_pos ⟨struct, off⟩]
    · intro allowed
      rw [if_neg fun c => allowed.elim (fun g => absurd c.1 (by omega)) (ne_true_of_eq_false c.2)]
      rfl

end Sys2Proof.Machine
end

section
/-! CLEAR FAULT, the commit, and the orders on a coil's flags and a board's derate (R18, R85, R139, R174). -/

namespace Sys2Proof.Machine

-- The default arguments `by decide` wait for the kernel: one declaration after the other holds few threads.
set_option Elab.async false

/-! ### CLEAR FAULT (R139) -/

/-- A locked leg that becomes READY. -/
def unlocks (s : State) (l : LegId) : Bool := s.pu.legs[l].state == .locked && s.boards[legBoard l].state == .online

/-- R139, step 3, on one leg record. -/
def unlockedLeg (online : Bool) (r : LegRecord) : LegRecord :=
  { r with state := if r.state = .locked then (if online then .ready else .offline) else r.state }

theorem unlockLeg_eq (s : State) (l : LegId) :
    unlockLeg s l =
      { s with
        pu := { s.pu with legs := s.pu.legs.set l (unlockedLeg (s.boards[legBoard l].state == .online) s.pu.legs[l]) }
        posts := { s.posts with
                   cmClaims := s.posts.cmClaims ++ (if unlocks s l then [.legIn l] else [])
                   triggers := s.posts.triggers ++ (if unlocks s l then [.legState l] else []) } } := by
  unfold unlockLeg unlockedLeg unlocks
  by_cases locked : s.pu.legs[l].state = .locked
  · by_cases online : s.boards[legBoard l].state = .online
    · simp [locked, online, changeLeg, postTrigger, postCoilClaim, State.modLeg, State.modPosts, -Fin.getElem_fin]
    · simp [locked, online, changeLeg, State.modLeg, -Fin.getElem_fin]
  · have same : s.pu.legs.set l s.pu.legs[l] = s.pu.legs := Laws.set_same _ _
    simp [locked, same, -Fin.getElem_fin]

theorem unlocks_other {s : State} {l m : LegId} (h : m ≠ l) : unlocks (unlockLeg s l) m = unlocks s m := by
  simp [unlockLeg_eq, unlocks, Fin.val_ne_of_ne h.symm]

/-- R139, step 3: the locked legs one after another, each once. -/
theorem unlockLegs_eq (ls : List LegId) (distinct : ls.Nodup) (s : State) :
    ls.foldl unlockLeg s =
      { s with
        pu := { s.pu with
                legs := ls.foldl (fun v (l : LegId) => v.set l (unlockedLeg (s.boards[legBoard l].state == .online) v[l])) s.pu.legs }
        posts := { s.posts with
                   cmClaims := s.posts.cmClaims ++ (ls.filter (unlocks s)).map .legIn
                   triggers := s.posts.triggers ++ (ls.filter (unlocks s)).map .legState } } := by
  induction ls generalizing s with
  | nil => simp
  | cons l ls ih =>
    obtain ⟨fresh, distinct⟩ := List.nodup_cons.mp distinct
    have same : ls.filter (unlocks (unlockLeg s l)) = ls.filter (unlocks s) :=
      List.filter_congr fun m mem => unlocks_other fun e => fresh (e ▸ mem)
    rw [List.foldl_cons, ih distinct, same, unlockLeg_eq]
    by_cases u : unlocks s l = true <;> simp [u, List.append_assoc]

/-- Settles O19: the locked legs one after another. -/
theorem clearFaultClears : Obligations.ClearFaultClears := by
  intro s t tag free
  rw [exec_order free (.clearFault t tag) t tag 8 (fun s => endGood (clearFault s)) rfl]
  simp only [clearFault, unlockLegs_eq allLegs (List.nodup_finRange 16)]
  have legs (v : Vector LegRecord 16) (g : LegId → LegRecord → LegRecord) :
      allLegs.foldl (fun v (l : LegId) => v.set l (g l v[l])) v = Vector.ofFn fun l => g l v[l] := Laws.foldl_set_all g v
  rw [legs]
  refine congrArg _ ((endGood_eq (o := ⟨8, tag, 0, 0, .plain⟩) rfl).trans ?_)
  have same (l : LegId) : unlocks ((taken s t tag 8).modPu fun pu =>
      { pu with firstFault := none, traps := 0, legs := Vector.ofFn fun l => clearTrips pu.legs[l] }) l =
      (s.pu.legs[l].state == .locked && s.boards[legBoard l].state == .online) := by
    simp [unlocks, clearTrips, State.modPu]
  simp only [show unlocks _ = _ from funext same]
  simp [postHobClaim, State.modPosts, State.modPu, unlockedLeg, clearTrips]

/-! ### The commit (R174) -/

/-- R174: the rows of a table one after another give it whole. -/
theorem foldl_rows {α : Type} {n : Nat} (get : Tables → Vector α n) (put : Tables → Vector α n → Tables) (getPut : ∀ v a, get (put v a) = a)
    (putPut : ∀ v a b, put (put v a) b = put v b) (putGet : ∀ v, put v (get v) = v) (per rows : Nat)
    (all : ∀ i : Fin n, i.val / per < rows) (work kept : Tables) :
    (List.range rows).foldl (fun v row => put v (mergeRow per row (get work) (get v))) kept = put kept (get work) := by
  have some (m : Nat) : (List.range m).foldl (fun v row => put v (mergeRow per row (get work) (get v))) kept =
      put kept (Vector.ofFn fun i => if i.val / per < m then (get work)[i] else (get kept)[i]) := by
    induction m with
    | zero => simp [putGet]
    | succ m ih =>
      rw [List.range_succ, List.foldl_append, ih, List.foldl_cons, List.foldl_nil, getPut, putPut]
      refine congrArg (put kept) (Vector.ext fun i hi => ?_)
      simp only [mergeRow, Vector.getElem_ofFn, Fin.getElem_fin]
      split_ifs <;> first | rfl | omega
  rw [some]
  simp [all]

/-- Settles O23: the judgement of R174, the next row, and what a row copies. -/
theorem commitWritesTheStore : Obligations.CommitWritesTheStore := by
  refine ⟨⟨fun s t tag free => ?_, fun s settled idle => ?_, fun s table row o settled commit order => ?_⟩, fun work kept table row => ?_,
    fun work kept table => ?_⟩
  · rw [exec_order free (.commitTables t tag) t tag 16 judgeCommit rfl]
    simp only [judgeCommit, taken_ts, endCheck_taken]
    refine ⟨fun service => by rw [if_pos service], fun out invalid => ?_, fun out valid => ?_⟩
    all_goals rw [if_neg (ne_true_of_eq_false out)]
    · rw [if_pos invalid]
    · rw [if_neg (ne_false_of_eq_true valid)]
      rfl
  · rw [exec_settled settled]
    simp only [action, rowWritten, idle]
  · rw [exec_settled settled]
    have finished : s.ts.finishRow = { s.ts with kept := copyRow s.ts.work s.ts.kept table row } := by
      simp only [TableStore.finishRow, commit]
    have rows : #v[1, 16, 32, 3, 8, 2, 3][table] = rowsOf table := by
      match table with
      | 0 | 1 | 2 | 3 | 4 | 5 | 6 => rfl
    simp only [action, rowWritten, commit, TableStore.nextRow, rows]
    refine ⟨fun stops => ?_, fun goes more => ?_, fun goes last next after => ?_, fun goes last six => ?_⟩
    · rw [if_pos stops]
      simp only [State.modTs, finished]
      exact congrArg _ (endCheck_kept order ..)
    all_goals rw [if_neg (ne_true_of_eq_false goes)]
    · simp only [if_pos more, Bool.false_eq_true, if_false, State.modTs, finished]
    · have notSix : table ≠ 6 := fun e => absurd next.isLt (by rw [after, e]; decide)
      have succ : table + 1 = next := Fin.ext (by rw [after, Fin.val_add_one_of_lt' (by omega)])
      simp only [if_neg (Nat.not_lt.mpr last), notSix, Bool.false_eq_true, if_false, State.modTs, finished, succ, TableStore.setMark]
    · subst six
      simp only [if_neg (Nat.not_lt.mpr last), if_true, State.modTs, finished, TableStore.setMark]
      exact congrArg _ (endGood_kept order)
  · dsimp only
    match table with
    | 0 | 1 | 2 | 3 | 4 | 5 | 6 => simp [copyRow, mergeRow, entriesPerRow] <;> exact fun _ => rfl
  · match table with
    | 0 => exact foldl_rows (·.t0) (fun v a => { v with t0 := a }) (fun _ _ => rfl) (fun _ _ _ => rfl) (fun _ => rfl) 4 1 (by omega) work kept
    | 1 => exact foldl_rows (·.t1) (fun v a => { v with t1 := a }) (fun _ _ => rfl) (fun _ _ _ => rfl) (fun _ => rfl) 4 16 (by omega) work kept
    | 2 => exact foldl_rows (·.t2) (fun v a => { v with t2 := a }) (fun _ _ => rfl) (fun _ _ _ => rfl) (fun _ => rfl) 2 32 (by omega) work kept
    | 3 => exact foldl_rows (·.t3) (fun v a => { v with t3 := a }) (fun _ _ => rfl) (fun _ _ _ => rfl) (fun _ => rfl) 1 3 (by omega) work kept
    | 4 => exact foldl_rows (·.t4) (fun v a => { v with t4 := a }) (fun _ _ => rfl) (fun _ _ _ => rfl) (fun _ => rfl) 2 8 (by omega) work kept
    | 5 => exact foldl_rows (·.t5) (fun v a => { v with t5 := a }) (fun _ _ => rfl) (fun _ _ _ => rfl) (fun _ => rfl) 16 2 (by omega) work kept
    | 6 => exact foldl_rows (·.t6) (fun v a => { v with t6 := a }) (fun _ _ => rfl) (fun _ _ _ => rfl) (fun _ => rfl) 8 3 (by omega) work kept

/-! ### The orders on a coil and on a derate (R18, R85) -/

theorem changeFlags_eq (s : State) (k : CoilId) (f : CoilRecord → CoilRecord) :
    changeFlags s k f =
      { s with
        coils := s.coils.set k (f s.coils[k])
        posts := { s.posts with
                   triggers := s.posts.triggers ++
                     (if s.coils[k].occupancy = .member ∧ s.coils[k].available ≠ (f s.coils[k]).available then
                        [.eligibility k s.coils[k].owner] else []) } } := by
  unfold changeFlags
  split
  · rfl
  · rw [List.append_nil]
    rfl

/-- R18: what is done to a coil that is not ABSENT. -/
theorem judgeCoilOrder_eq {s : State} {coil : Byte} {k : CoilId} (h : k.val = coil.toNat) (f : CoilRecord → CoilRecord) :
    judgeCoilOrder s coil f = if s.coils[k].occupancy = .absent then endCheck s .badField 1 0 else endGood (changeFlags s k f) := by
  have lt : coil.toNat < 64 := h ▸ k.isLt
  obtain rfl : k = ⟨coil.toNat, lt⟩ := Fin.ext h
  rw [judgeCoilOrder, dif_pos lt]
  rfl

theorem judgeCoilOrder_unknown {s : State} {coil : Byte} (h : 64 ≤ coil.toNat) (f : CoilRecord → CoilRecord) :
    judgeCoilOrder s coil f = endCheck s .badField 1 0 := dif_neg (by omega)

theorem disabled_available (r : CoilRecord) :
    r.available ≠ CoilRecord.available { r with disabled := true, confirm := 0 } ↔ r.available = true := by
  simp [CoilRecord.available, and_assoc]

theorem enabled_available (r : CoilRecord) :
    r.available ≠ CoilRecord.available { r with disabled := false } ↔ r.disabled = true ∧ r.hot = false ∧ r.unobserved = false := by
  obtain ⟨occupancy, owner, coverage, range, confirm, material, hot, disabled, unobserved, temp, fireMet⟩ := r
  cases hot <;> cases disabled <;> cases unobserved <;> simp [CoilRecord.available]

theorem derate_eq (s : State) (b : BoardId) : derate s b = s.ba.derating[b].manual.getD s.ts.work.t5[s.ba.derating[b].bucket] := by
  unfold derate
  cases s.ba.derating[b].manual <;> rfl

/-- R84: a change of one board's derating is a derating change exactly when that board's derate changes. -/
theorem takeDerating_one {before after : State} {b : BoardId} (h : ∀ c : BoardId, c ≠ b → derate before c = derate after c) :
    takeDerating before after = if derate before b = derate after b then after else recompute after := by
  split
  · next same => exact takeDerating_same fun c => if e : c = b then e ▸ same else h c e
  · next changed => exact takeDerating_changed changed

/-- R85: a board's manual derate is set or cleared. -/
def manualSet (s : State) (b : BoardId) (m : Option Nat) : State :=
  { s with ba := { s.ba with derating := s.ba.derating.set b { s.ba.derating[b] with manual := m } } }

theorem takeDerating_manualSet (s : State) (b : BoardId) (m : Option Nat) :
    takeDerating s (manualSet s b m) =
      if s.ba.derating[b].manual.getD s.ts.work.t5[s.ba.derating[b].bucket] = m.getD s.ts.work.t5[s.ba.derating[b].bucket] then
        manualSet s b m
      else recompute (manualSet s b m) := by
  have others (c : BoardId) (ne : c ≠ b) : derate s c = derate (manualSet s b m) c := by
    simp [derate_eq, manualSet, Fin.val_ne_of_ne ne.symm]
  rw [takeDerating_one others, derate_eq, derate_eq]
  simp [manualSet]

/-- Settles O25: the rows of R18 and R85 one after another. -/
theorem coilAndDerateOrdersAreJudged : Obligations.CoilAndDerateOrdersAreJudged := by
  refine ⟨fun s t tag coil free => ?_, fun s t tag board value free => ?_⟩
  · rw [exec_order free (.disableCoil t tag coil) t tag 20 (fun s => judgeCoilOrder s coil fun r => { r with disabled := true, confirm := 0 }) rfl,
      exec_order free (.enableCoil t tag coil) t tag 21 (fun s => judgeCoilOrder s coil fun r => { r with disabled := false }) rfl]
    dsimp only
    refine ⟨fun unknown => ?_, fun k name => ?_⟩
    · rw [judgeCoilOrder_unknown unknown, judgeCoilOrder_unknown unknown, endCheck_taken, endCheck_taken]
      exact ⟨rfl, rfl⟩
    · rw [judgeCoilOrder_eq name, judgeCoilOrder_eq name]
      simp only [taken_coils, changeFlags_eq, endCheck_taken]
      refine ⟨fun absent => ?_, fun known => ?_⟩
      · rw [if_pos absent, if_pos absent]
        exact ⟨rfl, rfl⟩
      · rw [if_neg known, if_neg known]
        simp only [disabled_available, enabled_available]
        exact ⟨rfl, rfl⟩
  · rw [exec_order free (.setDerate t tag board value) t tag 22 (fun s => judgeDerate s board value) rfl]
    dsimp only
    refine ⟨fun unknown => ?_, fun b name => ?_⟩
    · rw [judgeDerate, dif_neg (by omega), endCheck_taken]
    · have lt : board.toNat < 4 := name ▸ b.isLt
      obtain rfl : b = ⟨board.toNat, lt⟩ := Fin.ext name
      have none : value = 0xFF#8 ↔ value.toNat = 255 := ⟨fun e => by rw [e]; rfl, fun e => BitVec.eq_of_toNat_eq e⟩
      rw [judgeDerate, dif_pos lt]
      refine ⟨fun high low => ?_, fun inRange => ?_⟩
      · rw [if_pos ⟨high, fun e => by have := none.mp e; omega⟩, endCheck_taken]
      · rw [if_neg fun c => inRange.elim (fun small => by omega) fun e => c.2 (none.mpr e)]
        have manual : (if value = 0xFF#8 then Option.none else some value.toNat) = if value.toNat = 255 then Option.none else some value.toNat := by
          simp only [none]
        have after (auto : Nat) : (if value.toNat = 255 then Option.none else some value.toNat).getD auto =
            if value.toNat = 255 then auto else value.toNat := by
          split_ifs <;> rfl
        have set := takeDerating_manualSet (taken s t tag 22) ⟨board.toNat, lt⟩ (if value.toNat = 255 then Option.none else some value.toNat)
        rw [after] at set
        rw [manual]
        have order : (takeDerating (taken s t tag 22) (manualSet (taken s t tag 22) ⟨board.toNat, lt⟩
            (if value.toNat = 255 then Option.none else some value.toNat))).cp.order = (taken s t tag 22).cp.order :=
          (orders_kept (takeDerating_touches (l := [.deratings, .allocs, .budget, .notices, .posts])
            (setDerating_touches (taken s t tag 22) _).mono)).2.1
        refine congrArg _ ((endGood_eq (o := ⟨22, tag, 0, 0, .plain⟩) order).trans ?_)
        exact congrArg (endedGood · tag) set

end Sys2Proof.Machine
end

section
/-! The layouts of cells: what a made cell and a payload hold, and the fields of two bytes (R178). -/

namespace Sys2Proof.Machine

-- The default arguments `by decide` wait for the kernel: one declaration after the other holds few threads.
set_option Elab.async false

@[simp] theorem payload_get (l : List Byte) (i : Nat) (h : i < 12) : (payload l)[i] = l.getD i 0 := by simp [payload]

theorem payloadIs_payload (l : List Byte) : PayloadIs (payload l) l := fun i => payload_get l i.val i.isLt

/-- R178: bytes 14 and 15 are the check over bytes 0 to 13. -/
theorem cellIs_mkCell (kind second : Byte) (p : Payload) (bytes : List Byte) (h : PayloadIs p bytes) :
    CellIs (mkCell kind second p) kind second bytes := by
  have places (i : Nat) (hi : i < 12) : (mkCell kind second p)[i + 2] = p[i] := by
    have := congrArg (·[i]) (Laws.payloadOf_mkCell kind second p)
    simpa [payloadOf] using this
  refine ⟨by simp [mkCell], by simp [mkCell], fun i => (places i.val i.isLt).trans (h i), ?_⟩
  have message : (mkCell kind second p).toList.take 14 = kind :: second :: p.toList := by
    refine List.ext_getElem (by simp) fun i hi _ => ?_
    match i with
    | 0 => simp [mkCell]
    | 1 => simp [mkCell]
    | i + 2 =>
      have lt : i < 12 := by simp at hi; omega
      simpa using places i lt
  rw [message]
  have high : (mkCell kind second p)[14] = (checkOf kind second p).extractLsb' 8 8 := by simp [mkCell]
  have low : (mkCell kind second p)[15] = (checkOf kind second p).extractLsb' 0 8 := by simp [mkCell]
  rw [high, low]
  exact Laws.split16 _

theorem cellIs_payload (kind second : Byte) (l : List Byte) : CellIs (mkCell kind second (payload l)) kind second l :=
  cellIs_mkCell kind second _ l (payloadIs_payload l)

theorem payloadIs_self (p : Payload) : PayloadIs p p.toList := fun i => by simp

theorem bytes16_eq (v : BitVec 16) : bytes16 v = twoBytes v.toNat := by
  have high : v.extractLsb' 8 8 = BitVec.ofNat 8 (v.toNat / 256) := by
    apply BitVec.eq_of_toNat_eq
    simp [BitVec.extractLsb'_toNat, Nat.shiftRight_eq_div_pow]
  have low : v.extractLsb' 0 8 = BitVec.ofNat 8 v.toNat := by
    apply BitVec.eq_of_toNat_eq
    simp [BitVec.extractLsb'_toNat]
  rw [bytes16, twoBytes, high, low]

theorem field16_eq (n : Nat) : field16 n = twoBytes n := by
  have high : BitVec.ofNat 8 (n % 65536 / 256) = BitVec.ofNat 8 (n / 256) := by
    apply BitVec.eq_of_toNat_eq
    simp only [BitVec.toNat_ofNat]
    omega
  have low : BitVec.ofNat 8 (n % 65536) = BitVec.ofNat 8 n := by
    apply BitVec.eq_of_toNat_eq
    simp only [BitVec.toNat_ofNat]
    omega
  rw [field16, bytes16_eq, BitVec.toNat_ofNat, twoBytes, twoBytes, high, low]

theorem flag_zero (b : Bool) : flag b 0 = if b then 1 else 0 := by cases b <;> rfl

/-- Two bytes of a payload, most significant first. -/
theorem append_toNat (a b : Byte) : (a ++ b).toNat = a.toNat * 256 + b.toNat := by
  rw [BitVec.toNat_append, ← Nat.shiftLeft_add_eq_or_of_lt b.isLt, Nat.shiftLeft_eq]

end Sys2Proof.Machine
end

section
/-! The other cells of the controller link, and the upstream transmitter (R155, R160, R163, R165). -/

namespace Sys2Proof.Machine

-- The default arguments `by decide` wait for the kernel: one declaration after the other holds few threads.
set_option Elab.async false

/-! ### HEAT, ABORT and KEEPALIVE cells -/

theorem heatActionOf_none {b : Byte} (h : b.toNat = 0 ∨ 3 < b.toNat) : heatActionOf b = none := by
  have not (n : Byte) (m : 0 < n.toNat ∧ n.toNat ≤ 3) : ¬ b = n := fun e => by rw [e] at h; omega
  rw [heatActionOf, if_neg (not 1 (by decide)), if_neg (not 2 (by decide)), if_neg (not 3 (by decide))]

/-- Settles O27: by the hub state, the action and the length of the queue. -/
theorem heatCellsJoinTheQueue : Obligations.HeatCellsJoinTheQueue := by
  intro s t handle action level settled
  rw [exec_settled settled]
  change (_ → Host.Outcome.next (dispatchHeat (heard s t) handle action level) = _) ∧ ∀ a, _ → _ →
    (_ → Host.Outcome.next (dispatchHeat (heard s t) handle action level) = _) ∧
      (_ → Host.Outcome.next (dispatchHeat (heard s t) handle action level) = _)
  refine ⟨fun discarded => ?_, fun a code on => ?_⟩
  · unfold dispatchHeat
    split
    · next on =>
      rw [heatActionOf_none (by
        rcases discarded with zero | high | ⟨a, b⟩
        · exact .inl zero
        · exact .inr high
        · exact absurd on (not_or_intro a b))]
    · rfl
  · have on : (heard s t).sup.hub = .ready ∨ (heard s t).sup.hub = .supplyLow := on
    have known : heatActionOf action = some a := by rw [code]; cases a <;> rfl
    rw [dispatchHeat, if_pos on, known]
    dsimp only
    refine ⟨fun room => ?_, fun full => ?_⟩
    · rw [if_pos (show (heard s t).cp.heatQueue.length < 16 from room)]
      rfl
    · rw [if_neg (show ¬ (heard s t).cp.heatQueue.length < 16 from Nat.not_lt.mpr full)]
      rfl

/-- Settles O28: by the state of the order. -/
theorem abortKeepaliveAndFailedCells : Obligations.AbortKeepaliveAndFailedCells := by
  refine ⟨fun s t tag settled => ?_, fun s t settled => exec_settled settled _, fun s link cell settled => exec_settled settled _⟩
  rw [exec_settled settled]
  have judged : action (.abort t tag) s = dispatchAbort (heard s t) := rfl
  have state : (heard s t).cp.state = s.cp.state := rfl
  rw [judged, dispatchAbort, state]
  refine ⟨fun done => ?_, fun o order out => ?_, fun o order back => ?_, fun works => ?_⟩
  · rcases done with e | e <;> rw [e]
  · rw [out]
    exact congrArg _ (endCheck_kept order ..)
  · rw [back]
    exact congrArg _ (endCheck_kept order ..)
  · rw [works]
    rfl

/-! ### The upstream transmitter -/

theorem closeOrder_plain {cp : ControllerPort} {condition : Condition} {o : Order} (h : cp.order = some o)
    (c : condition ≠ .good ∨ ∀ w d : Nat, o.job ≠ .pace w d) : cp.closeOrder condition = { cp with state := .idle, order := none } := by
  unfold ControllerPort.closeOrder
  split
  · next good =>
    have plain := c.resolve_left (not_not_intro good)
    obtain ⟨code, tag, expected, taken, job⟩ := o
    cases job with
    | pace w d => exact absurd rfl (plain w d)
    | plain | program | table => rw [ControllerPort.takePace, h]
  · rfl

theorem transmitUp_status {s : State} {c : StatusCell} {rest : List StatusCell} (h : s.cp.statuses = c :: rest) :
    transmitUp s =
      if c.own then { s with upLine := some (statusCell c), cp := { s.cp with statuses := rest }.closeOrder c.condition }
      else { s with upLine := some (statusCell c), cp := { s.cp with statuses := rest } } := by
  simp only [transmitUp, h]
  rfl

theorem transmitUp_credit {s : State} (h : s.cp.statuses = []) (c : s.cp.pendingCredit ≠ 0) :
    transmitUp s = (sendUp s (creditCell (orderTag s) s.cp.pendingCredit)).modCp fun cp => { cp with pendingCredit := 0 } := by
  simp only [transmitUp, h, ne_eq, c, not_false_eq_true, if_true]

theorem transmitUp_reply {s : State} (h : s.cp.statuses = []) (c : s.cp.pendingCredit = 0) {p : Payload} {rest : List Payload}
    (d : s.cp.dataIn = p :: rest) : transmitUp s = sendReply s p rest := by
  simp only [transmitUp, h, c, ne_eq, not_true, if_false, d]

theorem transmitUp_notice {s : State} (h : s.cp.statuses = []) (c : s.cp.pendingCredit = 0) (d : s.cp.dataIn = []) {n : Notice}
    {rest : List Notice} (e : s.cp.notices = n :: rest) :
    transmitUp s = (sendUp s (noticeCell n)).modCp fun cp => { cp with notices := rest } := by
  simp only [transmitUp, h, c, ne_eq, not_true, if_false, d, e]

theorem transmitUp_idle {s : State} (h : s.cp.statuses = []) (c : s.cp.pendingCredit = 0) (d : s.cp.dataIn = [])
    (e : s.cp.notices = []) : transmitUp s = s := by
  simp only [transmitUp, h, c, ne_eq, not_true, if_false, d, e]

theorem orderTag_eq {s : State} {o : Order} (h : s.cp.order = some o) : orderTag s = o.tag := by
  rw [orderTag, h]
  rfl

/-- Settles O29: by the first of the queues that holds something; the layouts are those of section 11.2. -/
theorem upstreamTransmitterPrefers : Obligations.UpstreamTransmitterPrefers := by
  refine ⟨fun s settled => ?_, fun c => ?_, fun tag n => cellIs_payload .., fun tag p => cellIs_mkCell _ _ _ _ (payloadIs_self p), fun n => ?_, by decide⟩
  · rw [exec_settled settled]
    change (∀ c rest, _ → (_ → Host.Outcome.next (transmitUp s) = _) ∧ (∀ o, _ → _ → _ → Host.Outcome.next (transmitUp s) = _)) ∧ _
    refine ⟨fun c rest statuses => ⟨fun other => ?_, fun o own order plain => ?_⟩, fun statuses o order credit => ?_,
      fun statuses credit o p rest order data => ⟨fun more => ?_, fun last => ?_⟩, fun statuses credit data => ⟨fun n rest notices => ?_, fun notices => ?_⟩⟩
    · rw [transmitUp_status statuses, if_neg (ne_true_of_eq_false other)]
    · rw [transmitUp_status statuses, if_pos own, closeOrder_plain (cp := { s.cp with statuses := rest }) order plain]
    all_goals change Host.Outcome.next (transmitUp s) = _
    · rw [transmitUp_credit statuses credit.ne', orderTag_eq order]
      rfl
    · rw [transmitUp_reply statuses credit data, sendReply, if_neg more, orderTag_eq order]
      rfl
    · rw [transmitUp_reply statuses credit data, sendReply, if_pos last, orderTag_eq order, last]
      exact congrArg _ (endGood_kept order)
    · rw [transmitUp_notice statuses credit data notices]
      rfl
    · rw [transmitUp_idle statuses credit data notices]
  · obtain ⟨tag, condition, key, own⟩ := c
    cases condition <;> exact cellIs_payload ..
  · rw [noticeCell, flag_zero, bytes16_eq, bytes16_eq, bytes16_eq]
    exact cellIs_payload ..

end Sys2Proof.Machine
end

section
/-! DATA cells: credit, the steps of a program, the entries of a table and their fields (R59, R158, R169, R171). -/

namespace Sys2Proof.Machine

-- The default arguments `by decide` wait for the kernel: one declaration after the other holds few threads.
set_option Elab.async false

/-! ### The entries of a table (R169, R171; section 11.4) -/

theorem lastEntry_eq (t : Fin 7) : #v[3, 63, 63, 2, 15, 31, 17][t] = lastEntry t := by
  match t with
  | 0 | 1 | 2 | 3 | 4 | 5 | 6 => rfl

/-- R169: the index moves on by one, from the last entry to the first writable one. -/
theorem entryIndex_succ {t : Fin 7} {start : Nat} (low : firstWritable t ≤ start) (high : start ≤ lastEntry t) (taken : Nat) :
    entryIndex t start (taken + 1) = if entryIndex t start taken = lastEntry t then firstWritable t else entryIndex t start taken + 1 := by
  have positive : 0 < writableCount t := by unfold writableCount; omega
  have below := Nat.mod_lt (start - firstWritable t + taken) positive
  have last : firstWritable t + (writableCount t - 1) = lastEntry t := by unfold writableCount at *; omega
  unfold entryIndex
  rw [← Nat.add_assoc, ← Nat.mod_add_mod]
  generalize (start - firstWritable t + taken) % writableCount t = m at *
  split
  · next wraps =>
    have full : m + 1 = writableCount t := by omega
    rw [full, Nat.mod_self, Nat.add_zero]
  · next inside =>
    rw [Nat.mod_eq_of_lt (by omega), Nat.add_assoc]

theorem entryIndex_zero {t : Fin 7} {start : Nat} (low : firstWritable t ≤ start) (high : start ≤ lastEntry t) : entryIndex t start 0 = start := by
  have below : start - firstWritable t < writableCount t := by unfold writableCount; omega
  rw [entryIndex, Nat.add_zero, Nat.mod_eq_of_lt below]
  omega

theorem word16_eq (p : Payload) (i : Fin 11) : word16 p i.val = wordAt p i := append_toNat ..

theorem readT0_eq (p : Payload) :
    readT0 p = if p[0].toNat ≤ 1 ∧ 1 ≤ p[1].toNat ∧ p[1].toNat ≤ 2 then some ⟨decide (p[0] = 1), if p[1] = 1 then .l1 else .l2⟩ else none := by
  have phase : p[1] = 1 ∨ p[1] = 2 ↔ 1 ≤ p[1].toNat ∧ p[1].toNat ≤ 2 := by
    constructor
    · rintro (e | e) <;> rw [e] <;> decide
    · intro range
      have : p[1].toNat = 1 ∨ p[1].toNat = 2 := by omega
      exact this.imp (BitVec.eq_of_toNat_eq ·) (BitVec.eq_of_toNat_eq ·)
  simp only [readT0, phase]
  rfl

theorem parameterInRange_iff (w : Tables) (i : Fin 18) (v : Nat) :
    parameterInRange w i v = true ↔
      #v[1, 1, 0, 0, 0, 0, 0, 0, 4, 1, 50, 0, 1, 16, 100, 0, 0, 0][i] ≤ v ∧
        v ≤ #v[4, 15, 255, 1023, 100, 4600, 4600, 9200, 32, 4, 60, 1000, 63, 1023, 250, 249, 3, 1][i] ∧
        (i = 10 → v = 50 ∨ v = 60) ∧ (i = 14 → w.t6[15] < v) ∧ (i = 15 → v < w.t6[14]) := by
  fin_cases i <;> simp [parameterInRange, Tables.coolLimit, Tables.hotLimit]
  · omega
  · exact decide_eq_true_iff
  · exact decide_eq_true_iff

/-! ### Lists of coils -/

theorem mapM_some {α β : Type} {f : α → Option β} {xs : List α} {ys : List β} (len : xs.length = ys.length)
    (h : ∀ (j : Nat) (a : j < xs.length) (b : j < ys.length), f xs[j] = some ys[j]) : xs.mapM f = some ys := by
  induction xs generalizing ys with
  | nil => rw [List.eq_nil_of_length_eq_zero len.symm]; rfl
  | cons x xs ih =>
    obtain ⟨y, ys, rfl⟩ := List.exists_cons_of_length_eq_add_one len.symm
    have head : f x = some y := h 0 (by simp) (by simp)
    have tail : xs.mapM f = some ys := ih (by simpa using len) fun j a b => h (j + 1) (by simpa using a) (by simpa using b)
    rw [List.mapM_cons, head, tail]
    rfl

theorem mapM_none {α β : Type} {f : α → Option β} {xs : List α} (h : ∃ x ∈ xs, f x = none) : xs.mapM f = none := by
  induction xs with
  | nil => exact absurd h (by simp)
  | cons x xs ih =>
    rw [List.mapM_cons]
    cases head : f x with
    | none => rfl
    | some y =>
      obtain ⟨z, mem, e⟩ := h
      rcases List.mem_cons.mp mem with rfl | mem
      · rw [e] at head; exact absurd head (by simp)
      · rw [ih ⟨z, mem, e⟩]; rfl

theorem coilByte_some (k : CoilId) (b : Byte) (h : b.toNat = k.val) : (if h : b.toNat < 64 then some (⟨b.toNat, h⟩ : CoilId) else none) = some k := by
  rw [dif_pos (by omega)]
  exact congrArg some (Fin.ext h)

theorem readT2_some {p : Payload} {l : List CoilId} (len : l.length = p[0].toNat) (few : l.length ≤ 11)
    (h : ∀ (j : Fin 11) (k : CoilId), l[j.val]? = some k → p[j.val + 1].toNat = k.val) : readT2 p = some l := by
  rw [readT2, if_pos (by omega)]
  refine mapM_some (by simp; omega) fun j a b => ?_
  have lt : j < 11 := by omega
  have byte : ((p.toList.drop 1).take p[0].toNat)[j] = p[j + 1] := by simp
  rw [byte]
  exact coilByte_some _ _ (h ⟨j, lt⟩ l[j] (List.getElem?_eq_getElem b))

theorem readT2_none {p : Payload} (h : 11 < p[0].toNat ∨ ∃ j : Fin 11, j.val < p[0].toNat ∧ 63 < p[j.val + 1].toNat) : readT2 p = none := by
  unfold readT2
  split
  · next few =>
    obtain ⟨j, below, high⟩ := h.resolve_left (by omega)
    refine mapM_none ⟨p[j.val + 1], ?_, dif_neg (by omega)⟩
    refine List.mem_iff_getElem.mpr ⟨j.val, by simp; omega, by simp⟩
  · rfl

theorem readT1_some {p : Payload} {c : Fin 8} (e : c.val = p[5].toNat) (present : p[0].toNat ≤ 1) (x : wordAt p 1 ≤ 1023)
    (y : wordAt p 3 ≤ 1023) : readT1 p = some ⟨decide (p[0] = 1), wordAt p 1, wordAt p 3, c⟩ := by
  have lt : p[5].toNat < 8 := e ▸ c.isLt
  obtain ⟨c, _⟩ := c
  cases e
  have x1 : word16 p 1 = wordAt p 1 := word16_eq p 1
  have y1 : word16 p 3 = wordAt p 3 := word16_eq p 3
  rw [readT1, dif_pos ⟨present, by omega, by omega, by omega⟩]
  simp only [x1, y1]
  rfl

theorem readT1_none {p : Payload} (h : 1 < p[0].toNat ∨ 1023 < wordAt p 1 ∨ 1023 < wordAt p 3 ∨ 7 < p[5].toNat) : readT1 p = none := by
  have x1 : word16 p 1 = wordAt p 1 := word16_eq p 1
  have y1 : word16 p 3 = wordAt p 3 := word16_eq p 3
  exact dif_neg (by omega)

theorem readT3_eq (p : Payload) :
    readT3 p =
      if wordAt p 0 ≤ 370 ∧ wordAt p 2 ≤ 32760 ∧ wordAt p 4 ≤ 32760 ∧ p[6].toNat ≤ 200 ∧ p[7].toNat ≤ 200 ∧ p[8].toNat ≤ 200 then
        some ⟨wordAt p 0 * 10, wordAt p 2, wordAt p 4, p[6].toNat, p[7].toNat, p[8].toNat⟩ else none := by
  have rated : wordAt p 0 * 10 ≤ 3700 ↔ wordAt p 0 ≤ 370 := by omega
  have a : word16 p 0 = wordAt p 0 := word16_eq p 0
  have b : word16 p 2 = wordAt p 2 := word16_eq p 2
  have c : word16 p 4 = wordAt p 4 := word16_eq p 4
  simp only [readT3, a, b, c, rated]

theorem readT4_eq (p : Payload) :
    readT4 p =
      if wordAt p 0 ≤ 370 ∧ wordAt p 2 ≤ 370 ∧ wordAt p 4 ≤ 370 then some ⟨wordAt p 0 * 10, wordAt p 2 * 10, wordAt p 4 * 10⟩
      else none := by
  have power (n : Nat) : n * 10 ≤ 3700 ↔ n ≤ 370 := by omega
  have a : word16 p 0 = wordAt p 0 := word16_eq p 0
  have b : word16 p 2 = wordAt p 2 := word16_eq p 2
  have c : word16 p 4 = wordAt p 4 := word16_eq p 4
  simp only [readT4, a, b, c, power]

theorem isPowerParameter_iff (i : Fin 18) : isPowerParameter i.val = true ↔ i = 5 ∨ i = 6 ∨ i = 7 ∨ i = 11 := by
  revert i
  decide

theorem readT6_eq (w : Tables) (i : Fin 18) (p : Payload) :
    readT6 w i p =
      if parameterInRange w i (if i = 5 ∨ i = 6 ∨ i = 7 ∨ i = 11 then wordAt p 0 * 10 else wordAt p 0) = true then
        some (if i = 5 ∨ i = 6 ∨ i = 7 ∨ i = 11 then wordAt p 0 * 10 else wordAt p 0) else none := by
  have a : word16 p 0 = wordAt p 0 := word16_eq p 0
  simp only [readT6, a, isPowerParameter_iff]

/-! ### The order in DATA-OUT (R158) -/

theorem exec_data {s : State} (settled : Settled s) {o : Order} (out : s.cp.state = .dataOut) (order : s.cp.order = some o) (t : Time)
    (p : Payload) : exec (.data t o.tag p) s = .next (takeData (heard s t) o p) := by
  rw [exec_settled settled]
  have taken : dispatchData (heard s t) o.tag p = takeData (heard s t) o p := by
    rw [dispatchData, show (heard s t).cp.order = some o from order]
    exact if_pos ⟨out, rfl⟩
  exact congrArg _ taken

theorem derateChanged_iff {before after : State} (h : after.ba.derating = before.ba.derating) :
    derateChanged before after = true ↔
      ¬ ∀ b : BoardId, before.ba.derating[b].manual = none →
        before.ts.work.t5[before.ba.derating[b].bucket] = after.ts.work.t5[before.ba.derating[b].bucket] := by
  have one (b : BoardId) : derate before b = derate after b ↔ (before.ba.derating[b].manual = none →
      before.ts.work.t5[before.ba.derating[b].bucket] = after.ts.work.t5[before.ba.derating[b].bucket]) := by
    simp only [derate_eq, h]
    cases before.ba.derating[b].manual <;> simp
  simp only [← one]
  simp [derateChanged, allBoards]

theorem credits_kept {l : List Part} {s u : State} (t : Touches l s u) (a : Part.orders ∉ l := by decide) :
    u.cp.credit = s.cp.credit ∧ u.cp.pendingCredit = s.cp.pendingCredit := by
  have e : { u.cp with silence := none, heatQueue := [], notices := [], gap := false } =
      { s.cp with silence := none, heatQueue := [], notices := [], gap := false } := t.kept .orders a
  exact ⟨(congrArg ControllerPort.credit e :), (congrArg ControllerPort.pendingCredit e :)⟩

/-- R73, R74, R84: whether the written entry is followed by a recompute (log 46). -/
theorem entryTaken_eq {before after : State} (h : after.ba.derating = before.ba.derating) (t : Fin 7) (i : Nat) :
    entryTaken before after t i =
      if t = 4 ∨ (t = 6 ∧ 5 ≤ i ∧ i ≤ 7) ∨ ¬ (∀ b : BoardId, before.ba.derating[b].manual = none →
          before.ts.work.t5[before.ba.derating[b].bucket] = after.ts.work.t5[before.ba.derating[b].bucket]) then recompute after
      else after := by
  have limits : i = 5 ∨ i = 6 ∨ i = 7 ↔ 5 ≤ i ∧ i ≤ 7 := by omega
  simp only [entryTaken, takeDerating, limits, ← derateChanged_iff h]
  by_cases c : t = 4 ∨ (t = 6 ∧ 5 ≤ i ∧ i ≤ 7)
  · rw [if_pos c, if_pos (c.imp_right .inl)]
  · obtain ⟨notCurve, notLimit⟩ := not_or.mp c
    simp only [notCurve, notLimit, false_or, if_false]

theorem word16_one (p : Payload) : word16 p 1 = p[1].toNat * 256 + p[2].toNat := word16_eq p 1

theorem readStep_some {p : Payload} {step : ProgramStep} (level : step.level.val = p[0].toNat)
    (duration : step.duration = p[1].toNat * 256 + p[2].toNat) (act : step.action = (if p[3] = 0 then .next else if p[3] = 1 then .hold else .off))
    (code : p[3].toNat ≤ 2) : readStep p = some step := by
  have lt : p[0].toNat < 16 := level ▸ step.level.isLt
  have same : (⟨p[0].toNat, lt⟩ : Level) = step.level := Fin.ext level.symm
  rw [readStep, dif_pos ⟨lt, code⟩, same]
  simp only [word16_one, ← duration, ← act]

/-- R169: an entry that may be written and is in range. -/
theorem takeEntry_written {s : State} {o : Order} {t : Fin 7} {start : Nat} {p : Payload} {w : Tables}
    (allowed : ¬ (structural t = true ∧ s.ts.service = false)) (entry : writeEntry s.ts.work t (entryIndex t start o.taken) p = some w) :
    takeEntry s o t start p =
      if o.taken + 1 < o.expected then countEntry (entryTaken s { s with ts := { s.ts with work := w } } t (entryIndex t start o.taken)) o
      else endGood (countEntry (entryTaken s { s with ts := { s.ts with work := w } } t (entryIndex t start o.taken)) o) := by
  simp only [takeEntry, if_neg allowed, entry]
  rfl

/-- R158: the credit moves on. -/
theorem countEntry_eq {s u : State} (credit : u.cp.credit = s.cp.credit) (pendingCredit : u.cp.pendingCredit = s.cp.pendingCredit) (o : Order) :
    countEntry u o =
      { u with
        cp := { u.cp with
                order := some { o with taken := o.taken + 1 }
                credit := if decide (o.taken + s.cp.credit < o.expected) then s.cp.credit else s.cp.credit - 1
                pendingCredit :=
                  if decide (o.taken + s.cp.credit < o.expected) then s.cp.pendingCredit + 1 else s.cp.pendingCredit } } := by
  simp only [countEntry, State.modCp, credit, pendingCredit, decide_eq_true_eq]

theorem finishLoad_current {s : State} {handle : Byte} (h : handleCurrent s handle = true) :
    finishLoad s handle =
      endGood { s with
        pans := s.pans.set (handleSlot handle) { s.pans[handleSlot handle] with program := s.hs.held }
        hs := { s.hs with held := [] } } := if_pos h

theorem finishLoad_stale {s : State} {handle : Byte} (h : handleCurrent s handle = false) :
    finishLoad s handle = endCheck { s with hs := { s.hs with held := [] } } .staleHandle 1 0 := if_neg (ne_true_of_eq_false h)

/-- Settles O26: by the order's job; the entries and their fields table by table. -/
theorem dataCellsAreTaken : Obligations.DataCellsAreTaken := by
  refine ⟨⟨fun s t tag p settled other => ?_, fun s t o p table start settled out order job => ?_⟩,
    fun s t o p handle settled out order job credit => ?_, fun s t o p handle settled out order job none => ?_,
    fun table start taken => ?_, fun w p => ⟨fun i => ?_, fun i => ?_, fun i => ?_, fun i => ?_, fun i => ?_, fun i => ?_, fun i => ?_⟩⟩
  · rw [exec_settled settled]
    have discarded : dispatchData (heard s t) tag p = heard s t := by
      unfold dispatchData
      split
      · rfl
      · next o order => exact if_neg fun c => (other o order).elim (fun n => n c.1) fun n => n c.2
    exact congrArg _ discarded
  · rw [exec_data settled out order]
    refine ⟨fun none => ?_, fun some => ?_, fun some => ?_, fun w some => ?_⟩
    · rw [takeData, if_pos (show (heard s t).cp.credit = 0 from none), nextIndex, job]
      exact congrArg _ (endCheck_kept order ..)
    all_goals
      have entries : takeData (heard s t) o p = takeEntry (heard s t) o table start p := by
        rw [takeData, if_neg (show ¬ (heard s t).cp.credit = 0 from some.ne'), job]
      rw [entries]
    · intro struct off
      rw [takeEntry, if_pos ⟨decide_eq_true struct, off⟩]
      exact congrArg _ (endCheck_kept order ..)
    all_goals
      intro allowed entry
      have open' : ¬ (structural table = true ∧ (heard s t).ts.service = false) := fun c =>
        allowed.elim (fun high => absurd (of_decide_eq_true c.1) (by omega)) (ne_true_of_eq_false c.2)
    · rw [takeEntry, if_neg open', show writeEntry (heard s t).ts.work table (entryIndex table start o.taken) p = _ from entry]
      exact congrArg _ (endCheck_kept order ..)
    · intro written
      have taken := entryTaken_eq (before := heard s t) (after := written) rfl table (entryIndex table start o.taken)
      have kept : (entryTaken (heard s t) written table (entryIndex table start o.taken)).cp.credit = s.cp.credit ∧
          (entryTaken (heard s t) written table (entryIndex table start o.taken)).cp.pendingCredit = s.cp.pendingCredit := by
        rw [taken]
        split
        · exact credits_kept (s := written) (recompute_touches _)
        · exact ⟨rfl, rfl⟩
      rw [taken] at kept
      obtain ⟨credit, pendingCredit⟩ := kept
      have counted := (congrArg (countEntry · o) taken).trans (countEntry_eq credit pendingCredit o)
      refine ⟨fun more => congrArg _ ?_, fun last => congrArg _ ?_⟩
      · exact ((takeEntry_written open' entry).trans (if_pos more)).trans counted
      · exact (((takeEntry_written open' entry).trans (if_neg (Nat.not_lt.mpr last))).trans (congrArg endGood counted)).trans
          (endGood_eq (o := { o with taken := o.taken + 1 }) rfl)
  · have steps : takeData (heard s t) o p = takeStep (heard s t) o handle p := by
      rw [takeData, if_neg (show ¬ (heard s t).cp.credit = 0 from credit.ne'), job]
    rw [exec_data settled out order, steps]
    refine ⟨fun wrong => ?_, fun step level duration act code => ?_⟩
    · have refused : readStep p = none := dif_neg (by omega)
      simp only [takeStep, refused]
      exact congrArg _ (endCheck_kept order ..)
    · simp only [takeStep, readStep_some level duration act code]
      have counted := countEntry_eq (s := s) (u := (heard s t).modHs fun l => { l with held := l.held ++ [step] }) rfl rfl o
      rw [counted]
      refine ⟨fun more => congrArg _ (if_pos more), fun last current => ?_, fun last stale => ?_⟩
      all_goals rw [if_neg (Nat.not_lt.mpr last)]
      · rw [finishLoad_current (by exact current)]
        exact congrArg _ (endGood_eq (o := { o with taken := o.taken + 1 }) rfl)
      · rw [finishLoad_stale (by exact stale)]
        exact congrArg _ (endCheck_eq (o := { o with taken := o.taken + 1 }) rfl ..)
  · rw [exec_data settled out order, takeData, if_pos (show (heard s t).cp.credit = 0 from none), nextIndex, job]
    exact congrArg _ (endCheck_kept order ..)
  · dsimp only
    rw [lastEntry_eq]
    exact fun low high => ⟨entryIndex_zero low high, entryIndex_succ low high taken⟩
  all_goals simp only [writeEntry, i.isLt, dite_true]
  · rw [readT0_eq]
    exact ⟨fun fits => by rw [if_pos fits]; rfl, fun not => by rw [if_neg not]; rfl⟩
  · exact ⟨fun c e present x y => by rw [readT1_some e present x y]; rfl, fun not => by rw [readT1_none not]; rfl⟩
  · exact ⟨fun l len few h => by rw [readT2_some len few h]; rfl, fun not => by rw [readT2_none not]; rfl⟩
  · rw [readT3_eq]
    exact ⟨fun fits => by rw [if_pos fits]; rfl, fun not => by rw [if_neg not]; rfl⟩
  · rw [readT4_eq]
    exact ⟨fun fits => by rw [if_pos fits]; rfl, fun not => by rw [if_neg not]; rfl⟩
  · rw [readT5]
    exact ⟨fun fits => by rw [if_pos fits]; rfl, fun not => by rw [if_neg (by omega)]; rfl⟩
  · rw [readT6_eq]
    exact ⟨fun fits => by rw [if_pos ((parameterInRange_iff ..).mpr fits)]; rfl,
      fun not => by rw [if_neg fun c => not ((parameterInRange_iff ..).mp c)]; rfl⟩

end Sys2Proof.Machine
end

section
/-! The orders that read: the judgement of each, and the bytes of its reply (R140, R157, R166, R167, R170; sections 11.4 and 11.5). -/

namespace Sys2Proof.Machine

-- The default arguments `by decide` wait for the kernel: one declaration after the other holds few threads.
set_option Elab.async false

/-! ### Bytes -/

theorem payloadIs_of_eq {l bytes : List Byte} (h : l = bytes) : PayloadIs (payload l) bytes := h ▸ payloadIs_payload l

/-- A field above and a field below it in one byte. -/
theorem byte_pair (a b k : Nat) (h : b < 2 ^ k) : (byte a <<< k) ||| byte b = BitVec.ofNat 8 (a * 2 ^ k + b) := by
  apply BitVec.eq_of_toNat_eq
  have whole : a * 2 ^ k + b = a <<< k ||| b := by rw [← Nat.shiftLeft_add_eq_or_of_lt h, Nat.shiftLeft_eq]
  have top : (a % 2 ^ 8) <<< k % 2 ^ 8 = a <<< k % 2 ^ 8 := by rw [Nat.shiftLeft_eq, Nat.shiftLeft_eq, Nat.mod_mul_mod]
  simp only [byte, BitVec.toNat_or, BitVec.toNat_shiftLeft, BitVec.toNat_ofNat, whole, top, Nat.or_mod_two_pow]

theorem flag_eq (b : Bool) : flag b 0 = byte (if b then 1 else 0) := by cases b <;> rfl

theorem handleByte_eq (p : PanSlot) (g : BitVec 4) : handleByte p g = BitVec.ofNat 8 (p.val * 16 + g.toNat) := by
  have small : p.val * 16 + g.toNat < 256 := by omega
  apply BitVec.eq_of_toNat_eq
  rw [handleByte, BitVec.toNat_append, BitVec.toNat_append, ← Nat.shiftLeft_add_eq_or_of_lt g.isLt, Nat.shiftLeft_eq]
  simp [Nat.mod_eq_of_lt small]

theorem orNone_coil (c : Option CoilId) : orNone (c.map (·.val)) = match c with | some k => BitVec.ofNat 8 k | none => 0xFF#8 := by
  cases c <;> rfl

/-! ### The reply cells -/

theorem senseReply_is (r : SenseRecord) :
    ∃ q, senseReply r = [q] ∧ PayloadIs q (BitVec.ofNat 8 r.key.code :: twoBytes r.field ++ [BitVec.ofNat 8 r.detail]) := by
  refine ⟨_, rfl, payloadIs_of_eq ?_⟩
  rw [field16_eq]
  rfl

theorem marks_byte (m : Vector Bool 7) :
    (List.finRange 7).foldl (fun v t => v ||| flag m[t] t.val) 0 =
      BitVec.ofNat 8 ((List.finRange 7).map fun n => (if m[n] then 1 else 0) * 2 ^ n.val).sum := by
  have bits : ∀ a b c d e f g : Bool,
      (List.finRange 7).foldl (fun v t => v ||| flag #v[a, b, c, d, e, f, g][t] t.val) 0 =
        BitVec.ofNat 8 ((List.finRange 7).map fun n => (if #v[a, b, c, d, e, f, g][n] then 1 else 0) * 2 ^ n.val).sum := by decide
  have listed : m = #v[m[0], m[1], m[2], m[3], m[4], m[5], m[6]] := by
    refine Vector.ext fun i hi => ?_
    interval_cases i <;> rfl
  rw [listed]
  exact bits ..

theorem identifyBoard_eq (s : State) (b : BoardId) :
    identifyBoard s b =
      [BitVec.ofNat 8 s.boards[b].state.code, BitVec.ofInt 8 (s.boards[b].heatsink + 40),
        BitVec.ofNat 8 (if s.ba.derating[b].manual.isSome then 1 else 0), BitVec.ofNat 8 s.ba.derating[b].bucket,
        BitVec.ofNat 8 (s.ba.derating[b].manual.getD s.ts.work.t5[s.ba.derating[b].bucket])] := by
  rw [identifyBoard, flag_eq, derate_eq]
  rfl

theorem identify1_is (s : State) :
    PayloadIs (identify1 s)
      [0x64, 0x0A, 0x03, BitVec.ofNat 8 s.sup.hub.code, BitVec.ofNat 8 s.fe.hob.code,
        BitVec.ofNat 8 ((if s.ts.service then 1 else 0) + 2 * (if s.ts.valid then 1 else 0)),
        BitVec.ofNat 8 ((List.finRange 7).map fun n => (if s.ts.marks[n] then 1 else 0) * 2 ^ n.val).sum,
        BitVec.ofNat 8 s.fe.lock.code, BitVec.ofNat 8 s.fe.f, BitVec.ofNat 8 s.fe.q, BitVec.ofNat 8 s.fe.freq] := by
  have modes (a b : Bool) : flag a 0 ||| flag b 1 = BitVec.ofNat 8 ((if a then 1 else 0) + 2 * (if b then 1 else 0)) := by
    cases a <;> cases b <;> rfl
  refine payloadIs_of_eq ?_
  rw [marks_byte, modes, field16_eq]
  rfl

theorem coilReply_is (s : State) (k : CoilId) :
    ∃ q, coilReply s k = [q] ∧ PayloadIs q
      [BitVec.ofNat 8 k, BitVec.ofNat 8 s.coils[k].occupancy.code,
        (match s.coils[k].owner with | some p => BitVec.ofNat 8 p | none => 0xFF#8),
        BitVec.ofNat 8 s.coils[k].coverage, BitVec.ofNat 8 s.coils[k].range.code, BitVec.ofNat 8 s.coils[k].confirm,
        BitVec.ofNat 8 s.coils[k].material.code,
        BitVec.ofNat 8 ((if s.coils[k].hot then 1 else 0) + 2 * (if s.coils[k].disabled then 1 else 0) +
          4 * (if s.coils[k].unobserved then 1 else 0)),
        BitVec.ofNat 8 s.coils[k].temp, BitVec.ofNat 8 s.pu.legs[coilLeg k].state.code] := by
  have flags (a b c : Bool) : flag a 0 ||| flag b 1 ||| flag c 2 =
      BitVec.ofNat 8 ((if a then 1 else 0) + 2 * (if b then 1 else 0) + 4 * (if c then 1 else 0)) := by
    cases a <;> cases b <;> cases c <;> rfl
  have owner (o : Option PanSlot) : orNone (o.map (·.val)) = match o with | some p => BitVec.ofNat 8 p | none => 0xFF#8 := by
    cases o <;> rfl
  refine ⟨_, rfl, payloadIs_of_eq ?_⟩
  rw [flags, owner]
  rfl

/-- A field in bits 7 to 4 and a flag in bit 0. -/
theorem byte_flag (a : Nat) (b : Bool) : (byte a <<< 4) ||| flag b 0 = BitVec.ofNat 8 (a * 16 + if b then 1 else 0) := by
  rw [flag_eq]
  exact byte_pair a _ 4 (by split <;> decide)

theorem orientedBytes_eq (s : State) (x y : Nat) :
    orientedBytes s x y = twoBytes (orient s.ts.work x y).1 ++ twoBytes (orient s.ts.work x y).2 := by
  rw [orientedBytes, field16_eq, field16_eq]

theorem pan1_is (s : State) (p : PanSlot) :
    PayloadIs (pan1 s p)
      ([BitVec.ofNat 8 (p.val * 16 + s.pans[p].pres.gen.toNat), BitVec.ofNat 8 s.pans[p].pres.presence.code,
        BitVec.ofNat 8 s.pans[p].pres.material.code, BitVec.ofNat 8 s.pans[p].pres.members.length,
        BitVec.ofNat 8 (s.pans[p].pres.settle * 16 + if s.pans[p].pres.changed then 1 else 0),
        BitVec.ofNat 8 (s.pans[p].pres.grace.getD 0)] ++
        (twoBytes (orient s.ts.work s.pans[p].pres.x s.pans[p].pres.y).1 ++ twoBytes (orient s.ts.work s.pans[p].pres.x s.pans[p].pres.y).2) ++
        twoBytes s.pans[p].pres.area) := by
  refine payloadIs_of_eq ?_
  rw [byte_flag, orientedBytes_eq, field16_eq, State.handleOf, handleByte_eq]
  rfl

theorem pan2_is (s : State) (p : PanSlot) (i : Fin 12) :
    (pan2 s p)[i] = match s.pans[p].pres.members[i.val]? with | some k => BitVec.ofNat 8 k | none => 0xFF#8 := by
  rw [pan2]
  simp only [Fin.getElem_fin, Vector.getElem_ofFn]
  exact orNone_coil _

theorem pan3_heat (s : State) (p : PanSlot) :
    (pan3 s p)[8] = BitVec.ofNat 8 s.pans[p].heat.state.code ∧ (pan3 s p)[9] = BitVec.ofNat 8 (priorCode s.pans[p].heat.prior) ∧
      (pan3 s p)[10] = BitVec.ofNat 8 s.pans[p].heat.level ∧ (pan3 s p)[11] = BitVec.ofNat 8 s.pans[p].heat.position := by
  unfold pan3
  cases s.pans[p].pres.signature <;>
    exact ⟨payload_get _ _ (by decide), payload_get _ _ (by decide), payload_get _ _ (by decide), payload_get _ _ (by decide)⟩

/-- READ PAN 3 with a signature. -/
theorem pan3_signed {s : State} {p : PanSlot} {g : Signature} (h : s.pans[p].pres.signature = some g) :
    PayloadIs (pan3 s p)
      (1 :: (twoBytes (orient s.ts.work g.x g.y).1 ++ twoBytes (orient s.ts.work g.x g.y).2) ++ twoBytes g.area ++
        [BitVec.ofNat 8 g.material.code, (pan3 s p)[8], (pan3 s p)[9], (pan3 s p)[10], (pan3 s p)[11]]) := by
  obtain ⟨state, prior, level, position⟩ := pan3_heat s p
  rw [state, prior, level, position, pan3, h]
  refine payloadIs_of_eq ?_
  simp only [orientedBytes_eq, field16_eq]
  rfl

theorem pan3_unsigned {s : State} {p : PanSlot} (h : s.pans[p].pres.signature = none) : (pan3 s p)[0] = 0 := by
  rw [pan3, h]
  exact payload_get _ _ (by decide)

theorem pan4_is (s : State) (p : PanSlot) :
    PayloadIs (pan4 s p)
      (BitVec.ofNat 8 (s.pans[p].alloc.effective.val * 16 + if s.pans[p].heat.timed then 1 else 0) :: twoBytes s.pans[p].heat.remaining ++
        [if p ∈ s.hs.requests then BitVec.ofNat 8 (s.hs.requests.idxOf p) else 0xFF#8] ++ twoBytes (s.pans[p].alloc.k1 / 10) ++
        twoBytes (s.pans[p].alloc.k2 / 10) ++ twoBytes (s.pans[p].alloc.d / 10) ++ twoBytes (s.pans[p].alloc.g / 10)) := by
  have place : orNone (if s.hs.requests.contains p then some (s.hs.requests.idxOf p) else none) =
      if p ∈ s.hs.requests then BitVec.ofNat 8 (s.hs.requests.idxOf p) else 0xFF#8 := by
    by_cases h : p ∈ s.hs.requests <;> simp [h, orNone, byte]
  refine payloadIs_of_eq ?_
  simp only [byte_flag, place, field16_eq, power16]
  rfl

theorem pan5_basis (s : State) (p : PanSlot) :
    (∀ basis : Level × Level, s.pans[p].alloc.basis = some basis →
      (pan5 s p)[0] = 1 ∧ (pan5 s p)[1] = BitVec.ofNat 8 (basis.1.val * 16 + basis.2.val)) ∧
      (s.pans[p].alloc.basis = none → (pan5 s p)[0] = 0) := by
  refine ⟨fun basis h => ?_, fun h => ?_⟩ <;> simp only [pan5, h]
  · exact ⟨payload_get _ _ (by decide), (payload_get _ _ (by decide)).trans (byte_pair _ _ 4 (by omega))⟩
  · exact payload_get _ _ (by decide)

theorem pan5_lifted {s : State} {p : PanSlot} {m : BitVec 16} (h : s.pans[p].pres.liftedAt = some m) :
    (pan5 s p)[8] = BitVec.ofNat 8 (m.toNat / 256) ∧ (pan5 s p)[9] = BitVec.ofNat 8 m.toNat := by
  simp only [pan5, h, bytes16_eq, payload_get]
  cases s.pans[p].alloc.basis <;> exact ⟨rfl, rfl⟩

theorem pan5_power (s : State) (p : PanSlot) :
    (pan5 s p)[2] = BitVec.ofNat 8 (s.pans[p].scheduled / 10 / 256) ∧ (pan5 s p)[3] = BitVec.ofNat 8 (s.pans[p].scheduled / 10) ∧
      (pan5 s p)[4] = BitVec.ofNat 8 (s.pans[p].dropped / 256) ∧ (pan5 s p)[5] = BitVec.ofNat 8 s.pans[p].dropped ∧
      (pan5 s p)[6] = BitVec.ofNat 8 (s.pans[p].delivered / 10 / 256) ∧ (pan5 s p)[7] = BitVec.ofNat 8 (s.pans[p].delivered / 10) ∧
      (pan5 s p)[10] = 0 ∧ (pan5 s p)[11] = 0 := by
  simp only [pan5, power16, field16_eq, payload_get]
  cases s.pans[p].alloc.basis <;> cases s.pans[p].pres.liftedAt <;> exact ⟨rfl, rfl, rfl, rfl, rfl, rfl, rfl, rfl⟩

theorem stepPayload_is (i : Nat) (st : ProgramStep) :
    PayloadIs (stepPayload i st) (BitVec.ofNat 8 st.level :: twoBytes st.duration ++
      [match st.action with | .next => 0 | .hold => 1 | .off => 2, BitVec.ofNat 8 i]) := by
  refine payloadIs_of_eq ?_
  rw [field16_eq]
  obtain ⟨level, duration, act⟩ := st
  cases act <;> rfl

/-! ### READ FAULT (R140) -/

theorem fault1_recorded {s : State} {r : FaultRecord} (h : s.pu.firstFault = some r) :
    PayloadIs (fault1 s)
      (twoBytes (r.kind.code * 4096 + s.pu.traps.toNat) ++
        [BitVec.ofNat 8 ((match r.board with | some b => b.val | none => 7) * 32 + (match r.leg with | some l => l.val | none => 31)),
          (match r.coil with | some k => BitVec.ofNat 8 k | none => 0xFF#8),
          (match r.handle with | some h => BitVec.ofNat 8 (h.1.val * 16 + h.2.toNat) | none => 0xFF#8)] ++ twoBytes r.frame.toNat ++
        [BitVec.ofNat 8 r.slot] ++
        twoBytes (if decide (r.kind = .boardTrip ∨ r.kind = .overshoot ∨ r.kind = .noReport) then r.value / 10 else r.value) ++
        twoBytes s.fe.frameCount.toNat) := by
  have traps : (BitVec.ofNat 4 r.kind.code ++ 0#1 ++ s.pu.traps).toNat = r.kind.code * 4096 + s.pu.traps.toNat := by
    have small : r.kind.code < 16 := by cases r.kind <;> decide
    rw [BitVec.toNat_append, BitVec.toNat_append, ← Nat.shiftLeft_add_eq_or_of_lt s.pu.traps.isLt]
    simp [Nat.shiftLeft_eq]
    omega
  have legOf : (r.leg.map (·.val)).getD 31 = match r.leg with | some l => l.val | none => 31 := by cases r.leg <;> rfl
  have boardOf : (r.board.map (·.val)).getD 7 = match r.board with | some b => b.val | none => 7 := by cases r.board <;> rfl
  have place : (byte (match r.board with | some b => b.val | none => 7) <<< 5) ||| byte (match r.leg with | some l => l.val | none => 31) =
      BitVec.ofNat 8 ((match r.board with | some b => b.val | none => 7) * 32 + (match r.leg with | some l => l.val | none => 31)) :=
    byte_pair _ _ 5 (by split <;> omega)
  have handle : (r.handle.map fun h => handleByte h.1 h.2).getD 0xFF#8 =
      match r.handle with | some h => BitVec.ofNat 8 (h.1.val * 16 + h.2.toNat) | none => 0xFF#8 := by
    cases r.handle <;> simp [handleByte_eq]
  have power : r.kind.valueIsPower = decide (r.kind = .boardTrip ∨ r.kind = .overshoot ∨ r.kind = .noReport) := by
    cases r.kind <;> rfl
  have value : (if r.kind.valueIsPower then power16 r.value else field16 r.value) =
      twoBytes (if decide (r.kind = .boardTrip ∨ r.kind = .overshoot ∨ r.kind = .noReport) then r.value / 10 else r.value) := by
    rw [power, power16, field16_eq, field16_eq, apply_ite twoBytes]
  rw [fault1, h]
  refine payloadIs_of_eq ?_
  simp only [bytes16_eq, traps, legOf, boardOf, place, handle, value, orNone_coil]
  rfl

theorem fault1_empty {s : State} (h : s.pu.firstFault = none) :
    (fault1 s)[0] = BitVec.ofNat 8 (s.pu.traps.toNat / 256) ∧ (fault1 s)[1] = BitVec.ofNat 8 s.pu.traps.toNat ∧ (fault1 s)[2] = 0xFF ∧
      (fault1 s)[3] = 0xFF ∧ (fault1 s)[4] = 0xFF ∧ (fault1 s)[10] = BitVec.ofNat 8 (s.fe.frameCount.toNat / 256) ∧
      (fault1 s)[11] = BitVec.ofNat 8 s.fe.frameCount.toNat := by
  have traps : (0#4 ++ 0#1 ++ s.pu.traps).toNat = s.pu.traps.toNat := by
    rw [BitVec.toNat_append, BitVec.toNat_append, ← Nat.shiftLeft_add_eq_or_of_lt s.pu.traps.isLt]
    simp
  simp only [fault1, h, bytes16_eq, traps, payload_get]
  exact ⟨rfl, rfl, rfl, rfl, rfl, rfl, rfl⟩

theorem faultLeg_closed {s : State} {l : LegId} (h : s.pu.legs[l].windowStart = none) :
    faultLeg s l = [(byte s.pu.legs[l].state.code <<< 6) ||| byte (s.pu.legs[l].cooldown.getD 0),
      (byte s.pu.legs[l].trips <<< 6) ||| (Config.absentByte s.draws (200 + 2 * l.val) &&& 0x03#8), Config.absentByte s.draws (201 + 2 * l.val)] := by
  simp only [faultLeg, h]

theorem faultLeg_open {s : State} {l : LegId} {w : BitVec 16} (h : s.pu.legs[l].windowStart = some w) :
    faultLeg s l = [(byte s.pu.legs[l].state.code <<< 6) ||| byte (s.pu.legs[l].cooldown.getD 0),
      (byte s.pu.legs[l].trips <<< 6) ||| 0x20#8 ||| byte (min (s.fe.frameCount - w).toNat 1023 / 256),
      byte (min (s.fe.frameCount - w).toNat 1023)] := by
  simp only [faultLeg, h]

theorem faultLeg_three (s : State) (l : LegId) : ∃ x y z, faultLeg s l = [x, y, z] := by
  cases h : s.pu.legs[l].windowStart with
  | none => exact ⟨_, _, _, faultLeg_closed h⟩
  | some w => exact ⟨_, _, _, faultLeg_open h⟩

theorem payload_toList {l : List Byte} (h : l.length = 12) : (payload l).toList = l := by
  refine List.ext_getElem (by simp [h]) fun i hi lt => ?_
  simp [payload, lt]

/-- READ FAULT 2 to 5: three bytes a leg. -/
theorem faultLegs_bytes (s : State) (b : BoardId) (i : Fin 4) :
    ((faultLegs s b).toList.drop (3 * i.val)).take 3 = faultLeg s (legAt b i) := by
  obtain ⟨x0, y0, z0, h0⟩ := faultLeg_three s (legAt b 0)
  obtain ⟨x1, y1, z1, h1⟩ := faultLeg_three s (legAt b 1)
  obtain ⟨x2, y2, z2, h2⟩ := faultLeg_three s (legAt b 2)
  obtain ⟨x3, y3, z3, h3⟩ := faultLeg_three s (legAt b 3)
  have listed : (boardLegs b).flatMap (faultLeg s) = [x0, y0, z0, x1, y1, z1, x2, y2, z2, x3, y3, z3] := by
    have legs : boardLegs b = [legAt b 0, legAt b 1, legAt b 2, legAt b 3] := rfl
    simp [legs, h0, h1, h2, h3]
  rw [faultLegs, payload_toList (by rw [listed]; rfl), listed]
  match i with
  | 0 => exact h0.symm
  | 1 => exact h1.symm
  | 2 => exact h2.symm
  | 3 => exact h3.symm

/-- Bits 7 to 2 of the second byte of a leg whose window is closed. -/
theorem trips_masked (n : Nat) (a : Byte) : ((byte n <<< 6) ||| (a &&& 0x03#8)) &&& 0xFC = BitVec.ofNat 8 (n * 64) := by
  have shifted : byte n <<< 6 = BitVec.ofNat 8 (n * 64) := by
    have := byte_pair n 0 6 (by decide)
    simpa [byte] using this
  rw [← shifted]
  refine BitVec.eq_of_getLsbD_eq fun i hi => ?_
  interval_cases i <;> simp

theorem trips_windowed (n k : Nat) (h : k < 32) : (byte n <<< 6) ||| 0x20#8 ||| byte k = BitVec.ofNat 8 (n * 64 + 32 + k) := by
  have inner : 0x20#8 ||| byte k = byte (32 + k) := byte_pair 1 k 5 h
  rw [BitVec.or_assoc, inner, byte_pair n (32 + k) 6 (by omega), Nat.add_assoc]
  rfl

/-! ### The entries of the tables (section 11.4) -/

theorem entryPayload_t2 (draw : Nat) (w : Tables) (i : Fin 64) (_few : w.t2[i].length ≤ 11) :
    (entryPayload draw w 2 i)[0] = BitVec.ofNat 8 w.t2[i].length ∧
      ∀ (j : Fin 11) (k : CoilId), w.t2[i][j.val]? = some k → (entryPayload draw w 2 i)[j.val + 1] = BitVec.ofNat 8 k := by
  have entry : w.t2[i.val]? = some w.t2[i] := by simp
  simp only [entryPayload, entry, payload_get]
  refine ⟨rfl, fun j k h => ?_⟩
  obtain ⟨lt, e⟩ := List.getElem?_eq_some_iff.mp h
  rw [List.getD_cons_succ, List.getD_append _ _ _ _ (by simpa using lt), List.getD_eq_getElem _ _ (by simpa using lt)]
  simp only [List.bind_eq_flatMap, List.pure_def, ← List.map_eq_flatMap, List.getElem_map]
  rw [← e]
  rfl

theorem entryPayload_is (draw : Nat) (w : Tables) :
    (∀ i : Fin 4, PayloadIs (entryPayload draw w 0 i)
      [if w.t0[i].configured then 1 else 0, match w.t0[i].phase with | .l1 => 1 | .l2 => 2]) ∧
    (∀ i : Fin 64, PayloadIs (entryPayload draw w 1 i)
      ((if w.t1[i].present then 1 else 0) :: twoBytes w.t1[i].x ++ twoBytes w.t1[i].y ++ [BitVec.ofNat 8 w.t1[i].cls])) ∧
    (∀ i : Fin 64, w.t2[i].length ≤ 11 →
      (entryPayload draw w 2 i)[0] = BitVec.ofNat 8 w.t2[i].length ∧
        ∀ (j : Fin 11) (k : CoilId), w.t2[i][j.val]? = some k → (entryPayload draw w 2 i)[j.val + 1] = BitVec.ofNat 8 k) ∧
    (∀ i : Fin 3, PayloadIs (entryPayload draw w 3 i)
      (twoBytes (w.t3[i].rated / 10) ++ twoBytes w.t3[i].empty ++ twoBytes w.t3[i].full ++
        [BitVec.ofNat 8 w.t3[i].detect, BitVec.ofNat 8 w.t3[i].release, BitVec.ofNat 8 w.t3[i].fire])) ∧
    (∀ i : Fin 16, PayloadIs (entryPayload draw w 4 i)
      (twoBytes (w.t4[i].target / 10) ++ twoBytes (w.t4[i].floor / 10) ++ twoBytes (w.t4[i].ceiling / 10))) ∧
    (∀ i : Fin 32, PayloadIs (entryPayload draw w 5 i) [BitVec.ofNat 8 w.t5[i]]) ∧
    ∀ i : Fin 18, PayloadIs (entryPayload draw w 6 i)
      (twoBytes (if i = 5 ∨ i = 6 ∨ i = 7 ∨ i = 11 then w.t6[i] / 10 else w.t6[i])) := by
  have found {α : Type} {n : Nat} (v : Vector α n) (i : Fin n) : v[i.val]? = some v[i] := by simp
  refine ⟨fun i => ?_, fun i => ?_, entryPayload_t2 draw w, fun i => ?_, fun i => ?_, fun i => ?_, fun i => ?_⟩ <;>
    simp only [entryPayload, found, flag_zero, power16, field16_eq, isPowerParameter_iff] <;> refine payloadIs_of_eq ?_
  · cases w.t0[i].phase <;> rfl
  · rfl
  · rfl
  · rfl
  · rfl
  · rw [apply_ite twoBytes]

theorem orient_eq (w : Tables) (x y : Nat) :
    (w.t6[16] = 0 → orient w x y = (if w.t6[17] = 1 then 1023 - x else x, y)) ∧
      (w.t6[16] = 1 → orient w x y = (1023 - y, if w.t6[17] = 1 then 1023 - x else x)) ∧
      (w.t6[16] = 2 → orient w x y = (1023 - (if w.t6[17] = 1 then 1023 - x else x), 1023 - y)) ∧
      (w.t6[16] = 3 → orient w x y = (y, 1023 - (if w.t6[17] = 1 then 1023 - x else x))) := by
  have mirrored : w.mirror = true ↔ w.t6[17] = 1 := beq_iff_eq
  refine ⟨fun h => ?_, fun h => ?_, fun h => ?_, fun h => ?_⟩ <;> simp only [orient, Tables.rotation, h, mirrored]

/-! ### The judgements -/

/-- Settles O15: the judgement of each order that reads, then the layouts, cell by cell. -/
theorem readOrdersReply : Obligations.ReadOrdersReply := by
  refine ⟨⟨fun s t tag settled none => ?_, fun s t tag free => ?_, fun s t tag coil free => ?_, fun s t tag slot free => ?_,
    fun s t tag free => ?_, fun s t tag table start count free => ?_⟩, ⟨fun t => (lastEntry_eq t).symm, entryPayload_is, orient_eq, by decide⟩,
    fun s => ⟨senseReply_is, ?_, coilReply_is s, fun p => ?_, ?_⟩⟩
  · rw [exec_settled settled]
    exact congrArg _ (takeOrder_identify none t tag fun s => reply s (identifyReply s))
  · exact exec_order free (.fetchSense t tag) t tag 5 judgeFetch rfl
  · rw [exec_order free (.readCoil t tag coil) t tag 10 (fun s => judgeReadCoil s coil) rfl]
    exact ⟨fun known => congrArg _ (dif_pos known), fun unknown => congrArg _ ((dif_neg (Nat.not_lt.mpr unknown)).trans (endCheck_taken ..))⟩
  · rw [exec_order free (.readPan t tag slot) t tag 9 (fun s => judgeReadPan s slot) rfl]
    exact ⟨fun known => congrArg _ (dif_pos known), fun unknown => congrArg _ ((dif_neg (Nat.not_lt.mpr unknown)).trans (endCheck_taken ..))⟩
  · exact exec_order free (.readFault t tag) t tag 11 (fun s => openReply s (faultReply s)) rfl
  · rw [exec_order free (.readTable t tag table start count) t tag 15 (fun s => judgeRead s table start count) rfl]
    refine ⟨fun none => ?_, fun h => ?_⟩
    · have unknown : tableOf table = Option.none := dif_neg (by omega)
      simp only [judgeRead, unknown, endCheck_taken]
    · have known : tableOf table = some ⟨table.toNat, h⟩ := dif_pos h
      simp only [judgeRead, known, endCheck_taken]
      refine ⟨fun high => by rw [if_pos high], fun low => ?_, fun low => ?_⟩
      all_goals rw [if_neg (Nat.not_lt.mpr low)]
      · intro wrong
        rw [if_pos wrong]
      · intro one most
        rw [if_neg (by omega)]
        rfl
  · exact ⟨_, _, _, rfl, identify1_is s, by rw [identifyBoard_eq, identifyBoard_eq]; exact payloadIs_payload _,
      by rw [identifyBoard_eq, identifyBoard_eq]; exact payloadIs_payload _⟩
  · obtain ⟨state, prior, level, position⟩ := pan3_heat s p
    obtain ⟨basis, noBasis⟩ := pan5_basis s p
    obtain ⟨s2, s3, s4, s5, s6, s7, s10, s11⟩ := pan5_power s p
    refine ⟨_, _, _, _, _, _, rfl, ⟨pan1_is s p, pan2_is s p, fun g => pan3_signed, pan3_unsigned⟩,
      ⟨state, ?_, level, position, pan4_is s p⟩,
      basis, noBasis, s2, s3, s4, s5, s6, s7, fun m => pan5_lifted, s10, s11, List.length_mapIdx, fun i st h => ?_⟩
    · rw [prior]
      cases s.pans[p].heat.prior with
      | none => rfl
      | some mode => cases mode <;> rfl
    · refine ⟨stepPayload i st, ?_, ?_⟩
      · rw [List.getElem?_mapIdx, h]
        rfl
      · exact stepPayload_is i st
  · refine ⟨fault1 s, #v[faultLegs s 0, faultLegs s 1, faultLegs s 2, faultLegs s 3], rfl, fun r => fault1_recorded, fault1_empty, fun b i => ?_⟩
    have board : #v[faultLegs s 0, faultLegs s 1, faultLegs s 2, faultLegs s 3][b] = faultLegs s b := by
      match b with
      | 0 | 1 | 2 | 3 => rfl
    rw [board, faultLegs_bytes]
    have first (c : Nat) (same : s.pu.legs[legAt b i].cooldown.getD 0 = c) (fits : c ≤ 63) :
        (byte s.pu.legs[legAt b i].state.code <<< 6) ||| byte (s.pu.legs[legAt b i].cooldown.getD 0) =
          BitVec.ofNat 8 (s.pu.legs[legAt b i].state.code * 64 + c) := by
      rw [same]
      exact byte_pair _ _ 6 (by omega)
    cases h : s.pu.legs[legAt b i].windowStart with
    | none =>
      exact ⟨_, _, _, faultLeg_closed h, first, fun w e => absurd (h.symm.trans e) (by simp), fun _ => trips_masked ..⟩
    | some w =>
      refine ⟨_, _, _, faultLeg_open h, first, fun v e => ?_, fun e => absurd (h.symm.trans e) (by simp)⟩
      obtain rfl : w = v := Option.some.inj (h.symm.trans e)
      exact ⟨trips_windowed _ _ (by omega), rfl⟩

end Sys2Proof.Machine
end

section
/-! The mains and the timers: crossings, silences, losses of lock, and the timers' events (R109 to R111, R123, R162). -/

namespace Sys2Proof.Machine

-- The default arguments `by decide` wait for the kernel: one declaration after the other holds few threads.
set_option Elab.async false

/-! ### What is in window and what is silent (R109) -/

theorem halfPeriod_eq (hz : Nat) : halfPeriod hz = if hz = 60 then 8333 else 10000 := rfl

theorem crossingInWindow_iff (s : State) (t : Time) : crossingInWindow (s.arrive t) = true ↔ InWindow s (max s.now t) := by
  have last : (s.arrive t).fe.lastCrossing = s.fe.lastCrossing := rfl
  unfold crossingInWindow InWindow
  rw [last]
  cases s.fe.lastCrossing with
  | none => simp
  | some m => simp [inWindow, halfPeriod_eq, State.arrive]

/-- A crossing is judged once it has become the last crossing. -/
theorem crossing_good {s : State} {t : Time} (h : InWindow s (max s.now t)) : crossing s t = judgeCrossing (crossed s (max s.now t)) true := by
  rw [crossing, (crossingInWindow_iff s t).mpr h]
  rfl

theorem crossing_bad {s : State} {t : Time} (h : ¬ InWindow s (max s.now t)) : crossing s t = judgeCrossing (crossed s (max s.now t)) false := by
  rw [crossing, Bool.eq_false_iff.mpr fun c => h ((crossingInWindow_iff s t).mp c)]
  rfl

theorem judgeCrossing_unlocked {s : State} (h : s.fe.lock = .unlocked) (good : Bool) :
    judgeCrossing s good = { s with fe := { s.fe with lock := .locking, lockCount := 1 } } := by
  unfold judgeCrossing
  split
  · rfl
  · next c => rw [h] at c; cases c
  · next c => rw [h] at c; cases c

theorem judgeCrossing_locking {s : State} (h : s.fe.lock = .locking) (good : Bool) :
    judgeCrossing s good =
      if good then
        if s.fe.lockCount < 7 then { s with fe := { s.fe with lockCount := s.fe.lockCount + 1 } } else slotStart (enterLocked s)
      else { s with fe := { s.fe with lockCount := 1 } } := by
  unfold judgeCrossing
  split
  · next c => rw [h] at c; cases c
  · rfl
  · next c => rw [h] at c; cases c

theorem judgeCrossing_locked {s : State} (h : s.fe.lock = .locked) (good : Bool) :
    judgeCrossing s good =
      if good then slotStart s else (loseLock s .outOfWindow).modFe fun fe => { fe with lock := .locking, lockCount := 1 } := by
  unfold judgeCrossing
  split
  · next c => rw [h] at c; cases c
  · next c => rw [h] at c; cases c
  · rfl

/-- R109, R111: the crossing that locks the mains. -/
theorem enterLocked_crossed (s : State) (m : Time) : enterLocked (crossed s m) = lockedAt s m := by
  unfold enterLocked unlockedFor lockedAt
  have loss : (((crossed s m).modFe fun fe => { fe with lock := .locked, lockCount := 0, unlockTimer := none })).fe.lastLoss = s.fe.lastLoss := rfl
  rfl

/-- R112: no slot starts while the hub is not READY. -/
theorem slotStart_idle {s : State} (h : s.sup.hub ≠ .ready) : slotStart s = s := if_neg h

/-- Settles O9: by the lock state, the window and the count. -/
theorem crossingsBringLock : Obligations.CrossingsBringLock := by
  intro s t settled
  rw [exec_settled settled]
  change (_ → Host.Outcome.next (crossing s t) = _) ∧ (_ → _ → Host.Outcome.next (crossing s t) = _) ∧
    (_ → _ → _ → Host.Outcome.next (crossing s t) = _) ∧ (_ → _ → _ → _ → Host.Outcome.next (crossing s t) = _) ∧
    (_ → _ → _ → Host.Outcome.next (crossing s t) = _)
  refine ⟨fun unlocked => ?_, fun locking bad => ?_, fun locking good few => ?_, fun locking good seven low => ?_, fun locked good low => ?_⟩
  · rw [crossing]
    exact congrArg _ (judgeCrossing_unlocked (s := crossed s (max s.now t)) unlocked _)
  · rw [crossing_bad bad, judgeCrossing_locking (by exact locking), if_neg Bool.false_ne_true]
  · rw [crossing_good good, judgeCrossing_locking (by exact locking), if_pos rfl, if_pos (by exact few)]
    rfl
  · rw [crossing_good good, judgeCrossing_locking (by exact locking), if_pos rfl, if_neg (by exact Nat.not_lt.mpr seven), enterLocked_crossed,
      slotStart_idle (by simp only [lockedAt, queueNotice_keeps]; exact low)]
    rfl
  · rw [crossing_good good, judgeCrossing_locked (by exact locked), if_pos rfl, slotStart_idle (by exact low)]

/-! ### A loss of lock (R110) -/

theorem silent_iff (s : State) (t : Time) :
    Silent s (max s.now t) ↔ ∃ last, s.fe.lastCrossing = some last ∧ silent s.fe.freq (max s.now t - last) = true := by
  simp [Silent, silent, halfPeriod_eq]

/-- R109: a silence is judged by the lock state. -/
theorem judgeSilence_silent {s : State} {t : Time} (h : Silent s (max s.now t)) :
    judgeSilence (s.arrive t) =
      match s.fe.lock with
      | .unlocked => s.arrive t
      | .locking => (s.arrive t).modFe fun fe => { fe with lock := .unlocked, lockCount := 0 }
      | .locked => (loseLock (s.arrive t) .noCrossing).modFe fun fe => { fe with lock := .unlocked, lockCount := 0 } := by
  obtain ⟨last, some, quiet⟩ := (silent_iff s t).mp h
  have some : (s.arrive t).fe.lastCrossing = Option.some last := some
  rw [judgeSilence, some]
  exact if_pos quiet

theorem judgeSilence_heard {s : State} {t : Time} (h : ¬ Silent s (max s.now t)) : judgeSilence (s.arrive t) = s.arrive t := by
  unfold judgeSilence
  split
  · rfl
  · next last some => exact if_neg fun quiet => h ((silent_iff s t).mpr ⟨last, some, quiet⟩)

/-- R110: the six steps of a loss of lock. -/
theorem loseLock_eq (s : State) (cause : LossCause) :
    loseLock s cause =
      { queueNotice { s with
                      fe := { s.fe with emitted := Vector.replicate 8 0, frameOpen := false }
                      pans := noneDelivered s, boards := allOff s } .mainsLost 0 cause.code s.fe.serial.toNat with
        fe := { s.fe with
                emitted := Vector.replicate 8 0, frameOpen := false
                unlockTimer := if s.fe.hob = .running then some s.now else s.fe.unlockTimer, lastLoss := some s.now }
        posts := { s.posts with losses := s.posts.losses ++ [cause] } } := by
  rw [loseLock, cutFrame_eq, offNowAll_eq]
  simp only [postLoss, State.modPosts, State.modFe, queueNotice_keeps]
  rfl

/-- Settles O10: the six steps of R110 at a crossing and at a silence. -/
theorem lossOfLock : Obligations.LossOfLock := by
  intro s t settled
  refine ⟨fun locked bad => ?_, fun locked quiet => ?_, fun locking quiet => ?_, fun other => ?_⟩ <;> rw [exec_settled settled]
  · have judged : action (.zeroCrossing t) s = crossing s t := rfl
    rw [judged, crossing_bad bad, judgeCrossing_locked (by exact locked), if_neg Bool.false_ne_true, loseLock_eq]
    rfl
  all_goals have judged : action (.mainsSilence t) s = judgeSilence (s.arrive t) := rfl
  · rw [judged, judgeSilence_silent quiet, locked]
    dsimp only
    rw [loseLock_eq]
    rfl
  · rw [judged, judgeSilence_silent quiet, locking]
    rfl
  · rw [judged]
    by_cases quiet : Silent s (max s.now t)
    · rw [judgeSilence_silent quiet, other.resolve_right (not_not_intro quiet)]
      rfl
    · rw [judgeSilence_heard quiet]
      rfl

/-! ### The timers -/

theorem judgeUnlock_over {s : State} {m : Time} (h : s.fe.unlockTimer = some m) (c : 2000000 ≤ s.now - m) :
    judgeUnlock s =
      { s with fe := { s.fe with unlockTimer := none }, posts := { s.posts with haltCauses := s.posts.haltCauses ++ [.mains] } } := by
  rw [judgeUnlock, h]
  exact if_pos c

theorem judgeUnlock_runs {s : State} (h : ∀ m, s.fe.unlockTimer = some m → s.now - m < 2000000) : judgeUnlock s = s := by
  unfold judgeUnlock
  split
  · rfl
  · next m some => exact if_neg (Nat.not_le.mpr (h m some))

theorem judgeQuiet_over {s : State} {m : Time} (h : s.cp.silence = some m) (c : s.cp.timeout * 1000 ≤ s.now - m) :
    judgeQuiet s =
      { s with cp := { s.cp with silence := none }, posts := { s.posts with haltCauses := s.posts.haltCauses ++ [.silence] } } := by
  rw [judgeQuiet, h]
  exact if_pos c

theorem judgeQuiet_runs {s : State} (h : ∀ m, s.cp.silence = some m → s.now - m < s.cp.timeout * 1000) : judgeQuiet s = s := by
  unfold judgeQuiet
  split
  · rfl
  · next m some => exact if_neg (Nat.not_le.mpr (h m some))

/-- Settles O11: each timer by whether it has run its time. -/
theorem timersPostTheirEvents : Obligations.TimersPostTheirEvents := by
  refine ⟨⟨fun s t m settled runs past => ?_, fun s t settled short => ?_, fun s settled => exec_settled settled _⟩,
    fun s t settled => ⟨fun m runs past => ?_, fun short => ?_⟩⟩ <;> rw [exec_settled settled]
  · exact congrArg _ (judgeUnlock_over (s := s.arrive t) runs past)
  · exact congrArg _ (judgeUnlock_runs (s := s.arrive t) short)
  · exact congrArg _ (judgeQuiet_over (s := s.arrive t) runs past)
  · exact congrArg _ (judgeQuiet_runs (s := s.arrive t) short)

end Sys2Proof.Machine
end

section
/-! The emission of a slot: its tests, and what the kept firings keep within (R118, R119). -/

namespace Sys2Proof.Machine

-- The default arguments `by decide` wait for the kernel: one declaration after the other holds few threads.
set_option Elab.async false

theorem boardHeld_iff (s : State) (b : BoardId) : boardHeld s b = false ↔ ∀ r : SlotRecord, s.boards[b].slot = some r → r.hold = false := by
  unfold boardHeld
  cases s.boards[b].slot <;> simp

theorem standing_iff (p : Presence) : p.standing = true ↔ p = .placed ∨ p = .moving := by cases p <;> simp [Presence.standing]

theorem heating_iff (h : HeatState) : h.heating = true ↔ h = .level ∨ h = .program := by cases h <;> simp [HeatState.heating]

/-- R118: the tests of a firing against those kept before it. -/
structure Passes (s : State) (e : Emission) (x : Firing) : Prop where
  online : s.boards[coilBoard x.coil].state = .online
  released : boardHeld s (coilBoard x.coil) = false
  member : s.coils[x.coil].occupancy = .member
  owner : s.coils[x.coil].owner = some x.pan
  standing : s.pans[x.pan].pres.presence.standing = true
  heating : s.pans[x.pan].heat.state.heating = true
  eligible : eligible s x.coil = true
  cap : e.emitted[x.pan] + x.setpoint ≤ s.pans[x.pan].alloc.g * s.fe.f
  phase : setpoints (e.kept.filter fun y => s.ts.work.phaseOf (coilBoard y.coil) == s.ts.work.phaseOf (coilBoard x.coil)) + x.setpoint ≤
    s.ts.work.phaseLimit (s.ts.work.phaseOf (coilBoard x.coil))
  hob : setpoints e.kept + x.setpoint ≤ s.ts.work.hobLimit

theorem keeps_iff (s : State) (e : Emission) (x : Firing) : keeps s e x = true ↔ Passes s e x := by
  simp only [keeps, Bool.and_eq_true, beq_iff_eq, Bool.not_eq_true', decide_eq_true_eq]
  exact ⟨fun ⟨⟨⟨⟨⟨⟨⟨⟨⟨a, b⟩, c⟩, d⟩, e⟩, f⟩, g⟩, h⟩, i⟩, j⟩ => ⟨a, b, c, d, e, f, g, h, i, j⟩,
    fun ⟨a, b, c, d, e, f, g, h, i, j⟩ => ⟨⟨⟨⟨⟨⟨⟨⟨⟨a, b⟩, c⟩, d⟩, e⟩, f⟩, g⟩, h⟩, i⟩, j⟩⟩

theorem emitOne_kept {s : State} {e : Emission} {x : Firing} (h : Passes s e x) :
    emitOne s e x = ⟨e.kept ++ [x], e.emitted.set x.pan (e.emitted[x.pan] + x.setpoint)⟩ := if_pos ((keeps_iff s e x).mpr h)

theorem emitOne_dropped {s : State} {e : Emission} {x : Firing} (h : ¬ Passes s e x) : emitOne s e x = e :=
  if_neg fun c => h ((keeps_iff s e x).mp c)

theorem setpoints_append (a b : List Firing) : setpoints (a ++ b) = setpoints a + setpoints b := by simp [setpoints]

theorem setpoints_one (x : Firing) : setpoints [x] = x.setpoint := by simp [setpoints]

/-- R118: what the firings kept so far keep within. -/
structure WithinLimits (s : State) (list : List Firing) (e : Emission) : Prop where
  tested : ∀ x ∈ e.kept, x ∈ list ∧ ∃ before, Passes s before x
  phase : ∀ ph : Phase, setpoints (e.kept.filter fun x => s.ts.work.phaseOf (coilBoard x.coil) == ph) ≤ s.ts.work.phaseLimit ph
  hob : setpoints e.kept ≤ s.ts.work.hobLimit
  energy : ∀ p : PanSlot, e.emitted[p] = s.fe.emitted[p] + setpoints (e.kept.filter fun x => x.pan == p)
  cap : ∀ p : PanSlot, e.emitted[p] ≤ max s.fe.emitted[p] (s.pans[p].alloc.g * s.fe.f)

theorem WithinLimits.start (s : State) (list : List Firing) : WithinLimits s list ⟨[], s.fe.emitted⟩ where
  tested _ h := absurd h (List.not_mem_nil)
  phase _ := Nat.zero_le _
  hob := Nat.zero_le _
  energy _ := rfl
  cap _ := Nat.le_max_left ..

theorem WithinLimits.step {s : State} {list : List Firing} {e : Emission} (h : WithinLimits s list e) {x : Firing} (mem : x ∈ list) :
    WithinLimits s list (emitOne s e x) := by
  by_cases passes : Passes s e x
  · rw [emitOne_kept passes]
    have spent (p : PanSlot) : (e.emitted.set x.pan (e.emitted[x.pan] + x.setpoint))[p] =
        if x.pan = p then e.emitted[x.pan] + x.setpoint else e.emitted[p] := Laws.set_get ..
    refine ⟨fun y kept => ?_, fun ph => ?_, ?_, fun p => ?_, fun p => ?_⟩
    · rcases List.mem_append.mp kept with old | new
      · exact h.tested y old
      · obtain rfl := List.mem_singleton.mp new
        exact ⟨mem, e, passes⟩
    · rw [List.filter_append, setpoints_append]
      by_cases same : s.ts.work.phaseOf (coilBoard x.coil) = ph
      · subst same
        simpa [setpoints_one] using passes.phase
      · simpa [same, setpoints] using h.phase ph
    · rw [setpoints_append, setpoints_one]
      exact passes.hob
    · rw [spent, List.filter_append, setpoints_append]
      by_cases same : x.pan = p
      · subst same
        simp [setpoints_one, h.energy, Nat.add_assoc]
      · simp [same, h.energy, setpoints]
    · rw [spent]
      by_cases same : x.pan = p
      · subst same
        rw [if_pos rfl]
        exact passes.cap.trans (Nat.le_max_right ..)
      · rw [if_neg same]
        exact h.cap p
  · rwa [emitOne_dropped passes]

theorem emission_running {s : State} (run : s.fe.hob = .running) (swapped : s.fe.awaiting = false) :
    emission s = (activeList s s.fe.slotIndex).foldl (emitOne s) ⟨[], s.fe.emitted⟩ := if_pos ⟨run, swapped⟩

theorem emission_none {s : State} (h : s.fe.hob ≠ .running ∨ s.fe.awaiting = true) : emission s = ⟨[], s.fe.emitted⟩ :=
  if_neg fun c => h.elim (fun n => n c.1) fun n => ne_true_of_eq_false c.2 n

theorem emission_within (s : State) : WithinLimits s (activeList s s.fe.slotIndex) (emission s) := by
  unfold emission
  split
  · have folds (rest : List Firing) (sub : rest ⊆ activeList s s.fe.slotIndex) (e : Emission) (h : WithinLimits s (activeList s s.fe.slotIndex) e) :
        WithinLimits s (activeList s s.fe.slotIndex) (rest.foldl (emitOne s) e) := by
      induction rest generalizing e with
      | nil => exact h
      | cons x rest ih => exact ih (fun _ m => sub (List.mem_cons_of_mem _ m)) _ (h.step (sub List.mem_cons_self))
    exact folds _ (List.Subset.refl _) _ (.start ..)
  · exact .start ..

theorem coilAt_selector {k : CoilId} {b : BoardId} {l : LocalLeg} (h : coilLeg k = legAt b l) : coilAt b l (coilSelector k) = k := by
  have := congrArg Fin.val h
  simp only [coilLeg, legAt] at this
  refine Fin.ext ?_
  simp only [coilAt, coilSelector]
  omega

/-- R119: a leg is given a kept firing of its own. -/
theorem driveLeg_fire {s : State} {kept : List Firing} {b : BoardId} {l : LocalLeg} {sel : Selector} {sp : Nat} {p : PanSlot}
    (h : driveLeg s kept b l = .fire sel sp p) : (⟨coilAt b l sel, p, sp⟩ : Firing) ∈ kept ∧ driveKind s b = .active := by
  unfold driveLeg at h
  split at h
  · cases h
  · next active =>
    split at h
    · next x found =>
      cases h
      have leg : coilLeg x.coil = legAt b l := by simpa using List.find?_some found
      rw [coilAt_selector leg]
      exact ⟨List.mem_of_find?_eq_some found, active⟩
    · cases h
  · split at h <;> cases h

/-- Settles O13: by induction on the list of the slot; a leg's firing is one that `find?` finds among the kept. -/
theorem emissionStaysWithinLimits : Obligations.EmissionStaysWithinLimits := by
  refine ⟨fun s => ?_, fun s => ⟨emission_running, emission_none, fun e x => ?_⟩⟩
  · obtain ⟨tested, phase, hob, energy, cap⟩ := emission_within s
    refine ⟨fun x kept => ?_, phase, hob, fun p => ⟨energy p, cap p⟩, fun b l sel sp p h => (driveLeg_fire h).1⟩
    obtain ⟨mem, before, passes⟩ := tested x kept
    have runs : s.fe.hob = .running ∧ s.fe.awaiting = false := by
      by_contra c
      rw [emission, if_neg c] at kept
      exact absurd kept List.not_mem_nil
    exact ⟨mem, runs.1, runs.2, passes.online, passes.released, passes.eligible, passes.owner, passes.standing, passes.heating⟩
  · refine ⟨fun ⟨online, released, member, owner, standing, heating, eligible, cap, phase, hob⟩ => ?_, fun h => emitOne_dropped fun c => h ?_⟩
    · exact emitOne_kept ⟨online, (boardHeld_iff ..).mpr released, member, owner, (standing_iff _).mpr standing,
        (heating_iff _).mpr heating, eligible, cap, phase, hob⟩
    · exact ⟨c.online, (boardHeld_iff ..).mp c.released, c.member, c.owner, (standing_iff _).mp c.standing, (heating_iff _).mp c.heating,
        c.eligible, c.cap, c.phase, c.hob⟩

end Sys2Proof.Machine
end

section
/-! Slot starts: which slot begins, the drive cells, and how a Board Port takes one (R112, R113, R119, R120, R148 to R152). -/

namespace Sys2Proof.Machine

-- The default arguments `by decide` wait for the kernel: one declaration after the other holds few threads.
set_option Elab.async false

/-! ### What a Board Port and a trip leave unchanged -/

/-- Only the Protection Unit, the Board Ports, posts other than the frame ends and the swap notices, and notices may differ. -/
def PortFrame (s u : State) : Prop :=
  u = { s with
        pu := u.pu, boards := u.boards
        posts := { u.posts with ptFrameEnds := s.posts.ptFrameEnds, puFrameEnds := s.posts.puFrameEnds, swaps := s.posts.swaps }
        cp := { s.cp with notices := u.cp.notices, gap := u.cp.gap } }

theorem PortFrame.of {s u : State} {pu : Protection} {boards : Vector BoardPort 4} {posts : Posts} {cp : ControllerPort}
    (h : u = { s with
               pu := pu, boards := boards
               posts := { posts with ptFrameEnds := s.posts.ptFrameEnds, puFrameEnds := s.posts.puFrameEnds, swaps := s.posts.swaps }
               cp := { s.cp with notices := cp.notices, gap := cp.gap } }) : PortFrame s u := by
  subst h
  rfl

theorem PortFrame.refl (s : State) : PortFrame s s := rfl

theorem PortFrame.trans {s t u : State} (h : PortFrame s t) (g : PortFrame t u) : PortFrame s u := by
  unfold PortFrame at g
  rw [h] at g
  exact .of g

theorem PortFrame.ite {c : Prop} [Decidable c] {s t u : State} (h : PortFrame s t) (g : PortFrame s u) : PortFrame s (if c then t else u) := by
  split
  · exact h
  · exact g

theorem PortFrame.foldl {α : Type} {f : State → α → State} (h : ∀ v a, PortFrame v (f v a)) (as : List α) (s : State) :
    PortFrame s (as.foldl f s) := by
  induction as generalizing s with
  | nil => exact refl s
  | cons a as ih => exact (h s a).trans (ih (f s a))

theorem queueNotice_portFrame (s : State) (kind : NoticeKind) (subject : Byte) (first second : Nat) :
    PortFrame s (queueNotice s kind subject first second) := .of (queueNotice_frame s kind subject first second)

theorem changeLeg_portFrame (s : State) (l : LegId) (f : LegRecord → LegRecord) : PortFrame s (changeLeg s l f) := by
  obtain ⟨r, e⟩ := changeLeg_frame s l f
  exact .of (posts := { s.posts with cmClaims := (changeLeg s l f).posts.cmClaims, triggers := (changeLeg s l f).posts.triggers })
    (cp := s.cp) e

theorem protective_portFrame (s : State) (kind : FaultKind) (board : Option BoardId) (leg : Option LegId) (coil : Option CoilId) (value : Nat) :
    PortFrame s (protective s kind board leg coil value) := .of (posts := s.posts) (cp := s.cp) (protective_frame s kind board leg coil value)

theorem trip_portFrame (s : State) (l : LegId) (cause : TripCause) (coil : Option CoilId) (value : Nat) :
    PortFrame s (trip s l cause coil value) := by
  unfold trip
  refine .ite (.refl s) ?_
  have changed : PortFrame s (postOffNow (changeLeg s l (tripped s l)) l) := (changeLeg_portFrame s l _).trans rfl
  have told := changed.trans (queueNotice_portFrame _ .legTripped (BitVec.ofNat 8 l.val) cause.kind.code (tripCount s l))
  have locked := PortFrame.ite (c := tripCount s l < 3) told
    (told.trans (queueNotice_portFrame _ .legLocked (BitVec.ofNat 8 l.val) (tripCount s l) 0))
  have captured := locked.trans (protective_portFrame _ cause.kind (some (legBoard l)) (some l) coil value)
  exact .ite captured (captured.trans rfl)

/-- R146: the Board Ports after a board has left. -/
theorem boardLeaves_boards (s : State) (b : BoardId) (failed : Bool) (cause : BoardCause) :
    (boardLeaves s b failed cause).boards = s.boards.set b (closedPort failed s.boards[b]) := by
  unfold boardLeaves
  dsimp only
  have kept (c : Prop) [Decidable c] (u : State) (f : State → State) (h : (f u).boards = u.boards) :
      (if c then f u else u).boards = u.boards := by
    split
    · exact h
    · rfl
  refine (kept _ _ (postHaltCause · .noBoards) rfl).trans ((kept _ _ (postTrigger · (.boardState b)) rfl).trans ?_)
  simp only [postPuBoard, postCmBoard, State.modPosts, queueNotice_keeps]
  rfl

theorem boardLeaves_portFrame (s : State) (b : BoardId) (failed : Bool) (cause : BoardCause) : PortFrame s (boardLeaves s b failed cause) := by
  unfold boardLeaves
  dsimp only
  have closed : PortFrame s (s.modBoard b (closedPort failed)) := rfl
  have told := closed.trans (queueNotice_portFrame _ .boardOffline (BitVec.ofNat 8 b.val) cause.code (if failed then 1 else 0))
  have posted := told.trans (t := _) (u := postPuBoard (postCmBoard _ b (.out failed)) b (.out failed)) rfl
  have triggered := PortFrame.ite (c := s.boards[b].state = .online) (posted.trans (u := postTrigger _ (.boardState b)) rfl) posted
  exact .ite (triggered.trans rfl) triggered

/-! ### Taking a drive cell -/

theorem trips_boards (port : BoardPort) (b : BoardId) (ls : List LocalLeg) (s : State) : (ls.foldl (tripSilent port b) s).boards = s.boards :=
  (Touches.foldl (fun v l => trip_touches v (legAt b l) .noReport _ _) ls s).kept .boards

/-- R149 to R152: the Board Port once the ended slot is judged. -/
def slotJudged (s : State) (b : BoardId) (r : SlotRecord) : State :=
  { (four.filter (noReportDue s.boards[b] r)).foldl (tripSilent s.boards[b] b) s with
    boards := s.boards.set b
      { s.boards[b] with
        noReport := noReportRuns s.boards[b] r
        missed := if slotComplete r then 0 else s.boards[b].missed + 1
        holdRun := if r.hold then s.boards[b].holdRun + 1 else 0 } }

theorem judgeSlot_eq (s : State) (b : BoardId) (r : SlotRecord) :
    judgeSlot s b r =
      if 3 ≤ (if slotComplete r then 0 else s.boards[b].missed + 1) then boardLeaves (slotJudged s b r) b false .missedSlots
      else if 51 ≤ (if r.hold then s.boards[b].holdRun + 1 else 0) then boardLeaves (slotJudged s b r) b false .hold
      else slotJudged s b r := by
  have judged : ((four.filter (noReportDue s.boards[b] r)).foldl (tripSilent s.boards[b] b) s).modBoard b (fun q =>
      { q with
        noReport := noReportRuns s.boards[b] r
        missed := if slotComplete r then 0 else q.missed + 1
        holdRun := if r.hold then q.holdRun + 1 else 0 }) = slotJudged s b r := by
    simp only [State.modBoard, trips_boards]
    rfl
  have port : (slotJudged s b r).boards[b] = _ := (Laws.set_get _ b b _).trans (if_pos rfl)
  unfold judgeSlot
  dsimp only
  rw [judged, port]

end Sys2Proof.Machine
end

section
/-! Slot starts, continued: a Board Port takes its drive cell (R148 to R152). -/

namespace Sys2Proof.Machine

-- The default arguments `by decide` wait for the kernel: one declaration after the other holds few threads.
set_option Elab.async false

/-- R148: a Board Port that has no slot record opens one. -/
theorem takeDrive_first {s : State} {b : BoardId} (online : s.boards[b].state = .online) (none : s.boards[b].slot = none) (cell : DriveCell) :
    takeDrive s b cell = s.modBoard b (openSlot b cell) := by
  unfold takeDrive
  dsimp only
  rw [none]
  exact if_pos online

/-- R148: a Board Port that judges its ended slot, and stays ONLINE, opens a new record. -/
theorem takeDrive_judged {s : State} {b : BoardId} {r : SlotRecord} (slot : s.boards[b].slot = some r) (cell : DriveCell) :
    takeDrive s b cell =
      if (judgeSlot s b r).boards[b].state = .online then
        (judgeSlot s b r).modBoard b (openSlot b (clearSilent s.boards[b] (some r) cell))
      else judgeSlot s b r := by
  unfold takeDrive
  dsimp only
  rw [slot]

theorem boardLeaves_port (s : State) (b : BoardId) (failed : Bool) (cause : BoardCause) :
    (boardLeaves s b failed cause).boards[b] = closedPort failed s.boards[b] := by
  rw [boardLeaves_boards, Laws.set_get, if_pos rfl]

/-- R146: a board that its judgement takes out of service opens no record. -/
theorem takeDrive_out {s : State} {b : BoardId} {r : SlotRecord} (slot : s.boards[b].slot = some r) (cell : DriveCell) {v : State}
    {cause : BoardCause} (out : judgeSlot s b r = boardLeaves v b false cause) : takeDrive s b cell = boardLeaves v b false cause := by
  rw [takeDrive_judged slot, out, boardLeaves_port, if_neg (show ¬ (closedPort false v.boards[b]).state = .online from nofun)]

theorem slotJudged_port (s : State) (b : BoardId) (r : SlotRecord) :
    (slotJudged s b r).boards[b] =
      { s.boards[b] with
        noReport := noReportRuns s.boards[b] r
        missed := if slotComplete r then 0 else s.boards[b].missed + 1
        holdRun := if r.hold then s.boards[b].holdRun + 1 else 0 } := (Laws.set_get _ b b _).trans (if_pos rfl)

theorem takeDrive_stays {s : State} {b : BoardId} {r : SlotRecord} (online : s.boards[b].state = .online) (slot : s.boards[b].slot = some r)
    (cell : DriveCell) (stays : judgeSlot s b r = slotJudged s b r) :
    takeDrive s b cell = (slotJudged s b r).modBoard b (openSlot b (clearSilent s.boards[b] (some r) cell)) := by
  rw [takeDrive_judged slot, stays, slotJudged_port, if_pos (by exact online)]

theorem slotComplete_iff (r : SlotRecord) : slotComplete r = true ↔ ∀ l : LocalLeg, r.reported[l] = true := by
  simp [slotComplete, four, Fin.forall_fin_succ]

theorem driveTaken (s : State) (b : BoardId) (cell : DriveCell) (online : s.boards[b].state = .online) :
    let port := s.boards[b]
    let opened (v : State) (cell : DriveCell) : State :=
      { v with
        boards := v.boards.set b
          { v.boards[b] with
            serial := some cell.serial
            slot := some ⟨cell.legs, Vector.replicate 4 false, false⟩
            lastFiring := Vector.ofFn fun l =>
              match cell.legs[l] with
              | .fire sel sp _ => some (coilAt b l sel, sp)
              | _ => port.lastFiring[l]
            txDrive := some cell } }
    (port.slot = none → takeDrive s b cell = opened s cell) ∧
    ∀ r : SlotRecord, port.slot = some r →
      let silent (l : LocalLeg) : Bool :=
        match r.drive[l] with
        | .fire _ _ _ => !r.reported[l]
        | _ => false
      let due (l : LocalLeg) : Bool := silent l && decide (1 ≤ port.noReport[l])
      let missed : Nat := if ∀ l : LocalLeg, r.reported[l] = true then 0 else port.missed + 1
      let holdRun : Nat := if r.hold then port.holdRun + 1 else 0
      let tripped : State := (four.filter due).foldl
        (fun v l => trip v (legAt b l) .noReport (port.lastFiring[l].map (·.1)) ((port.lastFiring[l].map (·.2)).getD 0)) s
      let judged : State :=
        { tripped with
          boards := s.boards.set b
            { port with
              noReport := Vector.ofFn fun l => if silent l && !due l then port.noReport[l] + 1 else 0
              missed := missed, holdRun := holdRun } }
      (3 ≤ missed → takeDrive s b cell = boardLeaves judged b false .missedSlots) ∧
      (missed < 3 → 51 ≤ holdRun → takeDrive s b cell = boardLeaves judged b false .hold) ∧
      (missed < 3 → holdRun < 51 →
        takeDrive s b cell =
          opened judged
            { cell with
              legs := Vector.ofFn fun l =>
                match cell.legs[l] with
                | .fire sel sp sync => if due l then .none else .fire sel sp sync
                | d => d }) := by
  intro port opened
  have firings (v : State) (legs : DriveCell) (h : v.boards[b].lastFiring = port.lastFiring) :
      v.modBoard b (openSlot b legs) = opened v legs := by
    have last : lastFirings b legs v.boards[b].lastFiring = Vector.ofFn fun l =>
        match legs.legs[l] with
        | .fire sel sp _ => some (coilAt b l sel, sp)
        | _ => port.lastFiring[l] := by
      rw [h]
      refine congrArg Vector.ofFn (funext fun l => ?_)
      cases legs.legs[l] <;> rfl
    exact congrArg (fun f => v.modBoard b fun port => { openSlot b legs port with lastFiring := f }) last
  refine ⟨fun none => (takeDrive_first online none cell).trans (firings s cell rfl), fun r slot => ?_⟩
  intro silent due missed holdRun tripped judged
  have silent_eq : silentLeg r = silent := funext fun l => by
    unfold silentLeg
    change _ = match r.drive[l] with | .fire _ _ _ => !r.reported[l] | _ => false
    cases r.drive[l] <;> rfl
  have due_eq : noReportDue port r = due := funext fun l => by
    unfold noReportDue
    rw [silent_eq]
  have missed_eq : (if slotComplete r then 0 else port.missed + 1) = missed := by
    simp only [missed, slotComplete_iff]
  have judged_eq : slotJudged s b r = judged := by
    unfold slotJudged noReportRuns
    rw [missed_eq, due_eq, silent_eq]
    rfl
  have cleared : clearSilent port (some r) cell =
      { cell with
        legs := Vector.ofFn fun l =>
          match cell.legs[l] with
          | .fire sel sp sync => if due l then .none else .fire sel sp sync
          | d => d } := by
    rw [clearSilent, due_eq]
    refine congrArg (fun legs => { cell with legs := Vector.ofFn legs }) (funext fun l => ?_)
    cases cell.legs[l] <;> rfl
  have eq := judgeSlot_eq s b r
  rw [missed_eq, judged_eq] at eq
  refine ⟨fun h => takeDrive_out slot cell (eq.trans (if_pos h)),
    fun h g => takeDrive_out slot cell (eq.trans ((if_neg (Nat.not_le.mpr h)).trans (if_pos g))), fun h g => ?_⟩
  have stays := eq.trans ((if_neg (Nat.not_le.mpr h)).trans (if_neg (Nat.not_le.mpr g)))
  rw [takeDrive_stays online slot cell (stays.trans judged_eq.symm), judged_eq, cleared]
  exact firings _ _ ((congrArg (fun u : State => u.boards[b].lastFiring) judged_eq.symm :).trans (congrArg BoardPort.lastFiring (slotJudged_port s b r) :))

/-! ### Which slot begins, and its drive cells -/

/-- R112, R113: which slot begins, as the statements put it. -/
theorem beginSlot_eq (c : State) : beginSlot c = slotBegun c := by
  have goes : decide (c.fe.f + c.fe.q ≤ c.fe.slotIndex + 1) = !decide (c.fe.slotIndex + 1 < c.fe.f + c.fe.q) := by
    rw [← decide_not]
    exact decide_eq_decide.mpr Nat.not_lt.symm
  unfold beginSlot slotBegun frameStart frameEnd swapBanks
  rw [goes]
  cases o : c.fe.frameOpen <;> cases w : c.fe.swapPending <;> by_cases k : c.fe.slotIndex + 1 < c.fe.f + c.fe.q <;>
    simp [State.modFe, State.modPosts, State.modPans, o, w, k]

/-- R113: a slot start changes at most the delivered power of a pan. -/
theorem slotBegun_pan (c : State) (p : PanSlot) :
    (slotBegun c).pans[p] =
      { c.pans[p] with
        delivered := if c.fe.frameOpen && decide (c.fe.f + c.fe.q ≤ c.fe.slotIndex + 1) then c.fe.emitted[p] / c.fe.f else c.pans[p].delivered } :=
  Vector.getElem_ofFn ..

theorem slotStart_ready {c : State} (ready : c.sup.hub = .ready) : slotStart c = emitSlot (slotBegun c) :=
  (if_pos ready).trans (congrArg emitSlot (beginSlot_eq c))

theorem boardHeld_eq (s : State) (b : BoardId) : boardHeld s b = (s.boards[b].slot.map (·.hold)).getD false := by
  unfold boardHeld
  cases s.boards[b].slot <;> rfl

/-- R112: the crossing that brings a slot start, in LOCKED mains or as the one that locks them. -/
theorem slotCrossing {s c : State} {t : Time} (good : InWindow s (max s.now t)) (ready : s.sup.hub = .ready)
    (h : (s.fe.lock = .locked ∧ c = crossed s (max s.now t)) ∨ (s.fe.lock = .locking ∧ 7 ≤ s.fe.lockCount ∧ c = lockedAt s (max s.now t))) :
    action (.zeroCrossing t) s = emitSlot (slotBegun c) := by
  have judged : action (.zeroCrossing t) s = crossing s t := rfl
  rw [judged, crossing_good good]
  rcases h with ⟨locked, rfl⟩ | ⟨locking, seven, rfl⟩
  · rw [judgeCrossing_locked (by exact locked), if_pos rfl, slotStart_ready (by exact ready)]
  · rw [judgeCrossing_locking (by exact locking), if_pos rfl, if_neg (by exact Nat.not_lt.mpr seven), enterLocked_crossed,
      slotStart_ready (by simp only [lockedAt, queueNotice_keeps]; exact ready)]

theorem slotEmitted (c : State) :
    let u : State := slotBegun c
    let active : Bool := decide (u.fe.slotIndex < c.fe.f)
    let e : Emission := if active then emission u else ⟨[], u.fe.emitted⟩
    let held (b : BoardId) : Bool := (c.boards[b].slot.map (·.hold)).getD false
    let probed (l : LegId) : Option Selector :=
      if c.pu.legs[l].state = .ready ∧ c.boards[legBoard l].state = .online ∧ held (legBoard l) = false then
        [c.fe.probe[l], c.fe.probe[l] + 1, c.fe.probe[l] + 2, c.fe.probe[l] + 3].find? fun sel =>
          decide (c.coils[legCoil l sel].occupancy ≠ .absent ∧ c.coils[legCoil l sel].disabled = false)
      else none
    let kind (b : BoardId) : SlotKind :=
      match held b, active with
      | true, _ => .idle
      | false, true => if c.fe.hob = .running then .active else .idle
      | false, false => .quiet
    let drive (b : BoardId) (l : LocalLeg) : LegDrive :=
      match kind b with
      | .idle => .none
      | .active =>
        match e.kept.find? fun x => coilLeg x.coil == legAt b l with
        | some x => .fire (coilSelector x.coil) x.setpoint x.pan
        | none => .none
      | .quiet =>
        match probed (legAt b l) with
        | some sel => .probe sel
        | none => .none
    emitSlot u =
      (allBoards.filter fun b => c.boards[b].state == .online).foldl
        (fun v b => takeDrive v b ⟨c.fe.serial + 1, kind b, Vector.ofFn (drive b)⟩)
        { u with
          fe := { u.fe with
                  emitted := e.emitted
                  probe := if active then c.fe.probe else Vector.ofFn fun l =>
                    match probed l with
                    | some sel => sel + 1
                    | none => c.fe.probe[l] } } := by
  intro u active e held probed kind drive
  have held_eq (b : BoardId) : boardHeld u b = held b := boardHeld_eq u b
  have probed_eq (l : LegId) : probeSelector u l = probed l := by
    have candidate : probeCandidate u = fun k => decide (c.coils[k].occupancy ≠ .absent ∧ c.coils[k].disabled = false) := funext fun k => by
      change (c.coils[k].occupancy != .absent && !c.coils[k].disabled) = _
      refine Bool.eq_iff_iff.mpr ?_
      simp
    unfold probeSelector
    rw [held_eq, candidate]
    have zero : u.fe.probe[l] + 0 = c.fe.probe[l] := Fin.add_zero _
    change (if _ then [u.fe.probe[l] + 0, _, _, _].find? _ else _) = _
    rw [zero]
    rfl
  have kind_eq (b : BoardId) : driveKind u b = kind b := by
    unfold driveKind
    rw [held_eq]
    change (if held b = true then _ else if active = true then _ else _) = match held b, active with | true, _ => _ | false, true => _ | false, false => _
    cases held b <;> cases active <;> rfl
  have cell_eq (b : BoardId) : driveCell u e.kept b = ⟨c.fe.serial + 1, kind b, Vector.ofFn (drive b)⟩ := by
    have legs : driveLeg u e.kept b = drive b := funext fun l => by
      unfold driveLeg
      rw [kind_eq, probed_eq] <;> rfl
    rw [driveCell, kind_eq, legs]
    rfl
  have positions : probePositions u = Vector.ofFn fun l => match probed l with | some sel => sel + 1 | none => c.fe.probe[l] := by
    unfold probePositions
    refine congrArg Vector.ofFn (funext fun l => ?_)
    rw [probed_eq] <;> rfl
  have emitted : emitSlot u = (allBoards.filter fun b => u.boards[b].state == .online).foldl (fun t b => takeDrive t b (driveCell u e.kept b))
      (u.modFe fun fe => { fe with emitted := e.emitted, probe := if active then fe.probe else probePositions u }) := rfl
  rw [emitted, positions]
  simp only [cell_eq]
  rfl

/-! ### What a slot start leaves unchanged -/

theorem judgeSlot_portFrame (s : State) (b : BoardId) (r : SlotRecord) : PortFrame s (judgeSlot s b r) := by
  have judged : PortFrame s (slotJudged s b r) :=
    (PortFrame.foldl (fun v l => trip_portFrame v (legAt b l) .noReport _ _) _ s).trans (u := slotJudged s b r) rfl
  rw [judgeSlot_eq]
  exact .ite (judged.trans (boardLeaves_portFrame ..)) (.ite (judged.trans (boardLeaves_portFrame ..)) judged)

theorem takeDrive_portFrame (s : State) (b : BoardId) (cell : DriveCell) : PortFrame s (takeDrive s b cell) := by
  have opens (v : State) (f : BoardPort → BoardPort) (h : PortFrame s v) : PortFrame s (if v.boards[b].state = .online then v.modBoard b f else v) :=
    .ite (h.trans rfl) h
  unfold takeDrive
  refine opens _ _ ?_
  cases s.boards[b].slot with
  | none => exact .refl s
  | some r => exact judgeSlot_portFrame s b r

theorem judgeSlot_others (s : State) {b c : BoardId} (h : b ≠ c) (r : SlotRecord) : (judgeSlot s b r).boards[c] = s.boards[c] := by
  have judged : (slotJudged s b r).boards[c] = s.boards[c] := (Laws.set_get ..).trans (if_neg h)
  have left (cause : BoardCause) : (boardLeaves (slotJudged s b r) b false cause).boards[c] = s.boards[c] := by
    rw [boardLeaves_boards, Laws.set_get, if_neg h, judged]
  have either (p : Prop) [Decidable p] (u v : State) (g : u.boards[c] = s.boards[c]) (k : v.boards[c] = s.boards[c]) :
      (if p then u else v).boards[c] = s.boards[c] := by
    split
    · exact g
    · exact k
  rw [judgeSlot_eq]
  exact either _ _ _ (left _) (either _ _ _ (left _) judged)

/-- A Board Port that takes its drive cell leaves the other ports unchanged. -/
theorem takeDrive_others (s : State) {b c : BoardId} (h : b ≠ c) (cell : DriveCell) : (takeDrive s b cell).boards[c] = s.boards[c] := by
  have opens (v : State) (f : BoardPort → BoardPort) (g : v.boards[c] = s.boards[c]) :
      (if v.boards[b].state = .online then v.modBoard b f else v).boards[c] = s.boards[c] := by
    split
    · exact ((Laws.set_get ..).trans (if_neg h)).trans g
    · exact g
  unfold takeDrive
  refine opens _ _ ?_
  cases s.boards[b].slot with
  | none => rfl
  | some r => exact judgeSlot_others s h r

theorem drives_others (cell : BoardId → DriveCell) {c : BoardId} {bs : List BoardId} (h : c ∉ bs) (s : State) :
    (bs.foldl (fun v b => takeDrive v b (cell b)) s).boards[c] = s.boards[c] := by
  induction bs generalizing s with
  | nil => rfl
  | cons b bs ih =>
    obtain ⟨ne, notin⟩ := List.ne_and_not_mem_of_not_mem_cons h
    exact (ih notin _).trans (takeDrive_others s (Ne.symm ne) _)

/-- R148: every ONLINE board without a slot record opens one with its drive cell. -/
theorem drives_first (cell : BoardId → DriveCell) {c : BoardId} {bs : List BoardId} (distinct : bs.Nodup) (mem : c ∈ bs) {s : State}
    (online : s.boards[c].state = .online) (none : s.boards[c].slot = none) :
    (bs.foldl (fun v b => takeDrive v b (cell b)) s).boards[c] = openSlot c (cell c) s.boards[c] := by
  induction bs generalizing s with
  | nil => exact absurd mem List.not_mem_nil
  | cons b bs ih =>
    obtain ⟨notin, distinct⟩ := List.nodup_cons.mp distinct
    rw [List.foldl_cons]
    by_cases same : b = c
    · subst same
      rw [drives_others cell notin, takeDrive_first online none]
      exact (Laws.set_get ..).trans (if_pos rfl)
    · have kept := takeDrive_others s same (cell b)
      rw [ih distinct ((List.mem_cons.mp mem).resolve_left (Ne.symm same)) (by rw [kept, online]) (by rw [kept, none]), kept]

/-- R118: the emission of a slot; a quiet slot has none. -/
def slotEmission (s : State) : Emission := if activeSlot s then emission s else ⟨[], s.fe.emitted⟩

/-- The state in which the boards are given their drive cells. -/
def driving (s : State) : State :=
  s.modFe fun fe => { fe with emitted := (slotEmission s).emitted, probe := if activeSlot s then fe.probe else probePositions s }

theorem emitSlot_eq (s : State) :
    emitSlot s =
      (allBoards.filter fun b => s.boards[b].state == .online).foldl (fun v b => takeDrive v b (driveCell s (slotEmission s).kept b)) (driving s) :=
  rfl

theorem emitSlot_portFrame (s : State) : PortFrame (driving s) (emitSlot s) :=
  emitSlot_eq s ▸ PortFrame.foldl (fun v b => takeDrive_portFrame v b _) _ _

theorem emitSlot_kept (s : State) {b : BoardId} (h : s.boards[b].state ≠ .online) : (emitSlot s).boards[b] = s.boards[b] := by
  rw [emitSlot_eq]
  exact drives_others _ (by simpa using fun _ => h) (driving s)

theorem emitSlot_opens (s : State) {b : BoardId} (online : s.boards[b].state = .online) (none : s.boards[b].slot = none) :
    (emitSlot s).boards[b] = openSlot b (driveCell s (slotEmission s).kept b) s.boards[b] := by
  rw [emitSlot_eq]
  exact drives_first _ ((List.nodup_finRange 4).filter _) (List.mem_filter.mpr ⟨List.mem_finRange b, by simpa using online⟩) (s := driving s) online none

/-- R118, R119: what a firing that a slot start gives a leg has passed. -/
theorem driveCell_fires {s : State} {b : BoardId} {l : LocalLeg} {sel : Selector} {sp : Nat} {p : PanSlot}
    (fires : (driveCell s (slotEmission s).kept b).legs[l] = .fire sel sp p) :
    s.fe.slotIndex < s.fe.f ∧ s.fe.hob = .running ∧ eligible s (coilAt b l sel) = true ∧ s.coils[coilAt b l sel].owner = some p ∧
      s.pans[p].pres.presence.standing = true ∧ s.pans[p].heat.state.heating = true := by
  have fires : driveLeg s (slotEmission s).kept b l = .fire sel sp p := by simpa [driveCell] using fires
  obtain ⟨kept, -⟩ := driveLeg_fire fires
  have active : activeSlot s = true := by
    by_contra c
    rw [slotEmission, if_neg c] at kept
    exact absurd kept List.not_mem_nil
  rw [slotEmission, if_pos active] at kept
  obtain ⟨-, _, passes⟩ := (emission_within s).tested _ kept
  have runs : s.fe.hob = .running := by
    by_contra c
    rw [emission_none (.inl c)] at kept
    exact absurd kept List.not_mem_nil
  exact ⟨of_decide_eq_true active, runs, passes.eligible, passes.owner, passes.standing, passes.heating⟩

/-- Settles O12: which slot begins and the cells of the boards; a port that takes its cell leaves the other ports and the Frame Engine
unchanged; the judgement of the ended slot by its three counts. -/
theorem slotStarts : Obligations.SlotStarts := by
  refine ⟨fun s t settled ready locked good => ?_, fun s c t settled ready good h => ?_, driveTaken⟩
  · intro ends starts index
    have taken : exec (.zeroCrossing t) s = .next (emitSlot (slotBegun (crossed s (max s.now t)))) := by
      rw [exec_settled settled, slotCrossing good ready (.inl ⟨locked, rfl⟩)]
    have frame := emitSlot_portFrame (slotBegun (crossed s (max s.now t)))
    refine ⟨_, taken, ?_, ?_, fun p => ?_, ⟨?_, ?_, ?_⟩, fun b off => emitSlot_kept _ off, fun b online none => ?_⟩
    · rw [frame]
      rfl
    · rw [frame]
      rfl
    · rw [frame]
      exact slotBegun_pan ..
    · exact congrArg (·.posts.ptFrameEnds) frame
    · exact congrArg (·.posts.puFrameEnds) frame
    · exact congrArg (·.posts.swaps) frame
    · refine ⟨driveCell (slotBegun (crossed s (max s.now t))) (slotEmission (slotBegun (crossed s (max s.now t)))).kept b, ?_⟩
      rw [emitSlot_opens _ (by exact online) (by exact none)]
      refine ⟨rfl, rfl, rfl, rfl, ?_, fun l sel sp p fires => ?_⟩
      · have free : boardHeld (slotBegun (crossed s (max s.now t))) b = false := by
          rw [boardHeld_eq]
          exact congrArg (fun slot : Option SlotRecord => (slot.map (·.hold)).getD false) none
        have kind : driveKind (slotBegun (crossed s (max s.now t))) b =
            if decide (index < s.fe.f) then (if s.fe.hob = .running then .active else .idle) else .quiet := by
          rw [driveKind, free]
          rfl
        simpa [driveCell] using kind
      · obtain ⟨early, runs, eligible, owner, standing, heating⟩ := driveCell_fires fires
        rw [slotBegun_pan] at standing heating
        exact ⟨early, runs, eligible, owner, standing, heating⟩
  · rw [exec_settled settled, slotCrossing good ready h]
    exact congrArg _ (slotEmitted c)

end Sys2Proof.Machine
end

section
/-! Offers, halts and faults (R114, R117, R135 to R137). -/

namespace Sys2Proof.Machine

-- The default arguments `by decide` wait for the kernel: one declaration after the other holds few threads.
set_option Elab.async false

/-- Settles O48: an offer by what waits at its head, and `takeOffer` by its one condition. -/
theorem offersSetSwapPending : Obligations.OffersSetSwapPending := by
  intro s settled waits
  have taken : action .offer s = takeOffer (s.modPosts fun q => { q with offers := q.offers - 1 }) := if_neg (Nat.pos_iff_ne_zero.mp waits)
  rw [exec_settled settled, taken]
  refine ⟨fun runs free => ?_, fun held => ?_⟩
  · exact congrArg _ (if_pos ⟨runs, free⟩)
  · refine congrArg _ (if_neg fun c => ?_)
    exact held.elim (fun n => n c.1) c.2

theorem followHob_stopped {s : State} (h : s.fe.hob ≠ .running) : followHob s = s.modCp fun cp => { cp with silence := none } := by
  unfold followHob
  rw [if_neg h]

/-- R116, R117: the hob leaves RUNNING. -/
theorem leaveRunning_eq (s : State) (hob : HobState) (post : HobPost) (stopped : hob ≠ .running) :
    leaveRunning s hob post =
      { s with
        fe := { s.fe with hob := hob, unlockTimer := none, swapPending := false, emitted := Vector.replicate 8 0 }
        pans := noneDelivered s
        boards := allOff s
        posts := { s.posts with scheduler := s.posts.scheduler ++ [.discard], hob := s.posts.hob ++ [post] }
        cp := { s.cp with silence := none } } := by
  have cleared (u : State) : clearEnergies u =
      { u with fe := { u.fe with emitted := Vector.replicate 8 0 }, pans := noneDelivered u } := rfl
  rw [leaveRunning, offNowAll_eq]
  simp only [cleared, postScheduler, postHob, State.modPosts, State.modFe]
  rw [followHob_stopped (by exact stopped)]
  rfl

/-- Settles O50: by the claim at the head of the channel and the hob state. -/
theorem hobClaimsAreTaken : Obligations.HobClaimsAreTaken := by
  intro s rest settled u
  refine ⟨fun c head => ?_, fun head => ?_⟩
  · have taken : action .halt s = takeHalt u c := by
      change (match s.posts.hobClaims with | .halt c :: rest => _ | _ => s) = _
      rw [head]
      rfl
    rw [exec_settled settled, taken]
    refine ⟨fun runs => ?_, fun still => congrArg _ (if_neg still)⟩
    rw [takeHalt, if_pos (by exact runs), leaveRunning_eq _ .halted .halt (by decide)]
    rfl
  · have taken : action .clearHalt s = if s.sup.hub = .supplyLow ∧ s.fe.hob = .halted then s else takeClearHalt u := by
      change (match s.posts.hobClaims with | .clear :: rest => _ | _ => s) = _
      rw [head]
      rfl
    rw [exec_settled settled, taken]
    refine ⟨fun halted ready => ?_, fun halted low => congrArg _ (if_pos ⟨low, halted⟩), fun other => ?_⟩
    · rw [if_neg fun c => ready c.1, takeClearHalt, if_pos (by exact halted)]
      rfl
    · rw [if_neg fun c => other c.2, takeClearHalt, if_neg (by exact other)]

theorem takeHaltCause_running {s : State} (h : s.fe.hob = .running) (c : HaltCause) : takeHaltCause s c = postHobClaim s (.halt c) := by
  rw [takeHaltCause, h]

theorem takeHaltCause_stopped {s : State} (h : s.fe.hob = .stopped) (c : HaltCause) : takeHaltCause s c = protective s c.kind none none none 0 := by
  rw [takeHaltCause, h]

theorem takeHaltCause_halted {s : State} (h : s.fe.hob = .halted) (c : HaltCause) : takeHaltCause s c = s := by
  rw [takeHaltCause, h]

theorem capture_held {s : State} {r : FaultRecord} (h : s.pu.firstFault = some r) (kind : FaultKind) (board : Option BoardId) (leg : Option LegId)
    (coil : Option CoilId) (value : Nat) : capture s kind board leg coil value = s := by
  rw [capture, h]

/-- R137: the handle of the owner of a captured coil. -/
theorem faultHandle_eq (s : State) (coil : Option CoilId) :
    (do
      let k ← coil
      let p ← s.coils[k].owner
      if s.coils[k].occupancy = .member then some (p, s.pans[p].pres.gen) else none) =
      coil.bind fun k => if s.coils[k].occupancy = .member then s.coils[k].owner.map fun p => (p, s.pans[p].pres.gen) else none := by
  cases coil with
  | none => rfl
  | some k =>
    change (s.coils[k].owner.bind fun p => _) = if _ then _ else _
    cases s.coils[k].owner <;> simp

theorem capture_empty {s : State} (h : s.pu.firstFault = none) (kind : FaultKind) (board : Option BoardId) (leg : Option LegId)
    (coil : Option CoilId) (value : Nat) :
    capture s kind board leg coil value =
      { s with
        pu := { s.pu with
                firstFault := some
                  { kind := kind, board := board, leg := leg, coil := coil, frame := s.fe.frameCount
                    slot := s.fe.slotIndex, value := value
                    handle := coil.bind fun k =>
                      if s.coils[k].occupancy = .member then s.coils[k].owner.map fun p => (p, s.pans[p].pres.gen) else none } } } := by
  rw [capture, h, ← faultHandle_eq]
  rfl

/-- Settles O51: a protective event by the hob state and the first-fault record, and each post at the head of its channel. -/
theorem faultsAreCaptured : Obligations.FaultsAreCaptured := by
  refine ⟨fun s kind board leg coil value => ⟨fun h => protective_halted h .., fun r h first => ?_, fun h first => ?_⟩,
    fun s c rest settled head => ?_, fun s c rest settled head first record => ?_, fun s c rest settled head => ?_⟩
  · rw [protective, if_neg h, capture_held (by exact first)]
    rfl
  · rw [protective, if_neg h, capture_empty (by exact first)]
    rfl
  · have taken : action .haltCause s = takeHaltCause { s with posts := { s.posts with haltCauses := rest } } c := by
      change (match s.posts.haltCauses with | c :: rest => _ | [] => s) = _
      rw [head]
      rfl
    rw [exec_settled settled, taken]
    refine ⟨fun h => ?_, fun h => ?_, fun h => ?_⟩
    · rw [takeHaltCause_running (by exact h)]
      rfl
    · rw [takeHaltCause_stopped (by exact h)]
    · rw [takeHaltCause_halted (by exact h)]
  · have taken : action .hobEnteredHalted s = takeHalted { s with posts := { s.posts with halted := rest } } c := by
      change (match s.posts.halted with | c :: rest => _ | [] => s) = _
      rw [head]
      rfl
    rw [exec_settled settled, taken, takeHalted]
    cases fault : s.pu.firstFault with
    | some r =>
      rw [fault] at record
      subst record
      rw [capture_held (by exact fault), ← fault]
      rfl
    | none =>
      rw [fault] at record
      subst record
      rw [capture_empty (by exact fault)]
      rfl
  · have taken : action .mainsLossPost s = takeLoss { s with posts := { s.posts with losses := rest } } c := by
      change (match s.posts.losses with | c :: rest => _ | [] => s) = _
      rw [head]
      rfl
    rw [exec_settled settled, taken, takeLoss]
    cases c <;> rfl

end Sys2Proof.Machine
end

section
/-! Builds: the rebuild requests, the snapshot, CHECK, the discard (R92 to R103). -/

namespace Sys2Proof.Machine

-- The default arguments `by decide` wait for the kernel: one declaration after the other holds few threads.
set_option Elab.async false

/-! ### Banks and snapshots -/

theorem setStandby_eq (s : State) (bank : Bank) : setStandby s bank = { s with ss := standbySet s bank } := by
  unfold setStandby standbySet standbyId
  by_cases a : s.fe.activeBank = .a
  · simp [a, State.modSs]
  · simp [a, State.modSs]

theorem standbySet_restarts (s : State) (bank : Bank) : (standbySet s bank).restarts = s.ss.restarts := by
  unfold standbySet
  split <;> rfl

theorem dropBuild_eq (s : State) :
    dropBuild s =
      { s with ss := { standbySet s (List.replicate s.fe.f []) with snapshot := none, cursors := none, results := none } } := by
  unfold dropBuild
  rw [setStandby_eq]
  rfl

/-! ### CHECK (R98 to R100) -/

theorem pairwise_iff {α : Type} (r : α → α → Bool) (l : List α) : pairwise r l = true ↔ l.Pairwise (r · · = true) := by
  induction l with
  | nil => simp [pairwise]
  | cons a l ih => simp [pairwise, ih]

theorem slotChecks_iff (s : State) (slot : List Firing) :
    slotChecks s slot = true ↔
      slot.Pairwise (fun x y => coilLeg x.coil ≠ coilLeg y.coil ∧ x.coil ≠ y.coil ∧ (x.pan = y.pan ∨ adjacent s x.coil y.coil = false)) ∧
      (∀ ph : Phase, setpoints (slot.filter fun x => s.ts.work.phaseOf (coilBoard x.coil) == ph) ≤ s.ts.work.phaseLimit ph) ∧
      setpoints slot ≤ s.ts.work.hobLimit := by
  have phases (P : Phase → Prop) : (∀ ph, P ph) ↔ P .l1 ∧ P .l2 := ⟨fun h => ⟨h _, h _⟩, fun h ph => by cases ph <;> simp [h]⟩
  simp only [slotChecks, Bool.and_eq_true, pairwise_iff, List.pairwise_and_iff, phases, List.all_cons, List.all_nil, decide_eq_true_eq,
    bne_iff_ne, Bool.or_eq_true, beq_iff_eq, Bool.not_eq_true', and_assoc, and_true]

/-- R100: the offer of a bank that has passed CHECK. -/
theorem offerBank_eq {s : State} {n : Snapshot} {rs : List BuildResult} (snapshot : s.ss.snapshot = some n) (results : s.ss.results = some rs) :
    offerBank s =
      { s with
        ss := { s.ss with stage := .ready, snapshot := none, cursors := none, results := none }
        pans := Vector.ofFn fun p =>
          match rs.find? fun e => e.pan == p with
          | some e => { s.pans[p] with scheduled := e.placed * e.setpoint / n.f, dropped := e.dropped }
          | none => { s.pans[p] with scheduled := 0, dropped := 0 }
        posts := { s.posts with offers := s.posts.offers + 1 } } := by
  unfold offerBank
  rw [snapshot, results]
  rfl

/-- Settles O47: the tests of CHECK one by one, and the end of CHECK by the rows of R99 in their order. -/
theorem checkDecidesTheBuild : Obligations.CheckDecidesTheBuild := by
  refine ⟨fun s => ?_, fun s settled => ?_⟩
  · simp only [bankChecks, List.all_eq_true, slotChecks_iff]
  · intro thrown
    have ended : action .endOfCheck s = endOfCheck s := rfl
    rw [exec_settled settled, ended, endOfCheck, dropBuild_eq]
    refine ⟨fun other => ?_, fun check held => ?_, fun check runs free fails => ?_, fun check runs free passes rerun few => ?_,
      fun n rs check runs free passes last snapshot results => ?_⟩
    · rw [if_pos other]
    · rw [if_neg (not_not_intro check), if_pos held]
      rfl
    · have go : ¬ (s.fe.hob ≠ .running ∨ DiscardWaits s) := fun c => c.elim (fun n => n runs) free
      rw [if_neg (not_not_intro check), if_neg go, if_pos fails]
      exact congrArg _ (if_pos runs)
    · have go : ¬ (s.fe.hob ≠ .running ∨ DiscardWaits s) := fun c => c.elim (fun n => n runs) free
      rw [if_neg (not_not_intro check), if_neg go, if_neg (ne_false_of_eq_true passes), if_pos ⟨rerun, few⟩,
        ← standbySet_restarts s (List.replicate s.fe.f []), startGather_running (by exact runs)]
      rfl
    · have go : ¬ (s.fe.hob ≠ .running ∨ DiscardWaits s) := fun c => c.elim (fun n => n runs) free
      have stays : ¬ (s.ss.rerun = true ∧ s.ss.restarts < 3) := fun c =>
        last.elim (fun f => ne_false_of_eq_true c.1 f) fun most => absurd c.2 (Nat.not_lt.mpr most)
      rw [if_neg (not_not_intro check), if_neg go, if_neg (ne_false_of_eq_true passes), if_neg stays, offerBank_eq snapshot results] <;> rfl

/-! ### Rebuild requests and the discard (R92, R93, R103) -/

theorem takeHobPost_apart (s : State) (e : HobPost) : (takeHobPost s e).ss = s.ss ∧ (takeHobPost s e).fe = s.fe := by
  have posted (u : State) (ss : u.ss = s.ss) (fe : u.fe = s.fe) : (postHeatChanges s u).ss = s.ss ∧ (postHeatChanges s u).fe = s.fe := by
    unfold postHeatChanges
    split
    · exact ⟨ss, fe⟩
    · exact ⟨ss, fe⟩
  cases e <;> exact posted _ rfl rfl

/-- R69, R70: what the Heat Sequencer takes from the Frame Engine leaves it and the Slot Scheduler unchanged. -/
theorem finishHob_apart (s : State) : (finishHob s).ss = s.ss ∧ (finishHob s).fe = s.fe := by
  have folds (es : List HobPost) (u : State) : (es.foldl takeHobPost u).ss = u.ss ∧ (es.foldl takeHobPost u).fe = u.fe := by
    induction es generalizing u with
    | nil => exact ⟨rfl, rfl⟩
    | cons e es ih => exact ⟨(ih _).1.trans (takeHobPost_apart u e).1, (ih _).2.trans (takeHobPost_apart u e).2⟩
  exact folds s.posts.hob (s.modPosts fun q => { q with hob := [] })

/-- R92: a rebuild request is taken in the state its sender leaves. -/
theorem takeRebuild_rows (v : State) :
    (v.fe.hob ≠ .running → takeRebuild v = v) ∧
    (v.fe.hob = .running → v.ss.stage = .idle → takeRebuild v = { v with ss := gathering v v.ss }) ∧
    (v.fe.hob = .running → v.ss.stage ≠ .idle → takeRebuild v = { v with ss := { v.ss with rerun := true } }) := by
  refine ⟨fun still => if_pos still, fun runs idle => ?_, fun runs busy => ?_⟩
  · rw [takeRebuild, if_neg (not_not_intro runs), if_pos idle, startGather_running runs]
    rfl
  · rw [takeRebuild, if_neg (not_not_intro runs), if_neg busy]
    rfl

/-- A post of the Frame Engine at the head of its channel is taken there, or by what finds it waiting. -/
theorem heatHob_taken {i : Instr} {s : State}
    (h : (i = .heatHobHalt ∧ s.posts.hob.head? = some .halt) ∨ (i = .heatStopHob ∧ s.posts.hob.head? = some .stop) ∨
      (i = .heatStartHob ∧ s.posts.hob.head? = some .start)) :
    ∃ e rest, s.posts.hob = e :: rest ∧ action i s = takeHobPost (s.modPosts fun q => { q with hob := rest }) e := by
  have popped {e : HobPost} {rest : List HobPost} (waits : s.posts.hob = e :: rest) : popHob s = s.modPosts fun q => { q with hob := rest } := by
    rw [popHob, State.modPosts, waits]
    rfl
  rcases h with ⟨rfl, head⟩ | ⟨rfl, head⟩ | ⟨rfl, head⟩
  all_goals
    obtain ⟨rest, waits⟩ := List.head?_eq_some_iff.mp head
    refine ⟨_, rest, waits, ?_⟩
  · change (match s.posts.hob with | .halt :: _ => heatHalted (popHob s) | _ => s) = _
    rw [popped waits, waits]
    rfl
  · change (match s.posts.hob with | .stop :: _ => heatStopped (popHob s) | _ => s) = _
    rw [popped waits, waits]
    rfl
  · change (match s.posts.hob with | .start :: _ => heatStarted (popHob s) | _ => s) = _
    rw [popped waits, waits]
    rfl

theorem action_rebuild (s : State) {rest : List SchedulerPost} (head : s.posts.scheduler = .rebuild :: rest) :
    action .rebuildRequest s = takeRebuild (finishStart (s.modPosts fun q => { q with scheduler := rest })) := by
  change (match s.posts.scheduler with | .rebuild :: rest => _ | _ => _) = _
  rw [head]

theorem action_rebuild_other (s : State) (head : s.posts.scheduler.head? ≠ some .rebuild) :
    action .rebuildRequest s =
      if s.posts.rebuilds = 0 then s else takeRebuild (s.modPosts fun q => { q with rebuilds := q.rebuilds - 1 }) := by
  change (match s.posts.scheduler with | .rebuild :: rest => _ | _ => _) = _
  split
  · next waits => exact absurd (by rw [waits]; rfl) head
  · rfl

theorem action_discard_other (s : State) (head : s.posts.scheduler.head? ≠ some .discard) : action .discard s = s := by
  change (match s.posts.scheduler with | .discard :: rest => _ | _ => s) = s
  split
  · next waits => exact absurd (by rw [waits]; rfl) head
  · rfl

theorem action_discard (s : State) {rest : List SchedulerPost} (head : s.posts.scheduler = .discard :: rest) :
    action .discard s = discardTaken s rest := by
  change (match s.posts.scheduler with | .discard :: rest => _ | _ => s) = _
  rw [head]
  exact takeDiscard_eq s rest

theorem snapshotComplete_gather {s : State} {n : Snapshot} (stage : s.ss.stage = .gather) (snapshot : s.ss.snapshot = some n) :
    snapshotComplete s =
      { s with
        ss := { standbySet s (List.replicate n.f []) with
                stage := .place, cursors := some ((n.pans.head?.map (startCursors n.f)).getD []) } } := by
  unfold snapshotComplete
  rw [stage, snapshot]
  dsimp only
  rw [setStandby_eq]
  rfl

theorem snapshotComplete_other {s : State} (stage : s.ss.stage ≠ .gather) : snapshotComplete s = s := by
  unfold snapshotComplete
  split
  · next gather _ => exact absurd gather stage
  · rfl

/-- Settles O45: the request by its sender and R92's rows, the sub-steps by the stage, the discard by the head of its channel. -/
theorem buildsBeginAndAreDiscarded : Obligations.BuildsBeginAndAreDiscarded := by
  refine ⟨⟨fun s v settled sent => ?_, fun s => finishHob_nil, fun i s u settled head taken => ?_, fun s => rfl,
    fun s settled head none => ?_, fun s n settled stage snapshot => ?_, fun s settled stage => ?_⟩,
    fun s settled head => ?_, fun s rest settled head => ?_⟩
  · have taken : exec .rebuildRequest s = .next (takeRebuild v) ∧ v.ss = s.ss ∧ v.fe = s.fe := by
      rw [exec_settled settled]
      rcases sent with ⟨rest, head, rfl⟩ | ⟨head, waits, rfl⟩
      · refine ⟨congrArg _ (action_rebuild s head), ?_⟩
        split
        · exact finishHob_apart _
        · exact ⟨rfl, rfl⟩
      · rw [action_rebuild_other s head, if_neg (Nat.pos_iff_ne_zero.mp waits)]
        exact ⟨rfl, rfl, rfl⟩
    obtain ⟨taken, ss, fe⟩ := taken
    rw [taken, ← fe, ← ss]
    obtain ⟨still, begins, again⟩ := takeRebuild_rows v
    exact ⟨fun h => congrArg _ (still h), fun h g => congrArg _ (begins h g), fun h g => congrArg _ (again h g)⟩
  · obtain ⟨e, rest, waits, act⟩ := heatHob_taken head
    rw [exec_settled settled] at taken
    cases taken
    rw [act]
    exact finishHob_cons waits
  · rw [exec_settled settled, action_rebuild_other s head, if_pos none]
  · have act : action .snapshotComplete s = snapshotComplete s := rfl
    rw [exec_settled settled, act, snapshotComplete_gather stage snapshot]
    cases n.pans <;> rfl
  · exact (exec_settled settled _).trans (congrArg _ (snapshotComplete_other stage))
  · rw [exec_settled settled, action_discard_other s head]
  · rw [exec_settled settled, action_discard s head]

end Sys2Proof.Machine
end

section
/-! The board links: off-nows and the cells the hub sends, a board's entry to ONLINE and its leaving of service, IDENT cells
(R121, R143 to R147). -/

namespace Sys2Proof.Machine

-- The default arguments `by decide` wait for the kernel: one declaration after the other holds few threads.
set_option Elab.async false

/-! ### Off-nows and the transmitters (R121, R147) -/

/-- R121: an off-now naming a leg joins the one that waits at its ONLINE board. -/
theorem offNowLeg_eq (s : State) (l : LegId) :
    offNowLeg s l =
      { s with
        boards :=
          if s.boards[legBoard l].state = .online ∧ s.sup.hub = .ready then
            s.boards.set (legBoard l)
              { s.boards[legBoard l] with
                txOffNow := some (Vector.ofFn fun i =>
                  decide (i = legLocal l) || (s.boards[legBoard l].txOffNow.getD (Vector.replicate 4 false))[i]) }
          else s.boards } := by
  unfold offNowLeg sendOffNow
  split
  · simp [State.modBoard]
  · rfl

/-- Section 11.6: the leg bits of an OFF NOW cell. -/
theorem offNowBits (a b c d : Bool) :
    flag a 0 ||| flag b 1 ||| flag c 2 ||| flag d 3 =
      BitVec.ofNat 8 ((if a then 1 else 0) + (if b then 2 else 0) + (if c then 4 else 0) + (if d then 8 else 0)) := by
  revert a b c d
  decide

/-- Section 11.6: the two bytes of a leg that is given a firing. -/
theorem legBytes_fire (draw : Nat) (l : LocalLeg) (sel : Selector) (sp : Nat) (sync : PanSlot) :
    legBytes draw l (.fire sel sp sync) =
      [BitVec.ofNat 8 (sel.val * 64 + sync.val * 2 + sp / 10 / 256 % 2), BitVec.ofNat 8 (sp / 10)] := by
  have low (x : Nat) : byte x &&& 1#8 = byte (x % 2) := by
    apply BitVec.eq_of_toNat_eq
    have small : x % 2 % 256 = x % 2 := Nat.mod_eq_of_lt (by omega)
    simp [byte, Nat.and_one_is_mod, small]
  have fields : ∀ (sel : Selector) (sync : PanSlot) (bit : Fin 2),
      (byte sel.val <<< 6) ||| (byte sync.val <<< 1) ||| byte bit.val = BitVec.ofNat 8 (sel.val * 64 + sync.val * 2 + bit.val) := by decide
  have first := fields sel sync ⟨sp / 10 / 256 % 2, Nat.mod_lt _ Nat.two_pos⟩
  rw [legBytes, low, first]
  rfl

/-- Section 11.6: the bits that are fixed in the first byte of a leg that is probed; the others are open (log 9). -/
theorem probeBits (free : Byte) (sel : Selector) :
    ((byte sel.val <<< 6) ||| (free &&& 0x0E#8) ||| 0x10#8) &&& 0xF1#8 = BitVec.ofNat 8 (sel.val * 64 + 16) := by
  have fixed : ∀ sel : Selector, (byte sel.val <<< 6) &&& 0xF1#8 ||| 0x10#8 = BitVec.ofNat 8 (sel.val * 64 + 16) := by decide
  rw [BitVec.and_or_distrib_right, BitVec.and_or_distrib_right, BitVec.and_assoc, ← fixed sel]
  simp

/-- Section 11.6: the bits that are fixed in the first byte of a leg that is given nothing. -/
theorem idleBits (free : Byte) : ((free &&& 0xCE#8) ||| 0x30#8) &&& 0x31#8 = 0x30#8 := by
  rw [BitVec.and_or_distrib_right, BitVec.and_assoc]
  simp

/-- Section 11.6: the two bytes of a leg, as a pair. -/
def legPair (draw : Nat) (l : LocalLeg) (d : LegDrive) : Byte × Byte := ((legBytes draw l d).getD 0 0, (legBytes draw l d).getD 1 0)

theorem legPair_bytes (draw : Nat) (l : LocalLeg) (d : LegDrive) : [(legPair draw l d).1, (legPair draw l d).2] = legBytes draw l d := by
  cases d <;> rfl

theorem legPairs_bytes (draw : Nat) (d : DriveCell) :
    ((Vector.ofFn fun l => legPair draw l d.legs[l]).toList.flatMap fun x => [x.1, x.2]) = four.flatMap fun l => legBytes draw l d.legs[l] := by
  simp only [Vector.toList_ofFn, List.ofFn_eq_map, List.flatMap_map, legPair_bytes]
  rfl

theorem transmitBoard_offNow {s : State} {b : BoardId} {legs : Vector Bool 4} (h : s.boards[b].txOffNow = some legs) :
    transmitBoard s b = (sendDown s b (offNowCell legs)).modBoard b fun port => { port with txOffNow := none } := by
  rw [transmitBoard, h]

theorem transmitBoard_drive {s : State} {b : BoardId} {d : DriveCell} (off : s.boards[b].txOffNow = none) (h : s.boards[b].txDrive = some d) :
    transmitBoard s b =
      (sendDown { s with draws := s.draws + 1 } b (driveCellBytes s.draws d)).modBoard b fun port => { port with txDrive := none } := by
  rw [transmitBoard, off, h]

theorem transmitBoard_ident {s : State} {b : BoardId} (off : s.boards[b].txOffNow = none) (drive : s.boards[b].txDrive = none) :
    transmitBoard s b =
      if s.boards[b].txIdent then (sendDown s b identRequestCell).modBoard b fun port => censusSent port s.now else s := by
  rw [transmitBoard, off, drive]

/-- Settles O30: the off-now by the board it is for, the transmitter by the first of its places that is filled, the bytes of the cells. -/
theorem offNowsAreNamedAndSentFirst : Obligations.OffNowsAreNamedAndSentFirst := by
  refine ⟨fun s settled => ?_, fun s b t settled => ?_, fun legs => ?_, cellIs_payload .., fun draw d => ?_⟩
  · intro gains
    refine ⟨fun k rest waits => ?_, fun none => ?_, fun l rest waits => ?_, fun none => ?_⟩ <;> rw [exec_settled settled]
    · have taken : action .releaseNotice s = offNowLeg { s with posts := { s.posts with releases := rest } } (coilLeg k) := by
        change (match s.posts.releases with | k :: rest => _ | [] => s) = _
        rw [waits]
        rfl
      rw [taken, offNowLeg_eq]
    · change Host.Outcome.next (match s.posts.releases with | k :: rest => _ | [] => s) = _
      rw [none]
    · have taken : action .offNowRequest s = offNowLeg { s with posts := { s.posts with offNows := rest } } l := by
        change (match s.posts.offNows with | l :: rest => _ | [] => s) = _
        rw [waits]
        rfl
      rw [taken, offNowLeg_eq]
    · change Host.Outcome.next (match s.posts.offNows with | l :: rest => _ | [] => s) = _
      rw [none]
  · have taken : action (.boardTransmit b t) s = if s.sup.hub = .ready then transmitBoard (s.arrive t) b else s.arrive t := rfl
    rw [exec_settled settled, taken]
    refine ⟨fun low => congrArg _ (if_neg low), fun ready => ?_⟩
    rw [if_pos ready]
    refine ⟨fun legs off => ?_, fun d off drive => ?_, fun off drive ident => ?_, fun off drive ident => ?_⟩
    · exact congrArg _ (transmitBoard_offNow (s := s.arrive t) off)
    · exact congrArg _ (transmitBoard_drive (s := s.arrive t) off drive)
    · rw [transmitBoard_ident (by exact off) (by exact drive), if_pos (by exact ident)]
      rfl
    · rw [transmitBoard_ident (by exact off) (by exact drive), if_neg (by exact Bool.eq_false_iff.mp ident)]
      rfl
  · rw [← offNowBits]
    exact cellIs_payload ..
  · refine ⟨Vector.ofFn fun l => legPair draw l d.legs[l], ?_, fun l => ?_⟩
    · rw [legPairs_bytes]
      have cell : CellIs (driveCellBytes draw d) 0x21 d.serial (byte d.kind.code :: four.flatMap fun l => legBytes draw l d.legs[l]) :=
        cellIs_payload ..
      obtain ⟨serial, kind, legs⟩ := d
      cases kind <;> exact cell
    · have pair : (Vector.ofFn fun l => legPair draw l d.legs[l])[l] = legPair draw l d.legs[l] := Vector.getElem_ofFn ..
      rw [pair]
      refine ⟨fun sel sp sync fire => ?_, fun sel probe => ?_, fun none => ?_⟩
      · rw [fire, legPair, legBytes_fire]
        exact ⟨rfl, rfl⟩
      · rw [probe]
        exact ⟨probeBits .., rfl⟩
      · rw [none]
        exact ⟨idleBits _, rfl⟩

/-! ### The entry to ONLINE and the leaving of service (R145, R146) -/

theorem boardOnline_eq (s : State) (b : BoardId) (unsolicited : Bool) :
    boardOnline s b unsolicited =
      queueNotice
        { s with
          boards := s.boards.set b (onlinePort s.boards[b])
          posts := { s.posts with
                     cmBoards := s.posts.cmBoards ++ [(b, .into)]
                     puBoards := s.posts.puBoards ++ [(b, .into)]
                     triggers := s.posts.triggers ++ [.boardState b] } }
        .boardOnline (BitVec.ofNat 8 b.val) (if s.ts.work.phaseOf b = .l1 then 1 else 2) (if unsolicited then 1 else 0) := rfl

theorem someBoardOnline_iff (s : State) : someBoardOnline s = true ↔ ∃ j : BoardId, s.ts.work.t0[j].configured = true ∧ s.boards[j].state = .online := by
  simp [someBoardOnline, allBoards]

/-- R146: the board that leaves was the last one ONLINE. -/
theorem lastBoard_iff (s : State) (b : BoardId) {port : BoardPort} (off : port.state ≠ .online) {u : State} (boards : u.boards = s.boards.set b port)
    (ts : u.ts = s.ts) :
    someBoardOnline u = false ↔ ∀ j : BoardId, j ≠ b → s.ts.work.t0[j].configured = true → s.boards[j].state ≠ .online := by
  rw [← Bool.not_eq_true, someBoardOnline_iff]
  have at_board (j : BoardId) : u.boards[j] = if b = j then port else s.boards[j] := by rw [boards]; exact Laws.set_get ..
  constructor
  · intro none j ne conf online
    refine none ⟨j, by rw [ts]; exact conf, ?_⟩
    rw [at_board, if_neg (Ne.symm ne)]
    exact online
  · rintro all ⟨j, conf, online⟩
    rw [at_board] at online
    rw [ts] at conf
    split at online
    · exact off online
    · next ne => exact all j (Ne.symm ne) conf online

/-- R146: a board has left, its posts made, but for the halt cause of the last board. -/
def boardGone (s : State) (b : BoardId) (failed : Bool) (cause : BoardCause) : State :=
  { queueNotice { s with boards := s.boards.set b (closedPort failed s.boards[b]) } .boardOffline (BitVec.ofNat 8 b.val) cause.code
      (if failed then 1 else 0) with
    posts := { s.posts with
               cmBoards := s.posts.cmBoards ++ [(b, .out failed)]
               puBoards := s.posts.puBoards ++ [(b, .out failed)]
               triggers := s.posts.triggers ++ (if s.boards[b].state = .online then [.boardState b] else []) } }

theorem boardLeaves_gone (s : State) (b : BoardId) (failed : Bool) (cause : BoardCause) :
    boardLeaves s b failed cause =
      if s.boards[b].state = .online ∧ s.fe.hob = .running ∧ someBoardOnline (boardGone s b failed cause) = false then
        postHaltCause (boardGone s b failed cause) .noBoards
      else boardGone s b failed cause := by
  have gone : (if s.boards[b].state = .online then
      postTrigger (postPuBoard (postCmBoard (queueNotice (s.modBoard b (closedPort failed)) .boardOffline (BitVec.ofNat 8 b.val) cause.code
        (if failed then 1 else 0)) b (.out failed)) b (.out failed)) (.boardState b)
      else postPuBoard (postCmBoard (queueNotice (s.modBoard b (closedPort failed)) .boardOffline (BitVec.ofNat 8 b.val) cause.code
        (if failed then 1 else 0)) b (.out failed)) b (.out failed)) = boardGone s b failed cause := by
    unfold boardGone
    split
    · simp only [postTrigger, postPuBoard, postCmBoard, State.modPosts, State.modBoard, queueNotice_keeps]
    · simp only [postPuBoard, postCmBoard, State.modPosts, State.modBoard, queueNotice_keeps, List.append_nil]
  rw [boardLeaves, gone]

/-- R146: the Board Port's record of a board that leaves, its posts, and the halt cause of the last board. -/
theorem boardLeaves_eq (s : State) (b : BoardId) (failed : Bool) (cause : BoardCause) :
    boardLeaves s b failed cause =
      { boardGone s b failed cause with
        posts := { (boardGone s b failed cause).posts with
                   haltCauses := s.posts.haltCauses ++
                     (if s.boards[b].state = .online ∧ s.fe.hob = .running ∧
                          (∀ j : BoardId, j ≠ b → s.ts.work.t0[j].configured = true → s.boards[j].state ≠ .online) then
                        [.noBoards] else []) } } := by
  have off : (closedPort failed s.boards[b]).state ≠ .online := by cases failed <;> nofun
  have last := lastBoard_iff s b off (u := boardGone s b failed cause) (by simp [boardGone]) (by simp [boardGone])
  rw [boardLeaves_gone]
  simp only [last]
  split
  · rfl
  · rw [List.append_nil]
    rfl

/-- R143: the census deadline of a WAITING board has passed. -/
theorem censusExpires_past {s : State} {b : BoardId} {d : Time} (waits : s.boards[b].state = .waiting) (deadline : s.boards[b].deadline = some d)
    (past : d ≤ s.now) : censusExpires s b = boardLeaves s b false .noIdent := by
  rw [censusExpires, waits, deadline]
  exact if_pos past

theorem censusExpires_waits {s : State} {b : BoardId}
    (h : s.boards[b].state ≠ .waiting ∨ ∀ d : Time, s.boards[b].deadline = some d → s.now < d) : censusExpires s b = s := by
  unfold censusExpires
  split
  · next d waits deadline => exact if_neg (Nat.not_le.mpr ((h.resolve_left (not_not_intro waits)) d deadline))
  · rfl

/-- Settles O31: the steps of R145 and R146 in turn; the census by its deadline. -/
theorem boardsEnterAndLeaveService : Obligations.BoardsEnterAndLeaveService := by
  refine ⟨⟨fun s b unsolicited => ?_, fun s b failed cause => boardLeaves_eq s b failed cause⟩, fun s b t settled => ?_⟩
  · have phase : (if s.ts.work.phaseOf b = .l1 then 1 else 2) = match s.ts.work.t0[b].phase with | .l1 => 1 | .l2 => 2 := by
      change (if s.ts.work.t0[b].phase = .l1 then 1 else 2) = _
      cases s.ts.work.t0[b].phase <;> rfl
    rw [boardOnline_eq, phase]
    rfl
  · have taken : action (.censusDeadlineExpiry b t) s = censusExpires (s.arrive t) b := rfl
    rw [exec_settled settled, taken]
    refine ⟨fun d waits deadline past => congrArg _ (censusExpires_past waits deadline past), fun h => congrArg _ (censusExpires_waits h)⟩

/-! ### IDENT cells (R144) -/

theorem identDefined_iff (cell : IdentCell) : cell.defined = true ↔ cell.diagnosis.toNat ≤ 2 := by
  simp [IdentCell.defined]

theorem typeMismatch_eq (cell : IdentCell) :
    typeMismatch cell = !(cell.typeCode == 0x41#8 && cell.legs == 4#8 && cell.coils == 16#8) := by
  simp [typeMismatch, Config.boardType, bne, Bool.not_and]

section
variable {s : State} {b : BoardId} {cell : IdentCell}

/-- R144: a wrong type takes a board out of service, in every state but UNCONFIGURED and FAILED. -/
theorem judgeIdent_mismatch (state : s.boards[b].state = .waiting ∨ s.boards[b].state = .online ∨ s.boards[b].state = .offline)
    (wrong : typeMismatch cell = true) : judgeIdent s b cell = boardLeaves s b true .typeMismatch := by
  unfold judgeIdent
  rcases state with h | h | h <;> rw [h] <;> exact if_pos wrong

theorem judgeIdent_fail (state : s.boards[b].state = .waiting ∨ s.boards[b].state = .online ∨ s.boards[b].state = .offline)
    (right : typeMismatch cell = false) (fail : cell.diagnosis = 2) : judgeIdent s b cell = boardLeaves s b true .identFail := by
  unfold judgeIdent
  rcases state with h | h | h <;> rw [h] <;> simp [right, fail]

theorem judgeIdent_waiting (state : s.boards[b].state = .waiting) (right : typeMismatch cell = false) :
    (cell.diagnosis = 1 → judgeIdent s b cell = boardOnline s b false) ∧
      (cell.diagnosis = 0 →
        judgeIdent s b cell = s.modBoard b fun port => { port with deadline := some (movedDeadline port s.now) }) := by
  unfold judgeIdent
  rw [state]
  exact ⟨fun h => by simp [right, h], fun h => by simp [right, h]⟩

theorem judgeIdent_online (state : s.boards[b].state = .online) (right : typeMismatch cell = false) :
    (cell.diagnosis = 1 → judgeIdent s b cell = s) ∧ (cell.diagnosis = 0 → judgeIdent s b cell = boardLeaves s b false .restarted) := by
  unfold judgeIdent
  rw [state]
  exact ⟨fun h => by simp [right, h], fun h => by simp [right, h]⟩

theorem judgeIdent_offline (state : s.boards[b].state = .offline) (right : typeMismatch cell = false) :
    (cell.diagnosis = 1 → judgeIdent s b cell = boardOnline s b true) ∧ (cell.diagnosis = 0 → judgeIdent s b cell = s) := by
  unfold judgeIdent
  rw [state]
  exact ⟨fun h => by simp [right, h], fun h => by simp [right, h]⟩

theorem judgeIdent_failed (state : s.boards[b].state = .failed) :
    judgeIdent s b cell = if typeMismatch cell = false ∧ cell.diagnosis = 1 then boardOnline s b true else s := by
  unfold judgeIdent
  rw [state]

theorem judgeIdent_unconfigured (state : s.boards[b].state = .unconfigured) : judgeIdent s b cell = s := by
  unfold judgeIdent
  rw [state]

end

/-- Settles O32: the rows of R144, each by the state of the board and the content of the cell. -/
theorem identIsJudged : Obligations.IdentIsJudged := by
  intro s b t cell settled u mismatch
  have wrong : typeMismatch cell = mismatch := typeMismatch_eq cell
  have taken : action (.ident b t cell) s = if cell.defined ∧ s.sup.hub = .ready then judgeIdent u b cell else u := rfl
  rw [exec_settled settled, taken, ← wrong]
  refine ⟨fun h => ?_, fun ready defined => ?_⟩
  · rcases h with low | undefined | out
    · rw [if_neg fun c => low c.2]
    · rw [if_neg fun c => absurd ((identDefined_iff cell).mp c.1) (Nat.not_le.mpr undefined)]
    · rw [judgeIdent_unconfigured (by exact out), ite_self]
  · rw [if_pos ⟨(identDefined_iff cell).mpr defined, ready⟩]
    have moved (h : s.boards[b].state = .waiting) (right : typeMismatch cell = false) (pending : cell.diagnosis = 0) (d : Time)
        (deadline : movedDeadline s.boards[b] (max s.now t) = d) :
        judgeIdent u b cell = { u with boards := s.boards.set b { s.boards[b] with deadline := some d } } := by
      rw [(judgeIdent_waiting (by exact h) right).2 pending, ← deadline]
      rfl
    refine ⟨fun h m => congrArg _ (judgeIdent_mismatch (s := u) h m), fun h m d => congrArg _ (judgeIdent_fail (s := u) h m d),
      fun h m d => congrArg _ ((judgeIdent_waiting (s := u) h m).1 d), fun r h m d request sent => ?_, fun h m d unsent => ?_,
      fun h m d => congrArg _ ((judgeIdent_online (s := u) h m).1 d), fun h m d => congrArg _ ((judgeIdent_online (s := u) h m).2 d),
      fun h m d => congrArg _ ((judgeIdent_offline (s := u) h m).1 d), fun h m d => congrArg _ ((judgeIdent_offline (s := u) h m).2 d),
      fun h m d => ?_, fun h other => ?_⟩
    · refine congrArg _ (moved h m d _ ?_)
      rw [movedDeadline, request, sent]
      exact if_neg Bool.false_ne_true
    · refine congrArg _ (moved h m d _ ?_)
      unfold movedDeadline
      split
      · rfl
      · next r request => exact if_pos (unsent.resolve_left fun none => by rw [none] at request; cases request)
    · rw [judgeIdent_failed (by exact h), if_pos ⟨m, d⟩]
    · rw [judgeIdent_failed (by exact h), if_neg fun c => other.elim (ne_true_of_eq_false c.1) fun n => n c.2]

end Sys2Proof.Machine
end

section
/-! Sense reports and trips, and the derating bucket (R83, R127, R128, R130, R134, R149, R150). -/

namespace Sys2Proof.Machine

-- The default arguments `by decide` wait for the kernel: one declaration after the other holds few threads.
set_option Elab.async false

/-! ### The derating bucket (R83 to R85) -/

/-- R83: a board's bucket has moved. -/
def bucketSet (s : State) (b : BoardId) (bucket : Fin 32) : State :=
  { s with ba := { s.ba with derating := s.ba.derating.set b { s.ba.derating[b] with bucket := bucket } } }

theorem bucketSet_get (s : State) (b : BoardId) (bucket : Fin 32) (c : BoardId) :
    (bucketSet s b bucket).ba.derating[c] = if b = c then { s.ba.derating[b] with bucket := bucket } else s.ba.derating[c] := Laws.set_get ..

theorem derate_of {s : State} {b : BoardId} {d : Derating} (h : s.ba.derating[b] = d) : derate s b = d.manual.getD s.ts.work.t5[d.bucket] := by
  subst h
  exact derate_eq s b

theorem takeHeatsink_eq (s : State) (b : BoardId) (temp : Int) :
    let bucket := bucketAfter s.ba.derating[b].bucket temp
    takeHeatsink s b temp =
      if s.ba.derating[b].manual = none ∧ s.ts.work.t5[s.ba.derating[b].bucket] ≠ s.ts.work.t5[bucket] then recompute (bucketSet s b bucket)
      else bucketSet s b bucket := by
  intro bucket
  have others (c : BoardId) (ne : c ≠ b) : derate s c = derate (bucketSet s b bucket) c := by
    rw [derate_eq, derate_of ((bucketSet_get s b bucket c).trans (if_neg ne.symm))]
    rfl
  have taken : takeHeatsink s b temp = takeDerating s (bucketSet s b bucket) := rfl
  rw [taken, takeDerating_one others, derate_eq, derate_of ((bucketSet_get s b bucket b).trans (if_pos rfl))]
  cases s.ba.derating[b].manual with
  | none =>
    dsimp only [Option.getD_none]
    by_cases same : s.ts.work.t5[s.ba.derating[b].bucket] = s.ts.work.t5[bucket]
    · rw [if_pos (by exact same), if_neg fun c => c.2 same]
    · rw [if_neg (by exact same), if_pos ⟨rfl, same⟩]
  | some m => rw [if_pos (by rfl), if_neg fun c => nomatch c.1]

theorem takeHeatsink_derating (s : State) (b : BoardId) (temp : Int) :
    (takeHeatsink s b temp).ba.derating[b] = { s.ba.derating[b] with bucket := bucketAfter s.ba.derating[b].bucket temp } := by
  have set := (bucketSet_get s b (bucketAfter s.ba.derating[b].bucket temp) b).trans (if_pos rfl)
  rw [takeHeatsink_eq]
  split
  · have kept := (recompute_touches (bucketSet s b (bucketAfter s.ba.derating[b].bucket temp))).kept .deratings
    exact (congrArg (·[b]) kept).trans set
  · exact set

theorem candidateBucket_lt (temp : Int) : candidateBucket temp < 32 := by
  unfold candidateBucket
  split
  · decide
  · split
    · decide
    · omega

/-- R83: the table of the bucket. -/
theorem bucketAfter_rows (current : Fin 32) (temp : Int) :
    (current.val < candidateBucket temp → (bucketAfter current temp).val = candidateBucket temp) ∧
    (candidateBucket temp = current.val → bucketAfter current temp = current) ∧
    (candidateBucket temp < current.val → temp ≤ 5 * (candidateBucket temp : Int) + 2 → (bucketAfter current temp).val = candidateBucket temp) ∧
    (candidateBucket temp < current.val → 5 * (candidateBucket temp : Int) + 2 < temp → bucketAfter current temp = current) := by
  have bound : (Fin.ofNat 32 (candidateBucket temp)).val = candidateBucket temp := Nat.mod_eq_of_lt (candidateBucket_lt temp)
  unfold bucketAfter
  refine ⟨fun up => ?_, fun same => ?_, fun down low => ?_, fun down high => ?_⟩
  · rw [if_pos up, bound]
  · rw [if_neg (by omega), if_neg (by omega)]
  · rw [if_neg (by omega), if_pos ⟨down, low⟩, bound]
  · rw [if_neg (by omega), if_neg (by omega)]

/-- Settles O36: the table of R83, and the recompute on a new derate. -/
theorem deratingBucketFollowsTheHeatsink : Obligations.DeratingBucketFollowsTheHeatsink := by
  intro s b temp old new candidate u
  have moved : new = bucketAfter old temp := congrArg Derating.bucket (takeHeatsink_derating s b temp)
  obtain ⟨up, same, low, high⟩ := bucketAfter_rows old temp
  have taken : takeHeatsink s b temp = if s.ba.derating[b].manual = none ∧ s.ts.work.t5[old] ≠ s.ts.work.t5[new] then recompute u else u := by
    simp only [u, moved]
    exact takeHeatsink_eq s b temp
  refine ⟨?_, ?_, ?_, ?_, (congrArg Derating.manual (takeHeatsink_derating s b temp) :), taken⟩
  all_goals rw [moved]
  exacts [up, same, low, high]

/-! ### Trips (R126, R130) -/

/-- R164: a notice looks at neither the Protection Unit nor the posts. -/
theorem queueNotice_apart (s : State) (pu : Protection) (posts : Posts) (kind : NoticeKind) (subject : Byte) (first second : Nat) :
    queueNotice { s with pu := pu, posts := posts } kind subject first second =
      { queueNotice s kind subject first second with pu := pu, posts := posts } := by
  have booked_eq : booked { s with pu := pu, posts := posts } kind = booked s kind := rfl
  unfold queueNotice
  rw [booked_eq]
  split
  · by_cases room : s.cp.notices.length < 32
    · rw [if_pos room, if_pos (by exact room)]
      rfl
    · rw [if_neg room, if_neg (by exact room)]
      rfl
  · rfl

theorem windowOver_eq (s : State) (l : LegId) : windowOver s l = newWindow s l := by
  unfold windowOver newWindow
  cases s.pu.legs[l].windowStart <;> rfl

/-- R130: the record of a leg after a trip, as the statements put it. -/
def legTripped (s : State) (l : LegId) : LegRecord :=
  { state := if tripCount s l < 3 then .tripped else .locked
    trips := tripCount s l
    windowStart := if newWindow s l then some s.fe.frameCount else s.pu.legs[l].windowStart
    cooldown := if tripCount s l < 3 then some s.ts.work.cooldown else none
    overshoot := false }

theorem legTripped_not_ready (s : State) (l : LegId) : (legTripped s l).state ≠ .ready := by
  unfold legTripped
  split <;> nofun

/-- R126: a READY leg that trips leaves service, with its posts. -/
theorem changeLeg_tripped {s : State} {l : LegId} (ready : s.pu.legs[l].state = .ready) :
    changeLeg s l (tripped s l) =
      { s with
        pu := { s.pu with legs := s.pu.legs.set l (legTripped s l) }
        posts := { s.posts with cmClaims := s.posts.cmClaims ++ [.legOut l], triggers := s.posts.triggers ++ [.legState l] } } := by
  have leaves : s.pu.legs[l].state = .ready ∧ (tripped s l s.pu.legs[l]).state ≠ .ready := ⟨ready, legTripped_not_ready s l⟩
  have record : { tripped s l s.pu.legs[l] with overshoot := false } = legTripped s l := by
    rw [tripped, windowOver_eq]
    rfl
  unfold changeLeg
  rw [if_pos leaves]
  simp only [postTrigger, postCoilClaim, State.modPosts, State.modLeg, record]

theorem trip_idle_of {s : State} {l : LegId} (h : s.pu.legs[l].state ≠ .ready) (cause : TripCause) (coil : Option CoilId) (value : Nat) :
    trip s l cause coil value = s := if_pos h

/-- R130: a trip of a READY leg up to its protective event. -/
def tripCaptured (s : State) (l : LegId) (cause : TripCause) (coil : Option CoilId) (value : Nat) : State :=
  let told := queueNotice s .legTripped (BitVec.ofNat 8 l.val) cause.kind.code (tripCount s l)
  let shown := if tripCount s l < 3 then told else queueNotice told .legLocked (BitVec.ofNat 8 l.val) (tripCount s l) 0
  protective
    { shown with
      pu := { s.pu with legs := s.pu.legs.set l (legTripped s l) }
      posts := { s.posts with
                 cmClaims := s.posts.cmClaims ++ [.legOut l], triggers := s.posts.triggers ++ [.legState l]
                 offNows := s.posts.offNows ++ [l] } }
    cause.kind (some (legBoard l)) (some l) coil value

theorem trip_ready {s : State} {l : LegId} (ready : s.pu.legs[l].state = .ready) (cause : TripCause) (coil : Option CoilId) (value : Nat) :
    trip s l cause coil value =
      if tripCount s l < 3 ∨ s.fe.hob = .halted then tripCaptured s l cause coil value
      else trap (tripCaptured s l cause coil value) .legLock := by
  have captured : protective
      (if tripCount s l < 3 then
        queueNotice (postOffNow (changeLeg s l (tripped s l)) l) .legTripped (BitVec.ofNat 8 l.val) cause.kind.code (tripCount s l)
      else queueNotice (queueNotice (postOffNow (changeLeg s l (tripped s l)) l) .legTripped (BitVec.ofNat 8 l.val) cause.kind.code (tripCount s l))
        .legLocked (BitVec.ofNat 8 l.val) (tripCount s l) 0) cause.kind (some (legBoard l)) (some l) coil value = tripCaptured s l cause coil value := by
    unfold tripCaptured
    dsimp only
    rw [changeLeg_tripped ready]
    simp only [postOffNow, State.modPosts, queueNotice_apart]
    split <;> rfl
  unfold trip
  rw [if_neg (not_not_intro ready)]
  dsimp only
  rw [captured]

/-! ### Reports to the Protection Unit (R127, R128, R134) -/

theorem usedCoil_some (s : State) (r : Report) (k : CoilId) :
    usedCoil s r = some k ↔
      (∃ sel : Selector, r.selector = some sel ∧ k = coilAt r.board r.leg sel) ∧ r.mode ≠ .idle ∧ s.coils[k].occupancy ≠ .absent ∧
        s.ts.work.t1[k].cls.val ≤ 2 ∧ s.coils[k].disabled = false ∧ s.legOut[coilLeg k].board = false ∧ s.legOut[coilLeg k].leg = false := by
  unfold usedCoil Report.selectedCoil
  cases r.selector with
  | none => simp
  | some sel =>
    simp only [Option.map_some, Option.ite_none_right_eq_some, Option.some.injEq, outOfService, Bool.or_eq_false_iff]
    constructor
    · rintro ⟨h, rfl⟩
      exact ⟨⟨sel, rfl, rfl⟩, h⟩
    · rintro ⟨⟨_, rfl, rfl⟩, h⟩
      exact ⟨h, rfl⟩

theorem namedCoil_some (s : State) (r : Report) (k : CoilId) :
    namedCoil s r = some k ↔
      (∃ sel : Selector, r.selector = some sel ∧ k = coilAt r.board r.leg sel) ∧ r.mode ≠ .idle ∧ s.coils[k].occupancy ≠ .absent := by
  unfold namedCoil Report.selectedCoil
  cases r.selector with
  | none => simp
  | some sel =>
    simp only [Option.map_some, Option.ite_none_right_eq_some, Option.some.injEq]
    constructor
    · rintro ⟨h, rfl⟩
      exact ⟨⟨sel, rfl, rfl⟩, h⟩
    · rintro ⟨⟨_, rfl, rfl⟩, h⟩
      exact ⟨h, rfl⟩

theorem takeReport_unused {s : State} {r : Report} (h : usedCoil s r = none) : takeReport s r = s := by
  rw [takeReport, h]

theorem takeReport_used {s : State} {r : Report} {k : CoilId} (h : usedCoil s r = some k) : takeReport s r = takeMeasurement s k r := by
  rw [takeReport, h]

/-- R134: a coil becomes hot, up to its protective event. -/
theorem coilHot_eq (s : State) (k : CoilId) (r : Report) :
    coilHot s k r =
      protective
        { queueNotice s .coilHot (BitVec.ofNat 8 k.val) r.temp s.ts.work.hotLimit with
          pu := { s.pu with hot := s.pu.hot.set k true }
          posts := { s.posts with
                     cmClaims := s.posts.cmClaims ++ [.hot k]
                     offNows := s.posts.offNows ++ (if r.mode = .firing then [coilLeg k] else []) } }
        .coilHot (some (coilBoard k)) (some (coilLeg k)) (some k) r.temp := by
  simp only [coilHot, postCoilClaim, postOffNow, State.modPosts, State.modPu, queueNotice_apart]
  split
  · rfl
  · rw [List.append_nil]

theorem coilCool_eq (s : State) (k : CoilId) (r : Report) :
    coilCool s k r =
      { queueNotice s .coilCool (BitVec.ofNat 8 k.val) r.temp s.ts.work.coolLimit with
        pu := { s.pu with hot := s.pu.hot.set k false }
        posts := { s.posts with cmClaims := s.posts.cmClaims ++ [.cool k] } } := queueNotice_apart s _ _ ..

end Sys2Proof.Machine
end

section
/-! Sense reports, continued: what a valid cell does (R5, R127, R128, R130, R134, R149, R150). -/

namespace Sys2Proof.Machine

-- The default arguments `by decide` wait for the kernel: one declaration after the other holds few threads.
set_option Elab.async false

theorem judgeTemperature_cold {s : State} {k : CoilId} {r : Report} (cold : s.pu.hot[k] = false) :
    judgeTemperature s k r = if s.ts.work.hotLimit ≤ r.temp then coilHot s k r else s := by
  rw [judgeTemperature, cold]
  rfl

theorem judgeTemperature_hot {s : State} {k : CoilId} {r : Report} (hot : s.pu.hot[k] = true) :
    judgeTemperature s k r = if r.temp ≤ s.ts.work.coolLimit then coilCool s k r else s := by
  rw [judgeTemperature, hot]
  rfl

/-- R128: the rows of the overshoot test. -/
theorem testOvershoot_idle {s : State} {r : Report} (h : s.pu.legs[r.globalLeg].state ≠ .ready) (d : LegDrive) : testOvershoot s r d = s := if_pos h

theorem testOvershoot_ready {s : State} {r : Report} (h : s.pu.legs[r.globalLeg].state = .ready) (d : LegDrive) :
    testOvershoot s r d =
      if r.delivered ≤ d.setpoint + s.ts.work.overshootMargin then s.modLeg r.globalLeg fun g => { g with overshoot := false }
      else if s.pu.legs[r.globalLeg].overshoot then trip s r.globalLeg .overshoot (faultCoil s r d) r.delivered
      else s.modLeg r.globalLeg fun g => { g with overshoot := true } := if_neg (not_not_intro h)

/-! ### What the blocks that take a report leave unchanged -/

theorem testOvershoot_portFrame (s : State) (r : Report) (d : LegDrive) : PortFrame s (testOvershoot s r d) :=
  .ite (.refl s) (.ite rfl (.ite (trip_portFrame ..) rfl))

theorem coilHot_portFrame (s : State) (k : CoilId) (r : Report) : PortFrame s (coilHot s k r) := by
  have claimed : PortFrame s (postCoilClaim (s.modPu fun pu => { pu with hot := pu.hot.set k true }) (.hot k)) := rfl
  have told := claimed.trans (queueNotice_portFrame _ .coilHot (BitVec.ofNat 8 k.val) r.temp s.ts.work.hotLimit)
  have asked := PortFrame.ite (c := r.mode = .firing) (told.trans (u := postOffNow _ (coilLeg k)) rfl) told
  exact asked.trans (protective_portFrame ..)

theorem coilCool_portFrame (s : State) (k : CoilId) (r : Report) : PortFrame s (coilCool s k r) := by
  have claimed : PortFrame s (postCoilClaim (s.modPu fun pu => { pu with hot := pu.hot.set k false }) (.cool k)) := rfl
  exact claimed.trans (queueNotice_portFrame ..)

theorem judgeTemperature_portFrame (s : State) (k : CoilId) (r : Report) : PortFrame s (judgeTemperature s k r) :=
  .ite (.ite (coilCool_portFrame ..) (.refl s)) (.ite (coilHot_portFrame ..) (.refl s))

/-- R127: a report tripped and its overshoot tested. -/
def legsTested (s : State) (r : Report) (d : LegDrive) : State :=
  let t := if r.trip then trip s r.globalLeg .boardTrip (faultCoil s r d) r.delivered else s
  if r.mode = .firing then testOvershoot t r d else t

theorem protectReport_unnamed {s : State} {r : Report} (h : namedCoil s r = none) (d : LegDrive) : protectReport s r d = legsTested s r d := by
  rw [protectReport, h]
  rfl

theorem protectReport_named {s : State} {r : Report} {k : CoilId} (h : namedCoil s r = some k) (d : LegDrive) :
    protectReport s r d = judgeTemperature (legsTested s r d) k r := by
  rw [protectReport, h]
  rfl

theorem legsTested_portFrame (s : State) (r : Report) (d : LegDrive) : PortFrame s (legsTested s r d) := by
  have tripped : PortFrame s (if r.trip then trip s r.globalLeg .boardTrip (faultCoil s r d) r.delivered else s) :=
    .ite (trip_portFrame ..) (.refl s)
  exact .ite (tripped.trans (testOvershoot_portFrame ..)) tripped

theorem protectReport_portFrame (s : State) (r : Report) (d : LegDrive) : PortFrame s (protectReport s r d) := by
  cases named : namedCoil s r with
  | none => exact protectReport_unnamed named d ▸ legsTested_portFrame s r d
  | some k => exact protectReport_named named d ▸ (legsTested_portFrame s r d).trans (judgeTemperature_portFrame ..)

theorem postMeasured_frame (s : State) (k : CoilId) (r : Report) (v : Verdict) (old : CoilRecord) :
    postMeasured s k r v old = { s with posts := (postMeasured s k r v old).posts } := by
  have either (c : Prop) [Decidable c] (t u : State) (ht : t = { s with posts := t.posts }) (hu : u = { s with posts := u.posts }) :
      (if c then t else u) = { s with posts := (if c then t else u).posts } := by
    split
    · exact ht
    · exact hu
  have triggered (t : State) (e : Trigger) (ht : t = { s with posts := t.posts }) :
      postTrigger t e = { s with posts := (postTrigger t e).posts } := by
    rw [ht]
    rfl
  have changed := either (old.occupancy = .member ∧ old.material ≠ r.material) (postCoilEvent s (.materialChanged k old.owner r.material)) s rfl rfl
  unfold postMeasured
  cases v with
  | sensed => rfl
  | released => exact either _ _ _ rfl rfl
  | memberReleased => rfl
  | stays => exact either _ _ _ (triggered _ _ changed) changed
  | run n => exact either _ _ _ (triggered _ _ changed) changed

/-- R5: a measurement changes the coil's record and posts only. -/
theorem takeMeasurement_frame (s : State) (k : CoilId) (r : Report) :
    let coverage := coverageOf (classEntry s k).empty (classEntry s k).full (measuredV r.mode s.coils[k].range r.fine r.coarse)
    takeMeasurement s k r =
      { s with
        coils := s.coils.set k
          (measured r coverage (measuredRange r.mode s.coils[k].range r.fine) (classEntry s k).fire (classify s k coverage) s.coils[k])
        posts := (takeMeasurement s k r).posts } := postMeasured_frame ..

theorem takeReport_frame (s : State) (r : Report) : takeReport s r = { s with coils := (takeReport s r).coils, posts := (takeReport s r).posts } := by
  cases used : usedCoil s r with
  | none => rw [takeReport_unused used]
  | some k =>
    rw [takeReport_used used]
    have coils := congrArg State.coils (takeMeasurement_frame s k r)
    exact (takeMeasurement_frame s k r).trans (congrArg (fun coils => { s with coils := coils, posts := (takeMeasurement s k r).posts }) coils.symm)

/-! ### A trip flag on a READY leg -/

theorem trip_legs {s : State} {l : LegId} (ready : s.pu.legs[l].state = .ready) (cause : TripCause) (coil : Option CoilId) (value : Nat) :
    (trip s l cause coil value).pu.legs = s.pu.legs.set l (legTripped s l) := by
  have captured : (tripCaptured s l cause coil value).pu.legs = s.pu.legs.set l (legTripped s l) :=
    (protective_touches _ cause.kind (some (legBoard l)) (some l) coil value).kept .legs
  rw [trip_ready ready]
  split
  · exact captured
  · exact captured

theorem legsTested_trip {s : State} {r : Report} (flag : r.trip = true) (ready : s.pu.legs[r.globalLeg].state = .ready) (d : LegDrive) :
    (legsTested s r d).pu.legs = s.pu.legs.set r.globalLeg (legTripped s r.globalLeg) := by
  have legs := trip_legs ready .boardTrip (faultCoil s r d) r.delivered
  have out : (trip s r.globalLeg .boardTrip (faultCoil s r d) r.delivered).pu.legs[r.globalLeg].state ≠ .ready := by
    rw [legs, Laws.set_get, if_pos rfl]
    exact legTripped_not_ready s r.globalLeg
  unfold legsTested
  dsimp only
  rw [if_pos flag, testOvershoot_idle out, ite_self, legs]

theorem protectReport_trip {s : State} {r : Report} (flag : r.trip = true) (ready : s.pu.legs[r.globalLeg].state = .ready) (d : LegDrive) :
    (protectReport s r d).pu.legs = s.pu.legs.set r.globalLeg (legTripped s r.globalLeg) := by
  cases named : namedCoil s r with
  | none => rw [protectReport_unnamed named, legsTested_trip flag ready]
  | some k =>
    rw [protectReport_named named]
    exact Eq.trans ((judgeTemperature_touches _ k r).kept .legs) (legsTested_trip flag ready d)

/-! ### A SENSE cell -/

/-- R149: the slot record of a board takes a valid cell. -/
def senseRecorded (s : State) (b : BoardId) (cell : SenseCell) (slot : SlotRecord) : State :=
  { s with
    boards := s.boards.set b
      { s.boards[b] with
        heatsink := (cell.heatsink.toNat : Int) - 40
        slot := some { slot with reported := slot.reported.set (Report.ofCell b cell).leg true, hold := slot.hold || cell.hold } } }

theorem action_sense (s : State) (b : BoardId) (cell : SenseCell) :
    action (.sense b cell) s = if cell.defined then takeSense s b cell else s := rfl

section
variable {s : State} {b : BoardId} {cell : SenseCell}

theorem senseValid_iff :
    senseValid s b cell = true ↔
      ∃ slot, s.boards[b].slot = some slot ∧ s.boards[b].serial = some cell.serial ∧ slot.reported[(Report.ofCell b cell).leg] = false := by
  unfold senseValid
  cases s.boards[b].slot <;> simp

theorem takeSense_ignored (h : ¬ (s.sup.hub = .ready ∧ s.boards[b].state = .online ∧ senseValid s b cell)) : takeSense s b cell = s := if_neg h

theorem takeSense_valid {slot : SlotRecord} (ready : s.sup.hub = .ready) (online : s.boards[b].state = .online)
    (serial : s.boards[b].serial = some cell.serial) (record : s.boards[b].slot = some slot)
    (first : slot.reported[(Report.ofCell b cell).leg] = false) :
    takeSense s b cell =
      takeHeatsink (protectReport (takeReport (senseRecorded s b cell slot) (Report.ofCell b cell)) (Report.ofCell b cell)
        slot.drive[(Report.ofCell b cell).leg]) b ((cell.heatsink.toNat : Int) - 40) := by
  have valid : senseValid s b cell = true := senseValid_iff.mpr ⟨slot, record, serial, first⟩
  have recorded : recordSense s b cell = senseRecorded s b cell slot := by
    unfold recordSense State.modBoard senseRecorded
    simp only [record]
    rfl
  have drive : recordedDrive s b (Report.ofCell b cell).leg = slot.drive[(Report.ofCell b cell).leg] := by
    rw [recordedDrive, record]
  rw [takeSense, if_pos ⟨ready, online, valid⟩]
  dsimp only
  rw [recorded, drive]
  rfl

end

end Sys2Proof.Machine
end

section
/-! SENSE cells: the rows of R5, R127, R128, R130, R134, R149 and R150 (O33). -/

namespace Sys2Proof.Machine

-- The default arguments `by decide` wait for the kernel: one declaration after the other holds few threads.
set_option Elab.async false

/-- A report as its cell gives it. -/
theorem reportOfCell_eq (b : BoardId) (cell : SenseCell) :
    Report.ofCell b cell =
      { board := b, leg := Fin.ofNat 4 cell.leg.toNat
        mode := if cell.mode = 0 then .idle else if cell.mode = 1 then .firing else .probe
        selector := if cell.selector = 0xFF#8 then none else some (Fin.ofNat 4 cell.selector.toNat)
        fine := cell.fine.toNat, coarse := cell.coarse.toNat, delivered := cell.delivered.toNat * 10, temp := cell.temp.toNat
        material := if cell.material = 0 then .none else if cell.material = 1 then .ferritic
          else if cell.material = 2 then .layered else .unsuitable
        trip := cell.trip } := by
  have two (x : Byte) : (x.extractLsb' 0 2).toFin = Fin.ofNat 4 x.toNat := by
    apply Fin.ext
    simp
  have material : materialOf cell.material.toNat = if cell.material = 0 then .none else if cell.material = 1 then .ferritic
      else if cell.material = 2 then .layered else .unsuitable := by
    generalize cell.material = m
    revert m
    decide
  rw [Report.ofCell, two, two, material]

/-- What a valid cell leaves unchanged, and what it does to the coil it measures and to a READY leg whose trip flag is set. -/
theorem senseTaken (s : State) (b : BoardId) (cell : SenseCell) (slot : SlotRecord) :
    let r := Report.ofCell b cell
    let l : LegId := r.globalLeg
    let v := senseRecorded s b cell slot
    let u := protectReport (takeReport v r) r slot.drive[r.leg]
    u = { v with
          coils := u.coils, posts := u.posts, pu := u.pu
          cp := { s.cp with notices := u.cp.notices, gap := u.cp.gap } } ∧
    u.coils = (takeReport v r).coils ∧
    (cell.trip = true → s.pu.legs[l].state = .ready → u.pu.legs = s.pu.legs.set l (legTripped s l)) := by
  intro r l v u
  obtain ⟨w, taken⟩ : ∃ w, takeReport v r = w := ⟨_, rfl⟩
  have measured : w = { v with coils := w.coils, posts := w.posts } := taken ▸ takeReport_frame v r
  have guarded : PortFrame w u := taken ▸ protectReport_portFrame (takeReport v r) r slot.drive[r.leg]
  have boards : u.boards = w.boards := taken ▸ (protectReport_touches (takeReport v r) r slot.drive[r.leg]).kept .boards
  unfold PortFrame at guarded
  have posts := (congrArg State.posts guarded :)
  have coils : u.coils = w.coils := (congrArg State.coils guarded :)
  refine ⟨?_, taken ▸ coils, fun flag ready => ?_⟩
  · calc u
        = { w with pu := u.pu, boards := w.boards, posts := u.posts, cp := { w.cp with notices := u.cp.notices, gap := u.cp.gap } } := by
          rw [← boards, posts]
          exact guarded
      _ = { v with
            coils := w.coils, posts := u.posts, pu := u.pu, cp := { s.cp with notices := u.cp.notices, gap := u.cp.gap } } := by
          rw [measured]
          rfl
      _ = _ := by rw [coils]
  · have pu : w.pu = s.pu := measured ▸ rfl
    have leg : legTripped w l = legTripped s l := by
      rw [measured]
      rfl
    have trips := protectReport_trip (s := w) (r := r) flag (by rw [pu]; exact ready) slot.drive[r.leg]
    rw [← leg, ← pu]
    exact taken ▸ trips

/-- R149: the bucket and, on a new derate, the recompute after a valid cell. -/
theorem senseHeatsink {s u : State} (ba : u.ba = s.ba) (ts : u.ts = s.ts) (b : BoardId) (temp : Int) :
    let bucket : Fin 32 := bucketAfter s.ba.derating[b].bucket temp
    let same : Prop := s.ba.derating[b].manual = none → s.ts.work.t5[s.ba.derating[b].bucket] = s.ts.work.t5[bucket]
    (same → takeHeatsink u b temp = bucketSet u b bucket) ∧ (¬ same → takeHeatsink u b temp = recompute (bucketSet u b bucket)) := by
  intro bucket same
  have eq := takeHeatsink_eq u b temp
  have differs : ¬ same ↔ u.ba.derating[b].manual = none ∧
      u.ts.work.t5[u.ba.derating[b].bucket] ≠ u.ts.work.t5[bucketAfter u.ba.derating[b].bucket temp] := by
    simp only [same, bucket, ba, ts, Classical.not_imp, ne_eq]
  refine ⟨fun h => ?_, fun h => ?_⟩
  · rw [eq, if_neg fun c => differs.mpr c h, ba]
  · rw [eq, if_pos (differs.mp h), ba]

/-- Settles O33: which cells are ignored; the blocks a valid one goes through in turn, and what each does, row by row. -/
theorem senseReportsAreTaken : Obligations.SenseReportsAreTaken := by
  refine ⟨fun s b cell settled => ?_, reportOfCell_eq, fun s r => ?_, fun s r d => ?_, fun s k r => ?_, fun s l cause coil value => ?_⟩
  · intro r l
    rw [exec_settled settled, action_sense]
    refine ⟨fun h => ?_, fun slot record again => ?_, fun slot defined ready online serial record first => ?_,
      fun slot defined ready online serial record first => ?_⟩
    · refine congrArg _ ?_
      rcases h with undefined | low | off | stale | none
      · rw [undefined]
        rfl
      · rw [takeSense_ignored fun c => low c.1, ite_self]
      · rw [takeSense_ignored fun c => off c.2.1, ite_self]
      · rw [takeSense_ignored, ite_self]
        rintro ⟨-, -, valid⟩
        obtain ⟨_, -, serial, -⟩ := senseValid_iff.mp valid
        exact stale serial
      · rw [takeSense_ignored, ite_self]
        rintro ⟨-, -, valid⟩
        obtain ⟨_, record, -, -⟩ := senseValid_iff.mp valid
        rw [none] at record
        cases record
    · rw [takeSense_ignored, ite_self]
      rintro ⟨-, -, valid⟩
      obtain ⟨_, record', -, first⟩ := senseValid_iff.mp valid
      rw [record] at record'
      cases record'
      exact Bool.eq_false_iff.mp first again
    · rw [if_pos defined, takeSense_valid ready online serial record first]
      rfl
    · intro bucket same
      obtain ⟨frame, coils, trips⟩ := senseTaken s b cell slot
      rw [if_pos defined, takeSense_valid ready online serial record first]
      generalize protectReport (takeReport (senseRecorded s b cell slot) (Report.ofCell b cell)) (Report.ofCell b cell)
        slot.drive[(Report.ofCell b cell).leg] = u at frame coils trips
      obtain ⟨held, moved⟩ := senseHeatsink (s := s) (u := u) (congrArg State.ba frame :) (congrArg State.ts frame :) b
        ((cell.heatsink.toNat : Int) - 40)
      refine ⟨bucketSet u b bucket, fun h => congrArg _ (held h), fun h => congrArg _ (moved h), ?_, fun unused => ?_, fun k used => ?_, trips⟩
      · rw [frame]
        rfl
      · exact coils.trans (congrArg State.coils (takeReport_unused (s := senseRecorded s b cell slot) unused) :)
      · have taken := takeReport_used (s := senseRecorded s b cell slot) used
        have measured := congrArg State.coils (takeMeasurement_frame (senseRecorded s b cell slot) k r)
        rw [← taken, ← coils] at measured
        have whole : (bucketSet u b bucket).coils = _ := measured
        have at_coil := (congrArg (·[k]) whole).trans ((Laws.set_get ..).trans (if_pos rfl))
        rw [at_coil, whole]
        rfl
  · refine ⟨usedCoil_some s r, namedCoil_some s r, takeReport_unused, fun k => takeReport_used⟩
  · intro l setpoint coil u v
    have setpoint_eq : d.setpoint = setpoint := by cases d <;> rfl
    have coil_eq : faultCoil s r d = coil := by
      simp only [faultCoil, coil]
      cases namedCoil s r <;> cases d <;> rfl
    have tested : legsTested s r d = v := by
      rw [legsTested, coil_eq]
    refine ⟨fun h => (protectReport_unnamed h d).trans tested, fun k h => (protectReport_named h d).trans (tested ▸ rfl),
      fun h => testOvershoot_idle h d, fun h low => ?_, fun h high flag => ?_, fun h high flag => ?_⟩
    all_goals rw [testOvershoot_ready h, setpoint_eq]
    · exact if_pos low
    · rw [if_neg (Nat.not_le.mpr high), if_neg (Bool.eq_false_iff.mp flag)]
      rfl
    · rw [if_neg (Nat.not_le.mpr high), if_pos flag, coil_eq]
  · intro hot
    refine ⟨fun cold high => ?_, fun hot low => ?_, fun h => ?_⟩
    · rw [judgeTemperature_cold cold, if_pos high, coilHot_eq]
    · rw [judgeTemperature_hot hot, if_pos low, coilCool_eq]
    · rcases h with ⟨cold, low⟩ | ⟨hot, high⟩
      · rw [judgeTemperature_cold cold, if_neg (Nat.not_le.mpr low)]
      · rw [judgeTemperature_hot hot, if_neg (Nat.not_le.mpr high)]
  · refine ⟨fun h => trip_idle_of h .., fun ready => ?_⟩
    intro n leg kind told shown u
    have count : tripCount s l = n := by
      rw [tripCount, windowOver_eq]
    have kind_eq : cause.kind = kind := by cases cause <;> rfl
    have captured : tripCaptured s l cause coil value = u := by
      unfold tripCaptured legTripped
      rw [count, kind_eq]
    rw [trip_ready ready, count, captured]
    rfl

end Sys2Proof.Machine
end

section
/-! The Coil Monitor: what a measurement makes of a coil (R8 to R11, R19). -/

namespace Sys2Proof.Machine

-- The default arguments `by decide` wait for the kernel: one declaration after the other holds few threads.
set_option Elab.async false

/-! ### The classification (R9 to R11) -/

section
variable {s : State} {k : CoilId} {coverage : Nat}

theorem classify_below (vacant : s.coils[k].occupancy = .vacant) (low : coverage < (classEntry s k).detect) :
    classify s k coverage = .run 0 := by
  rw [classify, vacant]
  exact if_neg (Nat.not_le.mpr low)

theorem classify_counts (vacant : s.coils[k].occupancy = .vacant) (high : (classEntry s k).detect ≤ coverage)
    (few : s.coils[k].confirm + 1 < s.ts.work.confirmCount) : classify s k coverage = .run (s.coils[k].confirm + 1) := by
  rw [classify, vacant]
  exact (if_pos high).trans (if_neg (Nat.not_le.mpr few))

theorem classify_sensed (vacant : s.coils[k].occupancy = .vacant) (high : (classEntry s k).detect ≤ coverage)
    (enough : s.ts.work.confirmCount ≤ s.coils[k].confirm + 1) : classify s k coverage = .sensed := by
  rw [classify, vacant]
  exact (if_pos high).trans (if_pos enough)

theorem classify_released (sensed : s.coils[k].occupancy = .sensed) (low : coverage < (classEntry s k).release) :
    classify s k coverage = .released := by
  rw [classify, sensed]
  exact if_pos low

theorem classify_memberReleased (member : s.coils[k].occupancy = .member) (low : coverage < (classEntry s k).release) :
    classify s k coverage = .memberReleased := by
  rw [classify, member]
  exact if_pos low

theorem classify_stays (there : s.coils[k].occupancy = .sensed ∨ s.coils[k].occupancy = .member) (high : (classEntry s k).release ≤ coverage) :
    classify s k coverage = .stays := by
  unfold classify
  rcases there with h | h <;> rw [h] <;> exact if_neg (Nat.not_lt.mpr high)

end

/-! ### The events due (R5, R19) -/

/-- R19: when a measurement that leaves a coil's occupancy is an eligibility change. -/
theorem measuredEligibility_stays (r : Report) (coverage : Nat) (range : RangeMode) (fire : Nat) (old : CoilRecord) :
    measuredEligibility old (measured r coverage range fire .stays old) = true ↔
      old.occupancy = .member ∧
        (old.fireMet ≠ decide (fire ≤ coverage) ∨ (old.unobserved = true ∧ old.hot = false ∧ old.disabled = false)) := by
  have available : (old.available != (measured r coverage range fire .stays old).available) =
      (old.unobserved && !old.hot && !old.disabled) := by
    simp only [CoilRecord.available, measured]
    cases old.hot <;> cases old.disabled <;> cases old.unobserved <;> rfl
  unfold measuredEligibility
  rw [available]
  simp [measured, and_assoc]

/-- R5, step 6: what a measurement that changes no occupancy posts. -/
theorem postMeasured_kept (s : State) (k : CoilId) (r : Report) {v : Verdict} (kept : v = .stays ∨ ∃ n, v = .run n) (old : CoilRecord) :
    (postMeasured s k r v old).posts.coilEvents = s.posts.coilEvents ++
        (if old.occupancy = .member ∧ old.material ≠ r.material then [.materialChanged k old.owner r.material] else []) ∧
      (postMeasured s k r v old).posts.triggers =
        s.posts.triggers ++ (if measuredEligibility old s.coils[k] then [.eligibility k old.owner] else []) := by
  have same : postMeasured s k r v old = postMeasured s k r .stays old := by
    rcases kept with rfl | ⟨n, rfl⟩ <;> rfl
  rw [same]
  unfold postMeasured
  dsimp only
  by_cases changed : old.occupancy = .member ∧ old.material ≠ r.material
  · rw [if_pos changed, if_pos changed]
    change (if measuredEligibility old s.coils[k] then _ else _ : State).posts.coilEvents = _ ∧ (if measuredEligibility old s.coils[k] then _ else _ : State).posts.triggers = _
    split
    · exact ⟨rfl, rfl⟩
    · exact ⟨rfl, (List.append_nil _).symm⟩
  · rw [if_neg changed, if_neg changed]
    split
    · exact ⟨(List.append_nil _).symm, rfl⟩
    · exact ⟨(List.append_nil _).symm, (List.append_nil _).symm⟩

theorem coverageOf_rows (empty full v : Nat) :
    (v ≤ empty → coverageOf empty full v = 0) ∧ (empty < v → full ≤ v → coverageOf empty full v = 200) ∧
      (empty < v → v < full → coverageOf empty full v = 200 * (v - empty) / (full - empty)) := by
  unfold coverageOf
  exact ⟨fun low => if_pos low, fun high top => (if_neg (Nat.not_le.mpr high)).trans (if_pos top),
    fun high low => (if_neg (Nat.not_le.mpr high)).trans (if_neg (Nat.not_le.mpr low))⟩

theorem releases_iff (c : CoilId) (e : CoilEvent) :
    e.releases c = true ↔ ∃ p m firing frames seconds, e = .memberRelease c p m firing frames seconds := by
  cases e <;> simp [CoilEvent.releases]

/-- Settles O34: the rows of R9 to R11 by the verdict of each, its record and its posts. -/
theorem measurementsClassifyCoils : Obligations.MeasurementsClassifyCoils := by
  refine ⟨coverageOf_rows, fun s k r used => ?_⟩
  intro cov u
  have present : s.coils[k].occupancy ≠ .absent := ((usedCoil_some s r k).mp used).2.2.1
  let record (v : Verdict) : CoilRecord := measured r cov (measuredRange r.mode s.coils[k].range r.fine) (classEntry s k).fire v s.coils[k]
  have taken : u = postMeasured (s.modCoil k fun _ => record (classify s k cov)) k r (classify s k cov) s.coils[k] := rfl
  have set (v : Verdict) : (s.modCoil k fun _ => record v).coils[k] = record v := (Laws.set_get ..).trans (if_pos rfl)
  have coil : u.coils[k] = record (classify s k cov) := by
    rw [taken, postMeasured_frame]
    exact set _
  have judged {v : Verdict} (h : classify s k cov = v) :
      u.coils[k] = record v ∧ u = postMeasured (s.modCoil k fun _ => record v) k r v s.coils[k] := h ▸ ⟨coil, taken⟩
  have kept {v : Verdict} (h : classify s k cov = v) (kept : v = .stays ∨ ∃ n, v = .run n) :=
    postMeasured_kept (s.modCoil k fun _ => record v) k r kept s.coils[k]
  have untouched (vacant : s.coils[k].occupancy = .vacant) {n : Nat} (h : classify s k cov = .run n) :
      u.coils[k].occupancy = .vacant ∧ u.coils[k].confirm = n ∧ u.posts.coilEvents = s.posts.coilEvents := by
    obtain ⟨coil, taken⟩ := judged h
    have free : ¬ (s.coils[k].occupancy = .member ∧ s.coils[k].material ≠ r.material) := fun c => by
      rw [vacant] at c
      cases c.1
    rw [coil, taken, (kept h (.inr ⟨n, rfl⟩)).1, if_neg free, List.append_nil]
    exact ⟨vacant, rfl, rfl⟩
  refine ⟨fun vacant low => untouched vacant (classify_below vacant low), fun vacant high few => untouched vacant (classify_counts vacant high few),
    fun vacant high enough => ?_, fun sensed low => ?_, fun there high => ?_, fun member low => ?_, releases_iff, by rw [coil]; rfl, ?_⟩
  · obtain ⟨coil, taken⟩ := judged (classify_sensed vacant high enough)
    rw [coil, taken]
    exact ⟨rfl, rfl, rfl⟩
  · obtain ⟨coil, taken⟩ := judged (classify_released sensed low)
    rw [coil, taken]
    refine ⟨rfl, rfl, ?_⟩
    change (if r.mode = .firing then _ else _ : State).posts.coilEvents = _ ∧ (if r.mode = .firing then _ else _ : State).posts.releases = _
    split
    · exact ⟨rfl, rfl⟩
    · exact ⟨rfl, (List.append_nil _).symm⟩
  · have stays := classify_stays there high
    obtain ⟨coil, taken⟩ := judged stays
    rw [coil, taken, (kept stays (.inl rfl)).1]
    exact ⟨rfl, rfl, rfl⟩
  · obtain ⟨coil, taken⟩ := judged (classify_memberReleased member low)
    rw [coil, taken]
    refine ⟨member, fun none => ?_, fun waits => ?_⟩
    · change (postMemberRelease _ k s.coils[k].owner r.material (r.mode == .firing)).posts.coilEvents = _
      rw [postMemberRelease_new (by exact none)]
      rfl
    · change (postMemberRelease _ k s.coils[k].owner r.material (r.mode == .firing)).posts.coilEvents = _
      rw [postMemberRelease_again (by exact waits)]
      refine List.map_congr_left fun e _ => ?_
      cases e with
      | memberRelease c p m firing frames seconds =>
        have same : (c == k) = decide (c = k) := rfl
        simp only [CoilEvent.again, same, Bool.and_comm]
      | _ => rfl
  · by_cases stays : s.coils[k].occupancy = .member ∧ (classEntry s k).release ≤ cov
    · have verdict := classify_stays (.inr stays.1) stays.2
      have eligible := measuredEligibility_stays r cov (measuredRange r.mode s.coils[k].range r.fine) (classEntry s k).fire s.coils[k]
      rw [(judged verdict).2, (kept verdict (.inl rfl)).2, set]
      refine congrArg _ (ite_congr (propext ⟨fun h => ?_, fun h => ?_⟩) (fun _ => rfl) fun _ => rfl)
      · exact ⟨stays.1, stays.2, (eligible.mp h).2⟩
      · exact eligible.mpr ⟨h.1, h.2.2⟩
    · have quiet {v : Verdict} (h : classify s k cov = v) (kind : v = .stays ∨ ∃ n, v = .run n) : u.posts.triggers = s.posts.triggers := by
        have same : (record v).occupancy = s.coils[k].occupancy := by rcases kind with rfl | ⟨n, rfl⟩ <;> rfl
        have ineligible : ¬ measuredEligibility s.coils[k] (record v) = true := fun e => by
          have member : s.coils[k].occupancy = .member := same ▸ (by simpa [measuredEligibility] using e : _ ∧ _).1
          have verdict := classify_memberReleased member (Nat.lt_of_not_le fun high => stays ⟨member, high⟩)
          rw [h] at verdict
          rcases kind with rfl | ⟨n, rfl⟩ <;> cases verdict
        rw [(judged h).2, (kept h kind).2, set, if_neg ineligible, List.append_nil]
        rfl
      rw [if_neg fun c => stays ⟨c.1, c.2.1⟩, List.append_nil]
      cases verdict : classify s k cov with
      | stays => exact quiet verdict (.inl rfl)
      | run n => exact quiet verdict (.inr ⟨n, rfl⟩)
      | sensed => exact congrArg (·.posts.triggers) (judged verdict).2
      | memberReleased => exact congrArg (·.posts.triggers) (judged verdict).2
      | released =>
        rw [(judged verdict).2]
        change (if r.mode = .firing then _ else _ : State).posts.triggers = _
        split
        · rfl
        · rfl

end Sys2Proof.Machine
end

section
/-! The claims on the Coil Monitor: boards and legs out of service and back, hot and cool (R16, R17, R19). -/

namespace Sys2Proof.Machine

-- The default arguments `by decide` wait for the kernel: one declaration after the other holds few threads.
set_option Elab.async false

/-! ### Loops that change one entry at a time and log what they do -/

/-- A loop over distinct places that changes each entry. -/
theorem ofFn_foldl_set {α : Type} {n : Nat} (g : Fin n → α → α) {l : List (Fin n)} (distinct : l.Nodup) (v : Vector α n) :
    (Vector.ofFn fun j => if j ∈ l then g j v[j] else v[j]) = l.foldl (fun (v : Vector α n) (i : Fin n) => v.set i (g i v[i])) v := by
  refine Vector.ext fun j hj => ?_
  have get := Laws.foldl_set_get g l distinct v ⟨j, hj⟩
  simpa using get.symm

theorem ofFn_set {α : Type} {n : Nat} (a : Fin n) (x : α) (v : Vector α n) :
    (Vector.ofFn fun j => if j = a then x else v[j]) = v.set a x := by
  refine Vector.ext fun j hj => ?_
  have get := Laws.set_get v a ⟨j, hj⟩ x
  simp only [eq_comm (a := a)] at get
  simpa using get.symm

/-- A loop over distinct places that changes each entry and logs what the entry shows before. -/
theorem foldl_set_log {α β : Type} {n : Nat} (g : Fin n → α → α) (h : Fin n → α → List β) {l : List (Fin n)} (distinct : l.Nodup)
    (v : Vector α n) (log : List β) :
    l.foldl (fun (x : Vector α n × List β) (i : Fin n) => (x.1.set i (g i x.1[i]), x.2 ++ h i x.1[i])) (v, log) =
      (Vector.ofFn fun j => if j ∈ l then g j v[j] else v[j], log ++ l.flatMap fun i => h i v[i]) := by
  have split (l : List (Fin n)) (distinct : l.Nodup) (v : Vector α n) (log : List β) :
      l.foldl (fun (x : Vector α n × List β) (i : Fin n) => (x.1.set i (g i x.1[i]), x.2 ++ h i x.1[i])) (v, log) =
        (l.foldl (fun (v : Vector α n) (i : Fin n) => v.set i (g i v[i])) v, log ++ l.flatMap fun i => h i v[i]) := by
    induction l generalizing v log with
    | nil => simp
    | cons a l ih =>
      obtain ⟨notin, distinct⟩ := List.nodup_cons.mp distinct
      have others : (l.flatMap fun i => h i (v.set a (g a v[a]))[i]) = l.flatMap fun i => h i v[i] :=
        List.flatMap_congr fun i mem => by rw [Laws.set_get, if_neg (fun e : a = i => notin (e ▸ mem))]
      rw [List.foldl_cons, ih distinct, others, List.foldl_cons, List.flatMap_cons, List.append_assoc]
  rw [split l distinct v log]
  rw [ofFn_foldl_set g distinct]

theorem flatMap_single {α β : Type} (P : α → Prop) [DecidablePred P] (f : α → β) (l : List α) :
    (l.flatMap fun a => if P a then [f a] else []) = (l.filter fun a => decide (P a)).map f := by
  induction l with
  | nil => rfl
  | cons a l ih =>
    rw [List.flatMap_cons, ih]
    by_cases h : P a <;> simp [h]

/-! ### A coil goes out of sight (R17) -/

theorem unseen_available (r : CoilRecord) : { r with unobserved := true, confirm := 0 }.available = false := by
  simp [CoilRecord.available]

theorem loseSight_eq (s : State) (k : CoilId) :
    loseSight s k =
      { s with
        coils := s.coils.set k (unseen s.coils[k])
        posts := { s.posts with
                   triggers := s.posts.triggers ++
                     (if s.coils[k].occupancy = .member ∧ s.coils[k].available = true then [.eligibility k s.coils[k].owner] else []) } } := by
  unfold loseSight unseen
  by_cases absent : s.coils[k].occupancy = .absent
  · have free : ¬ (s.coils[k].occupancy = .member ∧ s.coils[k].available = true) := fun c => by
      rw [absent] at c
      cases c.1
    rw [if_pos absent, if_pos absent, if_neg free, List.append_nil, Laws.set_same]
  · rw [if_neg absent, if_neg absent, changeFlags_eq, unseen_available]
    simp only [ne_eq, Bool.not_eq_false]

/-- R17, R19: coils that differ go out of sight one after another. -/
theorem losses_eq {ks : List CoilId} (distinct : ks.Nodup) (s : State) :
    ks.foldl loseSight s =
      { s with
        coils := Vector.ofFn fun k => if k ∈ ks then unseen s.coils[k] else s.coils[k]
        posts := { s.posts with
                   triggers := s.posts.triggers ++
                     (ks.filter fun k => decide (s.coils[k].occupancy = .member ∧ s.coils[k].available = true)).map fun k =>
                       .eligibility k s.coils[k].owner } } := by
  let change (r : CoilRecord) (k : CoilId) : List Trigger :=
    if r.occupancy = .member ∧ r.available = true then [.eligibility k r.owner] else []
  have runs (ks : List CoilId) (s : State) (v : Vector CoilRecord 64) (log : List Trigger) (hv : s.coils = v) (hl : s.posts.triggers = log) :
      ks.foldl loseSight s =
        (fun x : Vector CoilRecord 64 × List Trigger => { s with coils := x.1, posts := { s.posts with triggers := x.2 } })
          (ks.foldl (fun (x : Vector CoilRecord 64 × List Trigger) (k : CoilId) => (x.1.set k (unseen x.1[k]), x.2 ++ change x.1[k] k)) (v, log)) := by
    induction ks generalizing s v log with
    | nil =>
      subst hv hl
      rfl
    | cons k ks ih =>
      subst hv hl
      rw [List.foldl_cons, List.foldl_cons, ih (loseSight s k) _ _ (by rw [loseSight_eq]) (by rw [loseSight_eq]), loseSight_eq]
  rw [runs ks s _ _ rfl rfl, foldl_set_log (fun _ => unseen) (fun k r => change r k) distinct, ← flatMap_single]

/-! ### Boards and legs (R17) -/

theorem loseSight_legOut (v : Vector OutSet 16) (ks : List CoilId) (s : State) :
    ks.foldl loseSight { s with legOut := v } = { ks.foldl loseSight s with legOut := v } := by
  induction ks generalizing s with
  | nil => rfl
  | cons k ks ih =>
    have one : loseSight { s with legOut := v } k = { loseSight s k with legOut := v } := by rw [loseSight_eq, loseSight_eq]
    rw [List.foldl_cons, List.foldl_cons, one, ih]

theorem losses_kept (ks : List CoilId) (s : State) : (ks.foldl loseSight s).legOut = s.legOut := by
  induction ks generalizing s with
  | nil => rfl
  | cons k ks ih => rw [List.foldl_cons, ih, loseSight_eq]

/-- The coils of a leg that is in service. -/
def lostBy (s : State) (l : LegId) : List CoilId := if outOfService s l = false then legCoils l else []

theorem legOutBy_eq (s : State) (l : LegId) {f : OutSet → OutSet} (out : ((f s.legOut[l]).board || (f s.legOut[l]).leg) = true) :
    legOutBy s l f = (lostBy s l).foldl loseSight (s.modLegOut l f) := by
  have after : outOfService (s.modLegOut l f) l = true := by
    have set : (s.modLegOut l f).legOut[l] = f s.legOut[l] := (Laws.set_get ..).trans (if_pos rfl)
    rw [outOfService, set, out]
  unfold legOutBy lostBy
  by_cases free : outOfService s l = false
  · rw [if_pos ⟨free, after⟩, if_pos free]
  · rw [if_neg fun c => free c.1, if_neg free]
    rfl

/-- R17: legs that differ go out of service one after another. -/
theorem legsOutBy_eq {f : OutSet → OutSet} (out : ∀ o, ((f o).board || (f o).leg) = true) {ls : List LegId} (distinct : ls.Nodup) (s : State) :
    ls.foldl (fun s l => legOutBy s l f) s =
      { (ls.flatMap (lostBy s)).foldl loseSight s with legOut := Vector.ofFn fun l => if l ∈ ls then f s.legOut[l] else s.legOut[l] } := by
  have sets : (Vector.ofFn fun l => if l ∈ ls then f s.legOut[l] else s.legOut[l]) =
      ls.foldl (fun (v : Vector OutSet 16) (l : LegId) => v.set l (f v[l])) s.legOut := ofFn_foldl_set (fun _ => f) distinct s.legOut
  rw [sets]
  clear sets
  induction ls generalizing s with
  | nil => rfl
  | cons a ls ih =>
    obtain ⟨notin, distinct⟩ := List.nodup_cons.mp distinct
    have one := legOutBy_eq s a (out s.legOut[a])
    have legs : (legOutBy s a f).legOut = s.legOut.set a (f s.legOut[a]) := by rw [one, losses_kept]; rfl
    have others : ls.flatMap (lostBy (legOutBy s a f)) = ls.flatMap (lostBy s) :=
      List.flatMap_congr fun l mem => by
        have same : (legOutBy s a f).legOut[l] = s.legOut[l] := by rw [legs, Laws.set_get, if_neg (fun e : a = l => notin (e ▸ mem))]
        rw [lostBy, lostBy, outOfService, outOfService, same]
    rw [List.foldl_cons, ih distinct, others, legs, one, List.foldl_cons, List.flatMap_cons, List.foldl_append, State.modLegOut,
      loseSight_legOut (s.legOut.set a (f s.legOut[a])) (lostBy s a) s, loseSight_legOut (s.legOut.set a (f s.legOut[a])) (ls.flatMap (lostBy s))]

/-- The coils of the legs that `hit` names and that are in service, ascending. -/
theorem lostCoils_eq (s : State) (hit : LegId → Bool) :
    (allLegs.filter hit).flatMap (lostBy s) = allCoils.filter fun k => hit (coilLeg k) && !outOfService s (coilLeg k) := by
  have coils : allCoils = allLegs.flatMap legCoils := by decide
  have leg : ∀ l ∈ allLegs, ∀ k ∈ legCoils l, coilLeg k = l := by decide
  have each (l : LegId) (mem : l ∈ allLegs) :
      ((legCoils l).filter fun k => hit (coilLeg k) && !outOfService s (coilLeg k)) = if hit l then lostBy s l else [] := by
    have same : ((legCoils l).filter fun k => hit (coilLeg k) && !outOfService s (coilLeg k)) =
        (legCoils l).filter fun _ => hit l && !outOfService s l :=
      List.filter_congr fun k h => by rw [leg l mem k h]
    rw [same]
    unfold lostBy
    cases hit l <;> cases outOfService s l <;> simp
  rw [coils, List.filter_flatMap, List.flatMap_congr each]
  induction allLegs with
  | nil => rfl
  | cons l ls ih =>
    rw [List.flatMap_cons, ← ih]
    cases h : hit l <;> simp [h]

theorem allCoils_nodup : allCoils.Nodup := List.nodup_finRange 64

theorem allLegs_nodup : allLegs.Nodup := List.nodup_finRange 16

/-- What a leg that goes out of service leaves of its coils and posts. -/
theorem lost_eq (s : State) (hit : LegId → Bool) :
    ((allLegs.filter hit).flatMap (lostBy s)).foldl loseSight s =
      { s with
        coils := Vector.ofFn fun k =>
          if hit (coilLeg k) = true ∧ outOfService s (coilLeg k) = false then unseen s.coils[k] else s.coils[k]
        posts := { s.posts with
                   triggers := s.posts.triggers ++
                     (allCoils.filter fun k =>
                       decide (hit (coilLeg k) = true ∧ outOfService s (coilLeg k) = false ∧ s.coils[k].occupancy = .member ∧
                         s.coils[k].available = true)).map fun k => .eligibility k s.coils[k].owner } } := by
  have member (k : CoilId) : k ∈ (allCoils.filter fun k => hit (coilLeg k) && !outOfService s (coilLeg k)) ↔
      hit (coilLeg k) = true ∧ outOfService s (coilLeg k) = false := by
    simp [allCoils]
  have logged : ((allCoils.filter fun k => hit (coilLeg k) && !outOfService s (coilLeg k)).filter fun k =>
      decide (s.coils[k].occupancy = .member ∧ s.coils[k].available = true)) =
      allCoils.filter fun k => decide (hit (coilLeg k) = true ∧ outOfService s (coilLeg k) = false ∧ s.coils[k].occupancy = .member ∧
        s.coils[k].available = true) := by
    rw [List.filter_filter]
    refine List.filter_congr fun k _ => ?_
    refine Bool.eq_iff_iff.mpr ?_
    simp only [Bool.and_eq_true, decide_eq_true_eq, Bool.not_eq_true', and_comm, and_assoc]
  rw [lostCoils_eq, losses_eq (allCoils_nodup.filter _), logged]
  simp only [member]

/-- R17: the legs that `hit` names go out of service. -/
theorem legsHit_eq {f : OutSet → OutSet} (out : ∀ o, ((f o).board || (f o).leg) = true) (hit : LegId → Bool) (s : State) :
    (allLegs.filter hit).foldl (fun s l => legOutBy s l f) s =
      { s with
        legOut := Vector.ofFn fun l => if hit l = true then f s.legOut[l] else s.legOut[l]
        coils := Vector.ofFn fun k =>
          if hit (coilLeg k) = true ∧ outOfService s (coilLeg k) = false then unseen s.coils[k] else s.coils[k]
        posts := { s.posts with
                   triggers := s.posts.triggers ++
                     (allCoils.filter fun k =>
                       decide (hit (coilLeg k) = true ∧ outOfService s (coilLeg k) = false ∧ s.coils[k].occupancy = .member ∧
                         s.coils[k].available = true)).map fun k => .eligibility k s.coils[k].owner } } := by
  have member (l : LegId) : l ∈ allLegs.filter hit ↔ hit l = true := by simp [allLegs]
  rw [legsOutBy_eq out (allLegs_nodup.filter hit), lost_eq]
  simp only [member]

theorem boardLegs_eq (b : BoardId) : boardLegs b = allLegs.filter fun l => decide (legBoard l = b) := by
  revert b
  decide

theorem oneLeg_eq (l : LegId) : [l] = allLegs.filter fun j => decide (j = l) := by
  revert l
  decide

theorem foldl_legOut (f : OutSet → OutSet) (ls : List LegId) (distinct : ls.Nodup) (s : State) :
    ls.foldl (fun s l => s.modLegOut l f) s =
      { s with legOut := Vector.ofFn fun l => if l ∈ ls then f s.legOut[l] else s.legOut[l] } := by
  have sets : (Vector.ofFn fun l => if l ∈ ls then f s.legOut[l] else s.legOut[l]) =
      ls.foldl (fun (v : Vector OutSet 16) (l : LegId) => v.set l (f v[l])) s.legOut := ofFn_foldl_set (fun _ => f) distinct s.legOut
  rw [sets]
  clear sets distinct
  induction ls generalizing s with
  | nil => rfl
  | cons l ls ih => exact ih (s.modLegOut l f)

/-! ### Hot and cool (R16) -/

theorem hot_available (r : CoilRecord) (hot : Bool) :
    r.available ≠ CoilRecord.available { r with hot := hot } ↔ r.hot ≠ hot ∧ r.disabled = false ∧ r.unobserved = false := by
  obtain ⟨occupancy, owner, coverage, range, confirm, material, was, disabled, unobserved, temp, fireMet⟩ := r
  cases was <;> cases hot <;> cases disabled <;> cases unobserved <;> simp [CoilRecord.available]

theorem claimHot_known {s : State} {k : CoilId} (known : s.coils[k].occupancy ≠ .absent) (hot : Bool) :
    claimHot s k hot =
      { s with
        coils := s.coils.set k { s.coils[k] with hot := hot }
        posts := { s.posts with
                   triggers := s.posts.triggers ++
                     (if s.coils[k].occupancy = .member ∧ s.coils[k].hot ≠ hot ∧ s.coils[k].disabled = false ∧
                          s.coils[k].unobserved = false then
                        [.eligibility k s.coils[k].owner] else []) } } := by
  rw [claimHot, if_neg known, changeFlags_eq]
  simp only [hot_available]

/-- Settles O53: the coils of the legs that go out of service, and their eligibility changes, in ascending order; hot and cool by the
occupancy. -/
theorem claimsSetAvailabilityFlags : Obligations.ClaimsSetAvailabilityFlags := by
  refine ⟨fun s settled => ?_, fun s k rest settled => ?_⟩
  · intro lose changes
    refine ⟨fun b failed first => ?_, fun b first => ?_, fun l rest head => ?_, fun l rest head => ?_⟩ <;> rw [exec_settled settled]
    · have taken : action (.coilBoardOut b) s = coilsBoardOut (popCmBoard s b) b := by
        change (match firstOf b s.posts.cmBoards with | some (.out _) => _ | _ => s) = _
        rw [first]
      rw [taken, coilsBoardOut, boardLegs_eq, legsHit_eq (by simp)]
      have legs : (Vector.ofFn fun l => if decide (legBoard l = b) = true then { (popCmBoard s b).legOut[l] with board := true }
          else (popCmBoard s b).legOut[l]) =
          Vector.ofFn fun l => if legBoard l = b then { s.legOut[l] with board := true } else s.legOut[l] :=
        congrArg Vector.ofFn (funext fun l => by simp only [decide_eq_true_eq]; rfl)
      rw [legs]
      rfl
    · have taken : action (.coilBoardIn b) s = coilsBoardIn (popCmBoard s b) b := by
        change (match firstOf b s.posts.cmBoards with | some .into => _ | _ => s) = _
        rw [first]
      have back := foldl_legOut (fun o => { o with board := false }) (boardLegs b) (boardLegs_eq b ▸ allLegs_nodup.filter _) (popCmBoard s b)
      have member (l : LegId) : l ∈ boardLegs b ↔ legBoard l = b := by simp [boardLegs_eq, allLegs]
      rw [taken, coilsBoardIn, back]
      simp only [member]
      rfl
    · have taken : action .coilLegOut s = coilsLegOut { s with posts := { s.posts with cmClaims := rest } } l := by
        change (match s.posts.cmClaims with | .legOut l :: _ => coilsLegOut (popClaim s) l | _ => s) = _
        rw [popClaim, State.modPosts, head]
        rfl
      have one (u : State) : coilsLegOut u l = [l].foldl (fun s l => legOutBy s l fun o => { o with leg := true }) u := rfl
      have set : (Vector.ofFn fun j => if decide (j = l) = true then { s.legOut[j] with leg := true } else s.legOut[j]) =
          s.legOut.set l { s.legOut[l] with leg := true } := by
        rw [← ofFn_set]
        refine congrArg Vector.ofFn (funext fun j => ?_)
        by_cases h : j = l
        · subst h
          simp
        · simp [h]
      rw [taken, one, oneLeg_eq, legsHit_eq (by simp), ← set]
      rfl
    · change Host.Outcome.next (match s.posts.cmClaims with | .legIn l :: _ => coilsLegIn (popClaim s) l | _ => s) = _
      rw [popClaim, State.modPosts, head]
      rfl
  · intro u set
    have known (hot : Bool) (present : s.coils[k].occupancy ≠ .absent) : claimHot u k hot = set hot := claimHot_known (s := u) present hot
    refine ⟨fun head => ?_, fun head => ?_⟩
    · have taken : action .hotClaim s = claimHot u k true := by
        change (match s.posts.cmClaims with | .hot k :: _ => claimHot (popClaim s) k true | _ => s) = _
        rw [popClaim, State.modPosts, head]
        rfl
      rw [exec_settled settled, taken]
      exact ⟨fun absent => congrArg _ (if_pos absent), fun present => congrArg _ (known true present)⟩
    · have taken : action .coolClaim s = claimHot u k false := by
        change (match s.posts.cmClaims with | .cool k :: _ => claimHot (popClaim s) k false | _ => s) = _
        rw [popClaim, State.modPosts, head]
        rfl
      rw [exec_settled settled, taken]
      exact ⟨fun absent => congrArg _ (if_pos absent), fun present => congrArg _ (known false present)⟩

end Sys2Proof.Machine
end

section
/-! Legs: cooldowns, retry windows, boards out and in (R131 to R133, R141). -/

namespace Sys2Proof.Machine

-- The default arguments `by decide` wait for the kernel: one declaration after the other holds few threads.
set_option Elab.async false

/-! ### The events that leave and enter READY (R126) -/

/-- R126: a leg that is READY or TRIPPED as its board goes. -/
def goneLeg (r : LegRecord) : LegRecord :=
  if r.state = .ready ∨ r.state = .tripped then { r with state := .offline, cooldown := none, overshoot := false } else r

/-- R133: an OFFLINE leg as its board comes. -/
def backLeg (r : LegRecord) : LegRecord := if r.state = .offline then { r with state := .ready } else r

/-- The legs of a loop change as `g` says, and those in the state `from` are claimed and posted. -/
def legsChanged (s : State) (ls : List LegId) (g : LegRecord → LegRecord) (was : LegState) (claim : LegId → CoilClaim) : State :=
  { s with
    pu := { s.pu with legs := Vector.ofFn fun l => if l ∈ ls then g s.pu.legs[l] else s.pu.legs[l] }
    posts := { s.posts with
               cmClaims := s.posts.cmClaims ++ (ls.filter fun l => decide (s.pu.legs[l].state = was)).map claim
               triggers := s.posts.triggers ++ (ls.filter fun l => decide (s.pu.legs[l].state = was)).map .legState } }

/-- A loop over distinct legs, each changed and posted alone. -/
theorem foldl_legs {F : State → LegId → State} {g : LegRecord → LegRecord} {was : LegState} {claim : LegId → CoilClaim}
    (each : ∀ s l, F s l =
      { s with
        pu := { s.pu with legs := s.pu.legs.set l (g s.pu.legs[l]) }
        posts := { s.posts with
                   cmClaims := s.posts.cmClaims ++ (if s.pu.legs[l].state = was then [l] else []).map claim
                   triggers := s.posts.triggers ++ (if s.pu.legs[l].state = was then [l] else []).map .legState } })
    {ls : List LegId} (distinct : ls.Nodup) (s : State) : ls.foldl F s = legsChanged s ls g was claim := by
  let put (s : State) (x : Vector LegRecord 16 × List LegId) : State :=
    { s with
      pu := { s.pu with legs := x.1 }
      posts := { s.posts with cmClaims := s.posts.cmClaims ++ x.2.map claim, triggers := s.posts.triggers ++ x.2.map .legState } }
  have runs (ls : List LegId) (v : Vector LegRecord 16) (log : List LegId) :
      ls.foldl F (put s (v, log)) =
        put s (ls.foldl (fun (x : Vector LegRecord 16 × List LegId) (l : LegId) =>
          (x.1.set l (g x.1[l]), x.2 ++ if x.1[l].state = was then [l] else [])) (v, log)) := by
    induction ls generalizing v log with
    | nil => rfl
    | cons l ls ih =>
      have one : F (put s (v, log)) l = put s (v.set l (g v[l]), log ++ if v[l].state = was then [l] else []) := by
        rw [each]
        simp only [put, List.map_append, List.append_assoc]
      rw [List.foldl_cons, one, ih, List.foldl_cons]
  have start : put s (s.pu.legs, []) = s := by simp only [put, List.map_nil, List.append_nil]
  have single : (ls.flatMap fun l => if s.pu.legs[l].state = was then [l] else []) = ls.filter fun l => decide (s.pu.legs[l].state = was) :=
    (flatMap_single (fun l : LegId => s.pu.legs[l].state = was) id ls).trans (List.map_id _)
  have whole := runs ls s.pu.legs []
  rw [start, foldl_set_log (fun _ => g) (fun l r => if r.state = was then [l] else []) distinct,
    single, List.nil_append] at whole
  exact whole

theorem legBoardOut_eq (s : State) (l : LegId) :
    legBoardOut s l =
      { s with
        pu := { s.pu with legs := s.pu.legs.set l (goneLeg s.pu.legs[l]) }
        posts := { s.posts with
                   cmClaims := s.posts.cmClaims ++ (if s.pu.legs[l].state = .ready then [l] else []).map .legOut
                   triggers := s.posts.triggers ++ (if s.pu.legs[l].state = .ready then [l] else []).map .legState } } := by
  unfold legBoardOut changeLeg goneLeg
  cases state : s.pu.legs[l].state <;> simp [postTrigger, postCoilClaim, State.modPosts, State.modLeg]

theorem legBoardIn_eq (s : State) (l : LegId) :
    legBoardIn s l =
      { s with
        pu := { s.pu with legs := s.pu.legs.set l (backLeg s.pu.legs[l]) }
        posts := { s.posts with
                   cmClaims := s.posts.cmClaims ++ (if s.pu.legs[l].state = .offline then [l] else []).map .legIn
                   triggers := s.posts.triggers ++ (if s.pu.legs[l].state = .offline then [l] else []).map .legState } } := by
  unfold legBoardIn changeLeg backLeg
  cases state : s.pu.legs[l].state <;> simp [postTrigger, postCoilClaim, State.modPosts, State.modLeg]

/-- The legs of a board change, as the statements put it. -/
theorem boardLegsChanged (s : State) (b : BoardId) {g : LegRecord → LegRecord} {P : LegState → Prop} [DecidablePred P]
    {change : LegRecord → LegRecord} (changes : ∀ r, g r = if P r.state then change r else r) (was : LegState) (claim : LegId → CoilClaim) :
    legsChanged s (boardLegs b) g was claim =
      { s with
        pu := { s.pu with
                legs := Vector.ofFn fun l => if legBoard l = b ∧ P s.pu.legs[l].state then change s.pu.legs[l] else s.pu.legs[l] }
        posts := { s.posts with
                   cmClaims := s.posts.cmClaims ++
                     (allLegs.filter fun l => decide (legBoard l = b ∧ s.pu.legs[l].state = was)).map claim
                   triggers := s.posts.triggers ++
                     (allLegs.filter fun l => decide (legBoard l = b ∧ s.pu.legs[l].state = was)).map .legState } } := by
  have member (l : LegId) : l ∈ boardLegs b ↔ legBoard l = b := by simp [boardLegs_eq, allLegs]
  have logged : ((boardLegs b).filter fun l => decide (s.pu.legs[l].state = was)) =
      allLegs.filter fun l => decide (legBoard l = b ∧ s.pu.legs[l].state = was) := by
    rw [boardLegs_eq, List.filter_filter]
    exact List.filter_congr fun l _ => by rw [Bool.and_comm, ← Bool.decide_and]
  have legs : (Vector.ofFn fun l => if l ∈ boardLegs b then g s.pu.legs[l] else s.pu.legs[l]) =
      Vector.ofFn fun l => if legBoard l = b ∧ P s.pu.legs[l].state then change s.pu.legs[l] else s.pu.legs[l] := by
    refine congrArg Vector.ofFn (funext fun l => ?_)
    rw [changes, ite_and]
    simp only [member]
  rw [legsChanged, logged, legs]

theorem legsOut_eq (s : State) (b : BoardId) : legsOut s b = legsChanged s (boardLegs b) goneLeg .ready .legOut :=
  foldl_legs legBoardOut_eq (boardLegs_eq b ▸ allLegs_nodup.filter _) s

theorem legsIn_eq (s : State) (b : BoardId) : legsIn s b = legsChanged s (boardLegs b) backLeg .offline .legIn :=
  foldl_legs legBoardIn_eq (boardLegs_eq b ▸ allLegs_nodup.filter _) s

/-! ### Frame ends (R131, R132) -/

theorem coolTick_eq (r : LegRecord) :
    coolTick r = { r with cooldown := if r.state = .tripped then r.cooldown.map (· - 1) else r.cooldown } := by
  unfold coolTick
  split
  · rfl
  · rfl

theorem protectFrameEnd_of {s t : State} (ticked : { s with pu := { s.pu with legs := Vector.ofFn fun l => coolTick s.pu.legs[l] } } = t)
    (frame : BitVec 16) :
    protectFrameEnd s frame =
      t.modPu fun pu =>
        { pu with cooldownDue := allLegs.filter (cooldownOver t), windowDue := allLegs.filter (windowCloses t frame) } := by
  subst ticked
  rfl

theorem protectFrameEnd_eq (s : State) (frame : BitVec 16) :
    let left (l : LegId) : Option Nat :=
      if s.pu.legs[l].state = .tripped then s.pu.legs[l].cooldown.map (· - 1) else s.pu.legs[l].cooldown
    protectFrameEnd s frame =
      { s with
        pu := { s.pu with
                legs := Vector.ofFn fun l => { s.pu.legs[l] with cooldown := left l }
                cooldownDue := allLegs.filter fun l => decide (s.pu.legs[l].state = .tripped ∧ left l = some 0)
                windowDue := allLegs.filter fun l =>
                  match s.pu.legs[l].windowStart with
                  | none => false
                  | some w => decide (s.ts.work.retryWindow - 1 ≤ (frame - w).toNat) } } := by
  intro left
  have cooled : (Vector.ofFn fun l => coolTick s.pu.legs[l]) = Vector.ofFn fun l : LegId => { s.pu.legs[l] with cooldown := left l } :=
    congrArg Vector.ofFn (funext fun l => coolTick_eq _)
  let t : State := { s with pu := { s.pu with legs := Vector.ofFn fun l => { s.pu.legs[l] with cooldown := left l } } }
  have at_leg (l : LegId) : t.pu.legs[l] = { s.pu.legs[l] with cooldown := left l } := Vector.getElem_ofFn ..
  have cooldowns : cooldownOver t = fun l => decide (s.pu.legs[l].state = .tripped ∧ left l = some 0) := funext fun l => by
    unfold cooldownOver
    rw [at_leg]
    refine Bool.eq_iff_iff.mpr ?_
    simp
  have windows : windowCloses t frame = fun l =>
      match s.pu.legs[l].windowStart with
      | none => false
      | some w => decide (s.ts.work.retryWindow - 1 ≤ (frame - w).toNat) := funext fun l => by
    unfold windowCloses
    rw [at_leg] <;> rfl
  have ticked : { s with pu := { s.pu with legs := Vector.ofFn fun l => coolTick s.pu.legs[l] } } = t := by rw [cooled]
  rw [protectFrameEnd_of ticked, cooldowns, windows]
  rfl

theorem expireCooldown_over {s : State} {l : LegId} {rest : List LegId} (due : s.pu.cooldownDue = l :: rest)
    (tripped : s.pu.legs[l].state = .tripped) (cooled : s.pu.legs[l].cooldown = some 0) :
    expireCooldown s =
      { s with
        pu := { s.pu with
                cooldownDue := rest, legs := s.pu.legs.set l { s.pu.legs[l] with state := .ready, cooldown := none } }
        posts := { s.posts with
                   cmClaims := s.posts.cmClaims ++ [.legIn l], triggers := s.posts.triggers ++ [.legState l] } } := by
  have over_ : cooldownOver s l = true := by
    rw [cooldownOver, tripped, cooled]
    rfl
  rw [expireCooldown, due]
  dsimp only
  rw [if_pos over_]
  unfold changeLeg
  simp [-Fin.getElem_fin, State.modPu, State.modLeg, tripped, postTrigger, postCoilClaim, State.modPosts]

theorem expireWindow_over {s : State} {l : LegId} {rest : List LegId} (due : s.pu.windowDue = l :: rest) :
    expireWindow s = { s with pu := { s.pu with windowDue := rest, legs := s.pu.legs.set l (closeWindow s.pu.legs[l]) } } := by
  rw [expireWindow, due]
  rfl

/-- Settles O52: the frame end leg by leg, the two tails at their heads, and the four legs of a board. -/
theorem legsLeaveAndReturn : Obligations.LegsLeaveAndReturn := by
  refine ⟨⟨fun s settled none => ?_, fun s frame rest settled ready waits => ?_, fun s l rest on due tripped cooled => ?_,
    fun s l rest on due => ?_⟩, fun s b settled => ?_⟩
  · rw [exec_settled settled]
    change Host.Outcome.next (if s.sup.hub = .supplyLow then s else match s.posts.puFrameEnds with | [] => s | frame :: rest => _) = _
    rcases none with none | low
    · rw [none, ite_self]
    · rw [if_pos low]
  · have taken : action .protectionFrameEnd s = protectFrameEnd { s with posts := { s.posts with puFrameEnds := rest } } frame := by
      change (if s.sup.hub = .supplyLow then s else match s.posts.puFrameEnds with | [] => s | frame :: rest => _) = _
      rw [if_neg ready, waits]
      rfl
    rw [exec_settled settled, taken, protectFrameEnd_eq] <;> rfl
  · have taken : exec .cooldownExpiry s = .next (expireCooldown s) := congrArg _ (if_neg on)
    rw [taken, expireCooldown_over due tripped cooled]
  · have taken : exec .retryWindowClose s = .next (expireWindow s) := congrArg _ (if_neg on)
    rw [taken, expireWindow_over due]
    rfl
  · intro popped were outs
    have gone : legsOut (popPuBoard s b) b = outs := by
      rw [legsOut_eq, boardLegsChanged (g := goneLeg) (P := fun state => state = .ready ∨ state = .tripped) _ b (fun r => rfl)]
      rfl
    refine ⟨fun failed first => ?_, fun first => ?_, fun first => ?_⟩ <;> rw [exec_settled settled]
    · have taken : action (.protectionBoardOut b) s = protectBoardOut (popPuBoard s b) b failed := by
        change (match firstOf b s.posts.puBoards with | some (.out failed) => _ | _ => s) = _
        rw [first]
      rw [taken, protectBoardOut, gone]
    · have taken : action (.boardRemoval b) s = legsOut (popPuBoard s b) b := by
        change (match firstOf b s.posts.puBoards with | some .removal => _ | _ => s) = _
        rw [first]
      rw [taken, gone]
    · have taken : action (.protectionBoardIn b) s = legsIn (popPuBoard s b) b := by
        change (match firstOf b s.posts.puBoards with | some .into => _ | _ => s) = _
        rw [first]
      rw [taken, legsIn_eq, boardLegsChanged (g := backLeg) (P := fun state => state = .offline) _ b (fun r => rfl)]
      rfl

end Sys2Proof.Machine
end

section
/-! Heat cells: how a context and the request order list change with one heat change (R51 to R56, R71). -/

namespace Sys2Proof.Machine

-- The default arguments `by decide` wait for the kernel: one declaration after the other holds few threads.
set_option Elab.async false

/-! ### One heat change (R52, R71) -/

/-- A context and the list are set, without the heat change. -/
def contextSet (s : State) (p : PanSlot) (heat : HeatPart) (requests : List PanSlot) : State :=
  { s with pans := s.pans.set p { s.pans[p] with heat := heat }, hs := { s.hs with requests := requests } }

theorem contextsChanged_one {before after : State} {p : PanSlot} (others : ∀ q : PanSlot, p ≠ q → after.pans[q].heat = before.pans[q].heat) :
    contextsChanged before after = [] ↔ contextView before p = contextView after p := by
  simp only [contextsChanged, List.filter_eq_nil_iff, allPans, List.mem_finRange, forall_const, bne_iff_ne, ne_eq, not_not]
  refine ⟨fun h => h p, fun h q => ?_⟩
  by_cases e : p = q
  · exact e ▸ h
  · rw [contextView, contextView, others q e]

theorem contextsChanged_same {before after : State} (h : after.pans = before.pans) : contextsChanged before after = [] :=
  (contextsChanged_one (p := 0) fun q _ => by rw [h]).mpr (by rw [contextView, contextView, h])

/-- R71: an event that leaves the contexts and the list posts nothing. -/
theorem postHeatChange_same {before after : State} (pans : after.pans = before.pans) (hs : after.hs = before.hs) (p : PanSlot) :
    postHeatChange before after p = after := if_pos ⟨contextsChanged_same pans, by rw [hs]⟩

theorem contextSet_get (s : State) (p : PanSlot) (heat : HeatPart) (requests : List PanSlot) (q : PanSlot) :
    (contextSet s p heat requests).pans[q] = if p = q then { s.pans[p] with heat := heat } else s.pans[q] := Laws.set_get ..

/-- R71: an event about one pan posts its heat change. -/
theorem postHeatChange_set (s : State) (p : PanSlot) (heat : HeatPart) (requests : List PanSlot) :
    postHeatChange s (contextSet s p heat requests) p = heatSet s p heat requests := by
  have others (q : PanSlot) (ne : p ≠ q) : (contextSet s p heat requests).pans[q].heat = s.pans[q].heat := by
    rw [contextSet_get, if_neg ne]
  have view : contextView (contextSet s p heat requests) p = (heat.state, heat.level, heat.position) := by
    rw [contextView, contextSet_get, if_pos rfl]
  have same : (contextsChanged s (contextSet s p heat requests) = [] ∧ s.hs.requests = (contextSet s p heat requests).hs.requests) ↔
      (heat.state = s.pans[p].heat.state ∧ heat.level = s.pans[p].heat.level ∧ heat.position = s.pans[p].heat.position ∧
        requests = s.hs.requests) := by
    have list : (contextSet s p heat requests).hs.requests = requests := rfl
    rw [contextsChanged_one others, view, contextView, list]
    simp only [Prod.mk.injEq, and_assoc, eq_comm]
  unfold postHeatChange heatSet
  by_cases c : heat.state = s.pans[p].heat.state ∧ heat.level = s.pans[p].heat.level ∧ heat.position = s.pans[p].heat.position ∧
      requests = s.hs.requests
  · rw [if_pos (same.mpr c), if_pos c, List.append_nil]
    rfl
  · rw [if_neg fun h => c (same.mp h), if_neg c]
    rfl

/-- R71: the heat change of an event that also tells of a refusal. -/
theorem postHeatChange_notice (before after : State) (kind : NoticeKind) (subject : Byte) (first second : Nat) (p : PanSlot) :
    postHeatChange before (queueNotice after kind subject first second) p =
      queueNotice (postHeatChange before after p) kind subject first second := by
  have changed : contextsChanged before (queueNotice after kind subject first second) = contextsChanged before after := by
    simp only [contextsChanged, contextView, queueNotice_keeps]
  have requests : (queueNotice after kind subject first second).hs = after.hs := by simp only [queueNotice_keeps]
  have posted (e : Trigger) : postTrigger (queueNotice after kind subject first second) e = queueNotice (postTrigger after e) kind subject first second := by
    have posts : (queueNotice after kind subject first second).posts = after.posts := by simp only [queueNotice_keeps]
    have apart := queueNotice_apart after after.pu { after.posts with triggers := after.posts.triggers ++ [e] } kind subject first second
    have pu : (queueNotice after kind subject first second).pu = after.pu := by simp only [queueNotice_keeps]
    rw [postTrigger, State.modPosts, posts]
    refine Eq.trans ?_ apart.symm
    rw [← pu]
  unfold postHeatChange
  rw [changed, requests, posted]
  split <;> rfl

/-! ### The changes of a context (R51, R52) -/

theorem toIdle_eq (s : State) (p : PanSlot) : toIdle s p = contextSet s p .idle (s.hs.requests.filter (· ≠ p)) := rfl

theorem hold_eq (s : State) (p : PanSlot) (state : HeatState) :
    hold s p state =
      contextSet s p { s.pans[p].heat with state := state, prior := some (modeLeft s.pans[p].heat) } (s.hs.requests.filter (· ≠ p)) := by
  have prior : priorOf s.pans[p].heat.state = modeLeft s.pans[p].heat := by
    unfold modeLeft
    cases s.pans[p].heat.state <;> rfl
  rw [← prior]
  rfl

theorem resumeContext_eq (s : State) (p : PanSlot) :
    resumeContext s p = contextSet s p (modeTaken s.pans[p].heat) (p :: s.hs.requests.filter (· ≠ p)) := rfl

theorem handleOf_masked (s : State) (p : PanSlot) : s.handleOf p &&& 0x7F#8 = s.handleOf p := by
  have masked : ∀ (p : PanSlot) (g : BitVec 4), handleByte p g &&& 0x7F#8 = handleByte p g := by decide
  exact masked ..

/-- R66, R68: a context that a refusal for an unsuitable pan makes IDLE. -/
theorem unsuitableContext (s : State) (p : PanSlot) (level : Nat) :
    postHeatChange s (refuseHeat (toIdle s p) (s.handleOf p) .unsuitable level) p =
      queueNotice (heatSet s p .idle (s.hs.requests.filter (· ≠ p))) .heatRefused (s.handleOf p) 6 level := by
  rw [refuseHeat, postHeatChange_notice, toIdle_eq, postHeatChange_set, handleOf_masked]
  rfl

/-! ### A heat cell (R53 to R56) -/

theorem refused_same (s : State) (handle : Byte) (reason : HeatReason) (level : Nat) (p : PanSlot) :
    postHeatChange s (refuseHeat s handle reason level) p = queueNotice s .heatRefused (handle &&& 0x7F#8) reason.code level :=
  postHeatChange_same (by simp only [refuseHeat, queueNotice_keeps]) (by simp only [refuseHeat, queueNotice_keeps]) p

/-- R54: an accepted SET LEVEL or one to level 0. -/
theorem setLevel_zero {s : State} {cell : HeatCell} (level : cell.level.toNat = 0) (runs : s.fe.hob = .running)
    (formed : s.pans[handleSlot cell.handle].pres.presence ≠ .forming) :
    applySetLevel s cell = toIdle s (handleSlot cell.handle) := by
  unfold applySetLevel
  dsimp only
  rw [dif_neg (by omega), if_neg (not_not_intro runs), if_neg formed]
  by_cases lifted : s.pans[handleSlot cell.handle].pres.presence = .lifted
  · rw [if_pos ⟨lifted, level⟩]
  · rw [if_neg fun c => lifted c.1, if_neg lifted, if_neg fun c => c.2 level, if_pos level]

theorem standing_not {p : Presence} (h : p.standing = true) : p ≠ .forming ∧ p ≠ .lifted := by
  cases p <;> simp [Presence.standing] at h ⊢

theorem setLevel_level {s : State} {cell : HeatCell} {l : Level} (level : l.val = cell.level.toNat) (runs : s.fe.hob = .running)
    (stands : s.pans[handleSlot cell.handle].pres.presence.standing = true) (above : 0 < cell.level.toNat)
    (suits : s.pans[handleSlot cell.handle].pres.material ≠ .unsuitable) :
    applySetLevel s cell =
      contextSet s (handleSlot cell.handle) { HeatPart.idle with state := .level, level := l }
        (handleSlot cell.handle :: s.hs.requests.filter (· ≠ handleSlot cell.handle)) := by
  obtain ⟨formed, down⟩ := standing_not stands
  have small : ¬ 16 ≤ cell.level.toNat := by omega
  have eq : l = ⟨cell.level.toNat, by omega⟩ := Fin.ext level
  unfold applySetLevel
  dsimp only
  rw [dif_neg small, if_neg (not_not_intro runs), if_neg formed, if_neg fun c => down c.1, if_neg down, if_neg fun c => suits c.1,
    if_neg (Nat.pos_iff_ne_zero.mp above), eq]
  rfl

section
variable {s : State} {cell : HeatCell}

/-- R54: the refusals of SET LEVEL in their order. -/
theorem setLevel_refused :
    (16 ≤ cell.level.toNat → applySetLevel s cell = refuseHeat s cell.handle .badLevel cell.level.toNat) ∧
    (cell.level.toNat < 16 → s.fe.hob ≠ .running → applySetLevel s cell = refuseHeat s cell.handle .hobNotRunning cell.level.toNat) ∧
    (cell.level.toNat < 16 → s.fe.hob = .running → s.pans[handleSlot cell.handle].pres.presence = .forming →
      applySetLevel s cell = refuseHeat s cell.handle .notPlaced cell.level.toNat) ∧
    (cell.level.toNat < 16 → s.fe.hob = .running → s.pans[handleSlot cell.handle].pres.presence = .lifted → 0 < cell.level.toNat →
      applySetLevel s cell = refuseHeat s cell.handle .panLifted cell.level.toNat) ∧
    (cell.level.toNat < 16 → s.fe.hob = .running → s.pans[handleSlot cell.handle].pres.presence.standing = true → 0 < cell.level.toNat →
      s.pans[handleSlot cell.handle].pres.material = .unsuitable →
      applySetLevel s cell = refuseHeat s cell.handle .unsuitable cell.level.toNat) := by
  unfold applySetLevel
  dsimp only
  refine ⟨fun big => dif_pos big, fun small still => ?_, fun small runs forming => ?_, fun small runs lifted above => ?_,
    fun small runs stands above unsuitable => ?_⟩
  · rw [dif_neg (Nat.not_le.mpr small), if_pos still]
  · rw [dif_neg (Nat.not_le.mpr small), if_neg (not_not_intro runs), if_pos forming]
  · rw [dif_neg (Nat.not_le.mpr small), if_neg (not_not_intro runs), if_neg (by rw [lifted]; nofun),
      if_neg fun c => absurd c.2 (Nat.pos_iff_ne_zero.mp above), if_pos lifted]
  · obtain ⟨formed, down⟩ := standing_not stands
    rw [dif_neg (Nat.not_le.mpr small), if_neg (not_not_intro runs), if_neg formed, if_neg fun c => down c.1, if_neg down,
      if_pos ⟨unsuitable, Nat.pos_iff_ne_zero.mp above⟩]

/-- R55: the rows of PAUSE. -/
theorem pause_rows :
    (s.pans[handleSlot cell.handle].heat.state = .level ∨ s.pans[handleSlot cell.handle].heat.state = .program →
      applyPause s cell = hold s (handleSlot cell.handle) .paused) ∧
    (s.pans[handleSlot cell.handle].heat.state = .suspended →
      applyPause s cell =
        contextSet s (handleSlot cell.handle) { s.pans[handleSlot cell.handle].heat with state := .paused } s.hs.requests) ∧
    (s.pans[handleSlot cell.handle].heat.state = .idle ∨ s.pans[handleSlot cell.handle].heat.state = .paused ∨
        s.pans[handleSlot cell.handle].heat.state = .stopped →
      applyPause s cell = refuseHeat s cell.handle .notPausable 0) := by
  unfold applyPause
  dsimp only
  refine ⟨fun h => ?_, fun h => ?_, fun h => ?_⟩
  · rcases h with h | h <;> rw [h]
  · rw [h]
    rfl
  · rcases h with h | h | h <;> rw [h]

/-- R56: the rows of RESUME. -/
theorem resume_rows :
    (s.pans[handleSlot cell.handle].heat.state ≠ .paused → applyResume s cell = refuseHeat s cell.handle .notPaused 0) ∧
    (s.pans[handleSlot cell.handle].heat.state = .paused → s.pans[handleSlot cell.handle].pres.presence = .lifted →
      applyResume s cell = refuseHeat s cell.handle .panLifted 0) ∧
    (s.pans[handleSlot cell.handle].heat.state = .paused → s.pans[handleSlot cell.handle].pres.presence ≠ .lifted →
      s.fe.hob ≠ .running → applyResume s cell = refuseHeat s cell.handle .hobNotRunning 0) ∧
    (s.pans[handleSlot cell.handle].heat.state = .paused → s.pans[handleSlot cell.handle].pres.presence ≠ .lifted →
      s.fe.hob = .running → s.pans[handleSlot cell.handle].pres.material = .unsuitable →
      applyResume s cell = refuseHeat s cell.handle .unsuitable 0) ∧
    (s.pans[handleSlot cell.handle].heat.state = .paused → s.pans[handleSlot cell.handle].pres.presence ≠ .lifted →
      s.fe.hob = .running → s.pans[handleSlot cell.handle].pres.material ≠ .unsuitable →
      applyResume s cell = resumeContext s (handleSlot cell.handle)) := by
  unfold applyResume
  dsimp only
  refine ⟨fun h => if_pos h, fun h lifted => ?_, fun h down still => ?_, fun h down runs unsuitable => ?_, fun h down runs suits => ?_⟩
  all_goals rw [if_neg (not_not_intro h)]
  · exact if_pos lifted
  all_goals rw [if_neg down]
  · exact if_pos still
  all_goals rw [if_neg (not_not_intro runs)]
  · exact if_pos unsuitable
  · exact if_neg suits

end

/-! ### The head of the queue (R53, R163) -/

theorem takeHeadCell_other {s : State} {cell : HeatCell} {rest : List HeatCell} (queue : s.cp.heatQueue = cell :: rest) {action : HeatAction}
    (other : cell.action ≠ action) : takeHeadCell s action = s := by
  have head : s.cp.heatQueue.head?.map (·.action) ≠ some action := by
    rw [queue]
    exact fun e => other (Option.some.inj e)
  exact if_neg head

theorem takeHeadCell_none {s : State} (queue : s.cp.heatQueue = []) (action : HeatAction) : takeHeadCell s action = s := by
  have head : s.cp.heatQueue.head?.map (·.action) ≠ some action := by
    rw [queue]
    nofun
  exact if_neg head

theorem takeHeadCell_head {s : State} {cell : HeatCell} {rest : List HeatCell} (queue : s.cp.heatQueue = cell :: rest) {action : HeatAction}
    (same : cell.action = action) : takeHeadCell s action = takeHeatCell (meetHalt s) action := by
  have head : s.cp.heatQueue.head?.map (·.action) = some action := by
    rw [queue]
    exact congrArg some same
  exact if_pos head

theorem takeHeatCell_head {s : State} {cell : HeatCell} {rest : List HeatCell} (queue : s.cp.heatQueue = cell :: rest) {action : HeatAction}
    (same : cell.action = action) : takeHeatCell s action = applyHeat { s with cp := { s.cp with heatQueue := rest } } cell := by
  rw [takeHeatCell, queue]
  exact if_pos same

theorem takeFirstHalt_halted {s : State} (runs : s.fe.hob = .running) : (takeFirstHalt s).fe.hob = .halted := by
  have taken (claims : List HobClaim) (c : HaltCause) : (takeHalt (s.modPosts fun q => { q with hobClaims := claims }) c).fe.hob = .halted := by
    rw [takeHalt, if_pos (by exact runs), leaveRunning_eq _ .halted .halt (by decide)]
    rfl
  unfold takeFirstHalt
  split
  · exact taken ..
  · exact taken ..

theorem finishHalt_halted {s : State} (runs : s.fe.hob = .running) : (finishHalt s).fe.hob = .halted := by
  rw [finishHalt, if_pos runs, finishCauses_running runs]
  exact takeFirstHalt_halted runs

/-- What touches neither the supply level nor a tail leaves a state settled. -/
theorem Settled.apart {s u : State} {l : List Part} (h : Settled s) (t : Touches l s u)
    (out : ∀ q ∈ [Part.pins, .graceDue, .stepLists, .dues], q ∉ l := by decide) : Settled u := by
  obtain ⟨on, graces, steps, cooldowns, windows⟩ := h
  obtain ⟨level, -⟩ := Prod.mk.inj (t.kept .pins (out _ (by decide)))
  have dues := dues_kept t (out _ (by decide))
  exact ⟨by rwa [level], Eq.trans (t.kept .graceDue (out _ (by decide))) graces, (stepDue_kept t (out _ (by decide))).trans steps,
    dues.1.trans cooldowns, dues.2.trans windows⟩

/-- Settles O37: the head of the queue, then each action's rows in the order of R54 to R56. -/
theorem heatCellsAreCarriedOut : Obligations.HeatCellsAreCarriedOut := by
  refine ⟨fun s settled queue => ?_, fun i s cell rest settled queue low runs named => ?_, fun s cell rest settled queue => ?_⟩
  · simp only [exec_settled settled]
    exact ⟨congrArg _ (takeHeadCell_none queue _), congrArg _ (takeHeadCell_none queue _), congrArg _ (takeHeadCell_none queue _)⟩
  · have halted := finishHalt_halted runs
    have same : (finishHalt s).cp.heatQueue = s.cp.heatQueue := (finishHalt_touches s).kept .heatQueue
    have kept : (finishHalt s).cp.heatQueue = cell :: rest := same.trans queue
    have after : Settled (finishHalt s) := settled.apart (finishHalt_touches s)
    have met (action : HeatAction) (same : cell.action = action) : takeHeadCell s action = takeHeadCell (finishHalt s) action := by
      rw [takeHeadCell_head queue same, takeHeadCell_head kept same, meetHalt_low low runs, meetHalt_idle (.inr (by rw [halted]; nofun))]
    refine ⟨?_, after, halted, kept⟩
    rw [exec_settled settled, exec_settled after]
    rcases named with ⟨rfl, same⟩ | ⟨rfl, same⟩ | ⟨rfl, same⟩
    · exact congrArg _ (met .setLevel same)
    · exact congrArg _ (met .pause same)
    · exact congrArg _ (met .resume same)
  · intro p r u level others refused
    have setLevel : action .setLevel s = takeHeadCell s .setLevel := rfl
    have pause : action .pause s = takeHeadCell s .pause := rfl
    have resume : action .resume s = takeHeadCell s .resume := rfl
    simp only [exec_settled settled, setLevel, pause, resume]
    refine ⟨fun other => congrArg _ (takeHeadCell_other queue other), fun other => congrArg _ (takeHeadCell_other queue other),
      fun other => congrArg _ (takeHeadCell_other queue other), fun awake => ?_⟩
    have taken {action : HeatAction} (same : cell.action = action) : takeHeadCell s action = applyHeat u cell := by
      rw [takeHeadCell_head queue same, meetHalt_idle awake, takeHeatCell_head queue same]
    have current : handleCurrent u cell.handle = handleCurrent s cell.handle := rfl
    refine ⟨fun stale => ?_, fun valid isLevel => ?_, fun valid isPause => ?_, fun valid isResume => ?_⟩
    · have refuses : applyHeat u cell = refuseHeat u cell.handle .staleHandle cell.shown := if_neg (Bool.eq_false_iff.mp (current.trans stale))
      refine ⟨fun h => ?_, fun h => ?_, fun h => ?_⟩
      · rw [taken h, refuses, HeatCell.shown, if_pos h]
        rfl
      · rw [taken h, refuses, HeatCell.shown, if_neg (by rw [h]; nofun)]
        rfl
      · rw [taken h, refuses, HeatCell.shown, if_neg (by rw [h]; nofun)]
        rfl
    · have judged : applyHeat u cell = postHeatChange u (applySetLevel u cell) p := by
        rw [applyHeat, if_pos (current.trans valid), isLevel]
      rw [taken isLevel, judged]
      obtain ⟨big, still, forming, lifted, unsuitable⟩ := setLevel_refused (s := u) (cell := cell)
      refine ⟨fun h => ?_, fun h g => ?_, fun h g k => ?_, fun g k h => ?_, fun h g k a => ?_, fun h g k a b => ?_, fun l h g k a b => ?_⟩
      · rw [big h, refused_same]
        rfl
      · rw [still h g, refused_same]
        rfl
      · rw [forming h g k, refused_same]
        rfl
      · rw [setLevel_zero (s := u) h g k, toIdle_eq, postHeatChange_set]
      · rw [lifted h g k a, refused_same]
        rfl
      · rw [unsuitable h g k a b, refused_same]
        rfl
      · rw [setLevel_level (s := u) h g k a b, postHeatChange_set]
    · have judged : applyHeat u cell = postHeatChange u (applyPause u cell) p := by
        rw [applyHeat, if_pos (current.trans valid), isPause]
      rw [taken isPause, judged]
      obtain ⟨heats, suspended, held⟩ := pause_rows (s := u) (cell := cell)
      refine ⟨fun h => ?_, fun h => ?_, fun h => ?_⟩
      · rw [heats h, hold_eq, postHeatChange_set]
      · rw [suspended h, postHeatChange_set]
      · rw [held h, refused_same]
        rfl
    · have judged : applyHeat u cell = postHeatChange u (applyResume u cell) p := by
        rw [applyHeat, if_pos (current.trans valid), isResume]
      rw [taken isResume, judged]
      obtain ⟨other, lifted, still, unsuitable, resumes⟩ := resume_rows (s := u) (cell := cell)
      refine ⟨fun h => ?_, fun h k => ?_, fun h k g => ?_, fun h k g a => ?_, fun h k g a => ?_⟩
      · rw [other h, refused_same]
        rfl
      · rw [lifted h k, refused_same]
        rfl
      · rw [still h k g, refused_same]
        rfl
      · rw [unsuitable h k g a, refused_same]
        rfl
      · rw [resumes h k g a, resumeContext_eq, postHeatChange_set]

end Sys2Proof.Machine
end

section
/-! The posts of the Pan Tracker and the Frame Engine to the Heat Sequencer (R65 to R71). -/

namespace Sys2Proof.Machine

-- The default arguments `by decide` wait for the kernel: one declaration after the other holds few threads.
set_option Elab.async false

theorem popPan_eq {s : State} {e : PanPost} {rest : List PanPost} (waits : s.posts.pans = e :: rest) :
    popPan s = { s with posts := { s.posts with pans := rest } } := by
  rw [popPan, State.modPosts, waits]
  rfl

/-- A post of the Pan Tracker at the head of its channel is taken there. -/
theorem action_panPost {i : Instr} {s : State} {e : PanPost}
    (named : match e with
      | .lift _ => i = .heatLift
      | .back _ => i = .heatReturn
      | .retirement _ => i = .heatRetirement
      | .material _ _ => i = .heatMaterialChange)
    {rest : List PanPost} (waits : s.posts.pans = e :: rest) :
    action i s = takePanPost { s with posts := { s.posts with pans := rest } } e := by
  have popped := popPan_eq waits
  cases e <;> subst named
  · change (match s.posts.pans with | .lift p :: _ => heatLifted (popPan s) p | _ => s) = _
    rw [popped, waits]
    rfl
  · change (match s.posts.pans with | .back p :: _ => heatReturned (popPan s) p | _ => s) = _
    rw [popped, waits]
    rfl
  · change (match s.posts.pans with | .retirement p :: _ => heatRetired (popPan s) p | _ => s) = _
    rw [popped, waits]
    rfl
  · change (match s.posts.pans with | .material p m :: _ => heatMaterial (popPan s) p m | _ => s) = _
    rw [popped, waits]
    rfl

/-! ### Halts, stops and starts (R69, R70) -/

theorem changeContexts_get (s : State) (f : HeatPart → HeatPart) (clear : Bool) (p : PanSlot) :
    (changeContexts s f clear).pans[p] = { s.pans[p] with heat := f s.pans[p].heat } := by
  have pans : (changeContexts s f clear).pans = Vector.ofFn fun p : PanSlot => { s.pans[p] with heat := f s.pans[p].heat } := rfl
  rw [pans]
  exact Vector.getElem_ofFn ..

/-- R71: an event that changes every context posts one heat change naming those that moved. -/
theorem postHeatChanges_set (s : State) (f : HeatPart → HeatPart) (clear : Bool) :
    postHeatChanges s (changeContexts s f clear) = contextsSet s f (if clear then [] else s.hs.requests) := by
  have moved : contextsChanged s (changeContexts s f clear) = contextsMoved s f := by
    refine List.filter_congr fun p _ => ?_
    rw [contextView, contextView, changeContexts_get]
    refine Bool.eq_iff_iff.mpr ?_
    simp only [bne_iff_ne, ne_eq, Bool.not_eq_true', decide_eq_false_iff_not, Prod.mk.injEq]
    exact not_congr ⟨fun ⟨a, b, c⟩ => ⟨a.symm, b.symm, c.symm⟩, fun ⟨a, b, c⟩ => ⟨a.symm, b.symm, c.symm⟩⟩
  have requests : s.hs.requests = (changeContexts s f clear).hs.requests ↔ (if clear then [] else s.hs.requests) = s.hs.requests := eq_comm
  unfold postHeatChanges contextsSet
  rw [moved]
  by_cases same : contextsMoved s f = [] ∧ (if clear then [] else s.hs.requests) = s.hs.requests
  · rw [if_pos ⟨same.1, requests.mpr same.2⟩, if_pos same, List.append_nil]
    rfl
  · rw [if_neg fun c => same ⟨c.1, requests.mp c.2⟩, if_neg same]
    rfl

/-- Settles O38: each post at the head of its channel by the rows of its rule; the loop over the waiting posts head first. -/
theorem postsChangeContexts : Obligations.PostsChangeContexts := by
  refine ⟨fun s p rest settled => ?_, fun s rest settled => ?_, fun s => finishPans_nil, fun i s u e rest settled waits named taken => ?_⟩
  · intro r u others unsuitable
    have refuses : postHeatChange u (refuseHeat (toIdle u p) (u.handleOf p) .unsuitable r.heat.level) p = unsuitable := unsuitableContext u p _
    have heats (h : r.heat.state = .level ∨ r.heat.state = .program) : u.pans[p].heat.state.heating = true := (heating_iff _).mpr h
    refine ⟨fun waits => ?_, fun waits => ?_, fun waits => ?_, fun m waits => ?_⟩
    · rw [exec_settled settled, action_panPost (i := .heatLift) rfl waits]
      refine ⟨fun h => congrArg _ ?_, fun h g => congrArg _ (if_neg fun c => ?_)⟩
      · exact (if_pos (heats h)).trans ((congrArg (postHeatChange u · p) (hold_eq u p .suspended)).trans (postHeatChange_set ..))
      · exact ((heating_iff _).mp c).elim h g
    · rw [exec_settled settled, action_panPost (i := .heatReturn) rfl waits]
      refine ⟨fun h suits => congrArg _ ?_, fun h unsuits => congrArg _ ?_, fun h => congrArg _ (if_neg h)⟩
      · exact (if_pos h).trans ((if_neg suits).trans (postHeatChange_set u p _ _))
      · exact (if_pos h).trans ((if_pos unsuits).trans refuses)
    · rw [exec_settled settled, action_panPost (i := .heatRetirement) rfl waits]
      exact congrArg _ (heatRetired_eq u p)
    · rw [exec_settled settled, action_panPost (i := .heatMaterialChange) rfl waits]
      refine ⟨fun h worst => congrArg _ ((if_pos ⟨heats h, worst⟩).trans refuses), fun h => congrArg _ (if_neg fun c => ?_)⟩
      rcases h with ⟨noLevel, noProgram⟩ | other
      · exact ((heating_iff _).mp c.1).elim noLevel noProgram
      · exact other c.2
  · intro u
    have taken {i : Instr} {e : HobPost} (waits : s.posts.hob = e :: rest)
        (named : (i = .heatHobHalt ∧ e = .halt) ∨ (i = .heatStopHob ∧ e = .stop) ∨ (i = .heatStartHob ∧ e = .start)) :
        action i s = takeHobPost u e := by
      obtain ⟨e', rest', waits', taken⟩ := heatHob_taken (i := i) (s := s) (by simpa [waits] using named)
      rw [waits] at waits'
      cases waits'
      exact taken
    refine ⟨fun waits => ?_, fun waits => ?_, fun waits => ?_⟩ <;> rw [exec_settled settled]
    · exact congrArg _ ((taken waits (by simp)).trans (postHeatChanges_set u haltHeat true))
    · exact congrArg _ ((taken waits (by simp)).trans (postHeatChanges_set u stopHeat true))
    · exact congrArg _ ((taken waits (by simp)).trans (postHeatChanges_set u startHeat false))
  · rw [exec_settled settled, action_panPost named waits] at taken
    cases taken
    exact finishPans_cons waits

end Sys2Proof.Machine
end

section
/-! Step timers (R62, R63, R71). -/

namespace Sys2Proof.Machine

-- The default arguments `by decide` wait for the kernel: one declaration after the other holds few threads.
set_option Elab.async false

theorem stepCounts_eq (s : State) (p : PanSlot) :
    stepCounts s p =
      decide (s.pans[p].heat.state = .program ∧ s.pans[p].heat.timed = true ∧
        (s.pans[p].pres.presence = .placed ∨ s.pans[p].pres.presence = .moving) ∧ s.fe.hob = .running ∧ s.fe.lock = .locked) := by
  refine Bool.eq_iff_iff.mpr ?_
  simp only [stepCounts, Bool.and_eq_true, beq_iff_eq, standing_iff, decide_eq_true_eq, and_assoc]

/-- R62: what a one-second event leaves; the steps that reach 0 are its tail. -/
theorem stepTick_eq (s : State) :
    stepTick s =
      { s with
        pans := Vector.ofFn fun p =>
          if stepCounts s p then
            { s.pans[p] with heat := { s.pans[p].heat with remaining := s.pans[p].heat.remaining - 1 } } else s.pans[p]
        hs := { s.hs with stepDue := allPans.filter fun p => stepCounts s p && decide (s.pans[p].heat.remaining ≤ 1) } } := by
  let t : State := s.modPans fun p r => if stepCounts s p then { r with heat := { r.heat with remaining := r.heat.remaining - 1 } } else r
  have due : (fun p : PanSlot => stepCounts s p && t.pans[p].heat.remaining == 0) =
      fun p => stepCounts s p && decide (s.pans[p].heat.remaining ≤ 1) := funext fun p => by
    have pan : t.pans[p] = if stepCounts s p then { s.pans[p] with heat := { s.pans[p].heat with remaining := s.pans[p].heat.remaining - 1 } }
        else s.pans[p] := State.modPans_get ..
    rw [pan]
    cases stepCounts s p with
    | false => rfl
    | true =>
      refine Bool.eq_iff_iff.mpr ?_
      simp
      omega
  have ticked : stepTick s = t.modHs fun l => { l with stepDue := allPans.filter fun p => stepCounts s p && t.pans[p].heat.remaining == 0 } := rfl
  rw [ticked, due]
  rfl

/-! ### The end of a timed step (R63) -/

/-- R71: the end of the tail of a one-second event. -/
theorem postStepChanges_due (v : State) (rest : List PanSlot) (due : v.hs.stepDue = rest) :
    postStepChanges v =
      { v with
        hs := { v.hs with stepDue := rest, stepChanged := if rest = [] then [] else v.hs.stepChanged }
        posts := { v.posts with
                   triggers := v.posts.triggers ++
                     (if rest = [] ∧ v.hs.stepChanged ≠ [] then [.heatChange v.hs.stepChanged] else []) } } := by
  subst due
  by_cases last : v.hs.stepDue = []
  · by_cases none : v.hs.stepChanged = []
    · have quiet : ¬ (v.hs.stepDue = [] ∧ v.hs.stepChanged ≠ []) := fun c => c.2 none
      rw [postStepChanges_nothing (.inr none), if_neg quiet, List.append_nil, if_pos last, ← none]
    · have named : v.hs.stepDue = [] ∧ v.hs.stepChanged ≠ [] := ⟨last, none⟩
      rw [postStepChanges_end last none, if_pos named, if_pos last]
  · have quiet : ¬ (v.hs.stepDue = [] ∧ v.hs.stepChanged ≠ []) := fun c => last c.1
    rw [postStepChanges_nothing (.inl last), if_neg quiet, List.append_nil, if_neg last]

/-- R71: what the end of the step at the head of the tail leaves, `changed` being the contexts that changed. -/
def stepEnds (s : State) (rest : List PanSlot) (v : State) (changed : List PanSlot) : State :=
  { v with
    hs := { v.hs with
            stepDue := rest, stepChanged := if rest = [] then [] else s.hs.stepChanged ++ changed }
    posts := { s.posts with
               triggers := s.posts.triggers ++
                 (if rest = [] ∧ s.hs.stepChanged ++ changed ≠ [] then [.heatChange (s.hs.stepChanged ++ changed)] else []) } }

theorem expireStep_ends {s v : State} {p : PanSlot} {rest changed : List PanSlot} (due : s.hs.stepDue = p :: rest)
    (ended : endDueStep { s with hs := { s.hs with stepDue := rest } } p =
      { v with hs := { v.hs with stepDue := rest, stepChanged := s.hs.stepChanged ++ changed } })
    (posts : v.posts = s.posts) : expireStep s = stepEnds s rest v changed := by
  have taken : expireStep s = postStepChanges (endDueStep { s with hs := { s.hs with stepDue := rest } } p) := by
    rw [expireStep, due]
    rfl
  rw [taken, ended, postStepChanges_due _ rest rfl]
  unfold stepEnds
  rw [← posts]

/-- R164: a notice in a state whose Controller Port and frame count are those of another. -/
theorem queueNotice_as {s t : State} (cp : t.cp = s.cp) (frame : t.fe.frameCount = s.fe.frameCount) (kind : NoticeKind) (subject : Byte)
    (first second : Nat) :
    queueNotice t kind subject first second = { t with cp := (queueNotice s kind subject first second).cp } := by
  have shape := queueNotice_frame t kind subject first second
  have whole : queueNotice t kind subject first second = { t with cp := (queueNotice t kind subject first second).cp } :=
    shape.trans (congrArg (fun c => { t with cp := c }) (congrArg State.cp shape).symm)
  rw [queueNotice_cp cp frame kind subject first second] at whole
  exact whole

theorem contextsChanged_only {before after : State} {p : PanSlot} (others : ∀ q : PanSlot, p ≠ q → after.pans[q].heat = before.pans[q].heat)
    (differs : contextView before p ≠ contextView after p) : contextsChanged before after = [p] := by
  have single : ∀ p : PanSlot, allPans.filter (fun q => decide (q = p)) = [p] := by decide
  rw [← single p, contextsChanged]
  refine List.filter_congr fun q _ => ?_
  by_cases e : q = p
  · subst e
    simpa using differs
  · have same : contextView before q = contextView after q := by rw [contextView, contextView, others q (Ne.symm e)]
    simp [e, same]

/-- What ends a step, `heat` being the context it leaves, the list that of `requests`. -/
theorem endDueStep_set {s : State} {p : PanSlot} {heat : HeatPart} {requests : List PanSlot} {kind : NoticeKind} {first second : Nat}
    {rest changed : List PanSlot}
    (over_ : stepOver s p = true)
    (ends : endStep { s with hs := { s.hs with stepDue := rest } } p =
      queueNotice (contextSet { s with hs := { s.hs with stepDue := rest } } p heat requests) kind (s.handleOf p) first second)
    (view : ((s.pans[p].heat.state, s.pans[p].heat.level, s.pans[p].heat.position) = (heat.state, heat.level, heat.position) ∧ changed = []) ∨
      ((s.pans[p].heat.state, s.pans[p].heat.level, s.pans[p].heat.position) ≠ (heat.state, heat.level, heat.position) ∧ changed = [p])) :
    endDueStep { s with hs := { s.hs with stepDue := rest } } p =
      { queueNotice (contextSet s p heat requests) kind (s.handleOf p) first second with
        hs := { s.hs with requests := requests, stepDue := rest, stepChanged := s.hs.stepChanged ++ changed } } := by
  let w : State := { s with hs := { s.hs with stepDue := rest } }
  let x : State := queueNotice (contextSet w p heat requests) kind (s.handleOf p) first second
  have pans : x.pans = (contextSet w p heat requests).pans := by simp only [x, queueNotice_keeps]
  have others (q : PanSlot) (ne : p ≠ q) : x.pans[q].heat = w.pans[q].heat := by rw [pans, contextSet_get, if_neg ne]
  have seen : contextView x p = (heat.state, heat.level, heat.position) := by rw [contextView, pans, contextSet_get, if_pos rfl]
  have named : contextsChanged w x = changed := by
    rcases view with ⟨same, rfl⟩ | ⟨differs, rfl⟩
    · exact (contextsChanged_one others).mpr (same.trans seen.symm)
    · exact contextsChanged_only others fun c => differs (c.trans seen)
  have taken : endDueStep w p = x.modHs fun l => { l with stepChanged := l.stepChanged ++ contextsChanged w x } := by
    rw [endDueStep, if_pos (by exact over_), ends]
  have eq : x = { contextSet w p heat requests with cp := (queueNotice s kind (s.handleOf p) first second).cp } :=
    queueNotice_as (s := s) (t := contextSet w p heat requests) rfl rfl kind (s.handleOf p) first second
  have eq' := queueNotice_as (s := s) (t := contextSet s p heat requests) rfl rfl kind (s.handleOf p) first second
  rw [taken, named, eq, eq']
  rfl

/-- R63: the step at the position ends. -/
theorem endStep_rows (s : State) (p : PanSlot) :
    (s.pans[p].program[s.pans[p].heat.position.val]? = none → endStep s p = s) ∧
    ∀ step : ProgramStep, s.pans[p].program[s.pans[p].heat.position.val]? = some step →
      (∀ following : ProgramStep, step.action = .next → s.pans[p].program[s.pans[p].heat.position.val + 1]? = some following →
        endStep s p = stepDone (beginStep s p (s.pans[p].heat.position + 1) following) p s.pans[p].heat.position (s.pans[p].heat.position + 1)) ∧
      (step.action = .next → s.pans[p].program[s.pans[p].heat.position.val + 1]? = none → endStep s p = programDone s p) ∧
      (step.action = .hold →
        endStep s p = stepDone (s.modHeat p fun h => { h with timed := false }) p s.pans[p].heat.position s.pans[p].heat.position) ∧
      (step.action = .off → endStep s p = programDone s p) := by
  unfold endStep
  dsimp only
  refine ⟨fun none => by rw [none], fun step held => ?_⟩
  rw [held]
  dsimp only
  refine ⟨fun following act next => ?_, fun act none => ?_, fun act => ?_, fun act => ?_⟩ <;> rw [act]
  · dsimp only
    rw [next]
  · dsimp only
    rw [none]

theorem stepOver_iff (s : State) (p : PanSlot) :
    stepOver s p = true ↔ s.pans[p].heat.state = .program ∧ s.pans[p].heat.timed = true ∧ s.pans[p].heat.remaining = 0 := by
  simp only [stepOver, Bool.and_eq_true, beq_iff_eq, and_assoc]

/-- R63, log 39: the step at the head of the tail is not over, or the store does not hold it. -/
theorem expireStep_without {s : State} {p : PanSlot} {rest : List PanSlot} (due : s.hs.stepDue = p :: rest)
    (without : stepOver s p = false ∨ s.pans[p].program[s.pans[p].heat.position.val]? = none) :
    expireStep s = stepEnds s rest s [] := by
  let w : State := { s with hs := { s.hs with stepDue := rest } }
  have same : contextsChanged w w = [] := by simp [contextsChanged]
  have ended : endDueStep w p = w := by
    rw [endDueStep]
    split
    · next over_ =>
      have kept : endStep w p = w := (endStep_rows w p).1 (without.resolve_left fun c => Bool.noConfusion (c.symm.trans over_))
      rw [kept, same]
      exact congrArg (fun c => { w with hs := { w.hs with stepChanged := c } }) (List.append_nil _)
    · rfl
  refine expireStep_ends due ?_ rfl
  rw [List.append_nil]
  exact ended

/-- R63: the step at the head of the tail ends with a notice. -/
theorem expireStep_set {s : State} {p : PanSlot} {heat : HeatPart} {requests : List PanSlot} {kind : NoticeKind} {first second : Nat}
    {rest changed : List PanSlot} (due : s.hs.stepDue = p :: rest) (over_ : stepOver s p = true)
    (ends : endStep { s with hs := { s.hs with stepDue := rest } } p =
      queueNotice (contextSet { s with hs := { s.hs with stepDue := rest } } p heat requests) kind (s.handleOf p) first second)
    (view : ((s.pans[p].heat.state, s.pans[p].heat.level, s.pans[p].heat.position) = (heat.state, heat.level, heat.position) ∧ changed = []) ∨
      ((s.pans[p].heat.state, s.pans[p].heat.level, s.pans[p].heat.position) ≠ (heat.state, heat.level, heat.position) ∧ changed = [p])) :
    expireStep s = stepEnds s rest (queueNotice (contextSet s p heat requests) kind (s.handleOf p) first second) changed := by
  refine expireStep_ends due ?_ (by simp only [queueNotice_keeps]; rfl)
  rw [endDueStep_set over_ ends view, queueNotice_frame (contextSet s p heat requests)]
  rfl

/-- Settles O39: the tick by the steps that count; the end of the step at the head of the tail by the rows of R63. -/
theorem stepTimersCountAndEnd : Obligations.StepTimersCountAndEnd := by
  refine ⟨⟨fun s settled none => ?_, fun s settled some => ?_⟩, fun s on => ?_⟩
  · exact (exec_settled settled _).trans (congrArg _ (if_pos none))
  · intro counts
    have counted : counts = stepCounts s := funext fun p => (stepCounts_eq s p).symm
    have ticked : action .heatStepTick s = stepTick { s with posts := { s.posts with hsSeconds := s.posts.hsSeconds - 1 } } :=
      if_neg some.ne'
    rw [exec_settled settled, ticked, stepTick_eq, counted]
    rfl
  · have taken : exec .stepEnd s = .next (expireStep s) := congrArg _ (if_neg on)
    rw [taken]
    refine ⟨fun none => ?_, fun p rest due => ?_⟩
    · rw [expireStep, none]
    · intro h ends finished
      let w : State := { s with hs := { s.hs with stepDue := rest } }
      have handle (heat : HeatPart) (requests : List PanSlot) : (contextSet w p heat requests).handleOf p = s.handleOf p := by
        rw [State.handleOf, contextSet_get, if_pos rfl]
        rfl
      have done (over_ : stepOver s p = true) (running : h.state = .program) (ended : endStep w p = programDone w p) :
          expireStep s = ends finished [p] :=
        have view : (h.state, h.level, h.position) ≠ (HeatState.idle, HeatPart.idle.level, HeatPart.idle.position) := fun c =>
          HeatState.noConfusion (running.symm.trans (congrArg Prod.fst c))
        expireStep_set due over_ ended (.inr ⟨view, rfl⟩)
      refine ⟨fun without => congrArg _ (expireStep_without due (without.imp_left fun c => ?_)), fun step running timed out held => ?_⟩
      · exact Bool.eq_false_iff.mpr fun over_ => c ((stepOver_iff s p).mp over_)
      have over_ : stepOver s p = true := (stepOver_iff s p).mpr ⟨running, timed, out⟩
      obtain ⟨next, last, holds, off⟩ := (endStep_rows w p).2 step held
      refine ⟨fun following act more => congrArg _ ?_, fun act none => congrArg _ (done over_ running (last act none)),
        fun act => congrArg _ ?_, fun act => congrArg _ (done over_ running (off act))⟩
      · have moved : h.position ≠ h.position + 1 := (by decide : ∀ i : Fin 8, i ≠ i + 1) h.position
        have ended : endStep w p = queueNotice (contextSet w p
            { h with
              position := h.position + 1, level := following.level, remaining := following.duration
              timed := decide (following.duration ≠ 0) } s.hs.requests) .stepDone (s.handleOf p) h.position (h.position + 1 : Fin 8) := by
          rw [next following act more, ← handle _ s.hs.requests]
          rfl
        exact expireStep_set due over_ ended (.inr ⟨fun c => moved (congrArg (fun v => v.2.2) c), rfl⟩)
      · have ended : endStep w p = queueNotice (contextSet w p { h with timed := false } s.hs.requests) .stepDone (s.handleOf p)
            h.position h.position := by
          rw [holds act, ← handle _ s.hs.requests]
          rfl
        exact expireStep_set due over_ ended (.inl ⟨rfl, rfl⟩)

end Sys2Proof.Machine
end

section
/-! The grant down the request order list and the effective level (R77 to R79). -/

namespace Sys2Proof.Machine

-- The default arguments `by decide` wait for the kernel: one declaration after the other holds few threads.
set_option Elab.async false

/-- R77: what one grant leaves of a phase. -/
theorem phaseTerm_le (m k kj bound : Nat) : phaseTerm m k kj bound ≤ bound := by
  unfold phaseTerm
  split
  · exact Nat.le_refl _
  · exact Nat.min_le_left ..

theorem grantOf_le (r : Remainders) (c : Claim) : grantOf r c ≤ min c.d r.mh :=
  Nat.le_trans (phaseTerm_le ..) (phaseTerm_le ..)

/-- R78: the share on a phase of what that phase bounds keeps within it. -/
theorem share_le {g m k kj bound : Nat} (within : g ≤ phaseTerm m k kj bound) : g * kj / k ≤ m := by
  unfold phaseTerm at within
  by_cases none : kj = 0
  · simp [none]
  · rw [if_neg none] at within
    have scaled : g * kj ≤ m * k := (Nat.le_div_iff_mul_le (Nat.pos_of_ne_zero none)).mp (Nat.le_trans within (Nat.min_le_right ..))
    exact Nat.div_le_of_le_mul (Nat.mul_comm m k ▸ scaled)

theorem grantOf_share1 (r : Remainders) (c : Claim) : grantOf r c * c.k1 / c.k ≤ r.m1 := share_le (phaseTerm_le ..)

theorem grantOf_share2 (r : Remainders) (c : Claim) : grantOf r c * c.k2 / c.k ≤ r.m2 := share_le (Nat.le_refl _)

/-- R77, step 1: the least of the demand and of what is left of the three limits. -/
theorem grantOf_eq (r : Remainders) (c : Claim) :
    grantOf r c =
      min (min c.d r.mh) (min (if c.k1 = 0 then c.d else r.m1 * c.k / c.k1) (if c.k2 = 0 then c.d else r.m2 * c.k / c.k2)) := by
  unfold grantOf phaseTerm
  split_ifs <;> omega

theorem grantTo_head (claim : PanSlot → Claim) (r : Remainders) (p : PanSlot) (l : List PanSlot) :
    grantTo (grants claim r (p :: l)) p = grantOf r (claim p) := by
  simp [grantTo, grants]

theorem grantTo_later (claim : PanSlot → Claim) (r : Remainders) {p q : PanSlot} (l : List PanSlot) (ne : p ≠ q) :
    grantTo (grants claim r (p :: l)) q = grantTo (grants claim (r.after (claim p) (grantOf r (claim p))) l) q := by
  simp [grantTo, grants, ne]

/-- What a list of pans has taken, under a measure of each one's grant. -/
def takenSum (claim : PanSlot → Claim) (r : Remainders) (l before : List PanSlot) (share : Claim → Nat → Nat) : Nat :=
  (before.map fun q => share (claim q) (grantTo (grants claim r l) q)).sum

theorem takenSum_cons (claim : PanSlot → Claim) (r : Remainders) {p : PanSlot} {l before : List PanSlot} (apart : p ∉ before)
    (share : Claim → Nat → Nat) :
    takenSum claim r (p :: l) (p :: before) share =
      share (claim p) (grantOf r (claim p)) + takenSum claim (r.after (claim p) (grantOf r (claim p))) l before share := by
  have later : before.map (fun q => share (claim q) (grantTo (grants claim r (p :: l)) q)) =
      before.map fun q => share (claim q) (grantTo (grants claim (r.after (claim p) (grantOf r (claim p))) l) q) :=
    List.map_congr_left fun q mem => by
      have other : p ≠ q := fun e => apart (e.symm ▸ mem)
      rw [grantTo_later claim r l other]
  rw [takenSum, List.map_cons, List.sum_cons, later, grantTo_head, takenSum]

/-- R78: the grants of a list and their phase shares keep within the remainders it began with. -/
theorem takenSum_le (claim : PanSlot → Claim) (r : Remainders) {l : List PanSlot} (once : l.Nodup) :
    takenSum claim r l l (fun _ g => g) ≤ r.mh ∧ takenSum claim r l l (fun c g => g * c.k1 / c.k) ≤ r.m1 ∧
      takenSum claim r l l (fun c g => g * c.k2 / c.k) ≤ r.m2 := by
  induction l generalizing r with
  | nil => exact ⟨Nat.zero_le _, Nat.zero_le _, Nat.zero_le _⟩
  | cons p l ih =>
    obtain ⟨apart, once⟩ := List.nodup_cons.mp once
    obtain ⟨hob, one, two⟩ := ih (r.after (claim p) (grantOf r (claim p))) once
    have first := Nat.le_trans (grantOf_le r (claim p)) (Nat.min_le_right ..)
    have first1 := grantOf_share1 r (claim p)
    have first2 := grantOf_share2 r (claim p)
    simp only [takenSum_cons claim r apart]
    simp only [Remainders.after] at hob one two ⊢
    omega

/-- R77: the grant of a listed pan, after those before it. -/
theorem grantTo_eq (claim : PanSlot → Claim) (r : Remainders) (before later : List PanSlot) (p : PanSlot)
    (once : (before ++ p :: later).Nodup) :
    let l : List PanSlot := before ++ p :: later
    grantTo (grants claim r l) p =
      grantOf ⟨r.m1 - takenSum claim r l before (fun c g => g * c.k1 / c.k), r.m2 - takenSum claim r l before (fun c g => g * c.k2 / c.k),
        r.mh - takenSum claim r l before (fun _ g => g)⟩ (claim p) := by
  induction before generalizing r with
  | nil => exact grantTo_head ..
  | cons q before ih =>
    obtain ⟨apart, once⟩ := List.nodup_cons.mp once
    have other : q ≠ p := fun e => apart (e ▸ List.mem_append_right _ (List.mem_cons_self ..))
    have fresh : q ∉ before := fun mem => apart (List.mem_append_left _ mem)
    intro l
    have rest := ih (r.after (claim q) (grantOf r (claim q))) once
    simp only [l, List.cons_append, grantTo_later claim r _ other, takenSum_cons claim r fresh]
    rw [rest]
    simp only [Remainders.after, Nat.sub_sub]

/-- The last of the levels that pass a test is the greatest of them. -/
theorem lastLevel_spec (test : Level → Bool) (i : Level) (last : ((List.finRange 16).filter test).getLast?.getD 0 = i) :
    (i = 0 ∨ test i = true) ∧ ∀ j : Level, test j = true → j ≤ i := by
  have passes (j : Level) : j ∈ (List.finRange 16).filter test ↔ test j = true := by simp
  have rising : ((List.finRange 16).filter test).Pairwise (· < ·) := (List.pairwise_lt_finRange 16).filter _
  generalize (List.finRange 16).filter test = levels at last passes rising
  rcases List.eq_nil_or_concat levels with rfl | ⟨below, top, rfl⟩
  · exact ⟨.inl last.symm, fun j passed => absurd ((passes j).mpr passed) List.not_mem_nil⟩
  · rw [List.concat_eq_append] at last passes rising
    have same : top = i := by simpa using last
    subst same
    refine ⟨.inr ((passes top).mp (by simp)), fun j passed => ?_⟩
    rw [List.pairwise_append] at rising
    rcases List.mem_append.mp ((passes j).mpr passed) with earlier | here
    · exact Fin.le_of_lt (rising.2.2 j earlier top (List.mem_singleton_self _))
    · exact Fin.le_of_eq (List.mem_singleton.mp here)

/-- R79: the effective level is the largest up to the requested one whose target the grant reaches, or 0. -/
theorem effectiveLevel_spec (t : Tables) (g : Nat) (l : Level) :
    effectiveLevel t g l ≤ l ∧ (effectiveLevel t g l = 0 ∨ t.t4[effectiveLevel t g l].target ≤ g) ∧
      ∀ i : Level, i ≤ l → t.t4[i].target ≤ g → i ≤ effectiveLevel t g l := by
  obtain ⟨reached, greatest⟩ := lastLevel_spec _ (effectiveLevel t g l) rfl
  simp only [decide_eq_true_eq] at reached greatest
  refine ⟨?_, reached.imp_right And.right, fun i low under => greatest i ⟨low, under⟩⟩
  rcases reached with zero | ⟨low, -⟩
  · exact zero ▸ Fin.zero_le _
  · exact low

end Sys2Proof.Machine
end

section
/-! What a recompute leaves (R73 to R81). -/

namespace Sys2Proof.Machine

-- The default arguments `by decide` wait for the kernel: one declaration after the other holds few threads.
set_option Elab.async false

/-! ### The notices of a recompute (R80) -/

/-- A part of an event that touches the notice queue alone. -/
def OnlyNotices (s u : State) : Prop := u = { s with cp := { s.cp with notices := u.cp.notices, gap := u.cp.gap } }

theorem OnlyNotices.trans {s t u : State} (h : OnlyNotices s t) (g : OnlyNotices t u) : OnlyNotices s u := by
  unfold OnlyNotices at h g
  rw [h] at g
  exact g.trans (by rw [g])

theorem OnlyNotices.cp {s u : State} (h : OnlyNotices s u) : u = { s with cp := u.cp } := by
  have cp : u.cp = _ := congrArg State.cp h
  exact Eq.trans h (congrArg (fun c => ({ s with cp := c } : State)) cp.symm)

theorem queueNotice_onlyNotices (s : State) (kind : NoticeKind) (subject : Byte) (first second : Nat) :
    OnlyNotices s (queueNotice s kind subject first second) := queueNotice_frame ..

theorem OnlyNotices.foldl {α : Type} {f : State → α → State} (h : ∀ v a, OnlyNotices v (f v a)) (as : List α) (s : State) :
    OnlyNotices s (as.foldl f s) := by
  induction as generalizing s with
  | nil => rfl
  | cons a as ih => exact (h s a).trans (ih (f s a))

/-- R80: LEVEL CHANGED for a pan of the list, the new pair being that of the recompute on `s`. -/
def levelNotice (s v : State) (p : PanSlot) : State :=
  match (allocOf s (allGrants s) p).basis with
  | none => v
  | some pair =>
    if levelChanged (s.pans[p].alloc.basis.getD (pair.1, pair.1)) pair then
      queueNotice v .levelChanged (s.handleOf p) pair.1 pair.2
    else v

theorem levelNotice_onlyNotices (s v : State) (p : PanSlot) : OnlyNotices v (levelNotice s v p) := by
  unfold levelNotice
  split
  · rfl
  · split
    · exact queueNotice_onlyNotices ..
    · rfl

/-- R80: the notices of the recompute on `s`. -/
def levelNotices (s : State) : State := s.hs.requests.foldl (levelNotice s) s

theorem levelNotices_onlyNotices (s : State) : OnlyNotices s (levelNotices s) := .foldl (levelNotice_onlyNotices s) ..

/-! ### The shape of a recompute -/

/-- R72: the pans once their allocations are written. -/
def allocated (s : State) : Vector PanRecord 8 := Vector.ofFn fun p => { s.pans[p] with alloc := allocOf s (allGrants s) p }

theorem allocated_get (s : State) (p : PanSlot) : (allocated s)[p] = { s.pans[p] with alloc := allocOf s (allGrants s) p } :=
  Vector.getElem_ofFn ..

/-- The figures and the allocations of a recompute are written, its notices not yet queued. -/
def refiguredBudget (s : State) : State := { s with pans := allocated s, ba := { s.ba with figures := figuresOf s } }

theorem noticeLevel_told (s : State) (cp : ControllerPort) (p : PanSlot) :
    noticeLevel s { refiguredBudget s with cp := cp } p = { refiguredBudget s with cp := (levelNotice s { s with cp := cp } p).cp } := by
  have pan : ({ refiguredBudget s with cp := cp } : State).pans[p] = _ := allocated_get s p
  have handle : ({ refiguredBudget s with cp := cp } : State).handleOf p = s.handleOf p := by
    rw [State.handleOf, pan]
    rfl
  unfold noticeLevel levelNotice
  rw [pan, handle]
  cases (allocOf s (allGrants s) p).basis with
  | none => rfl
  | some pair =>
    dsimp only
    split
    · exact queueNotice_as (s := { s with cp := cp }) (t := { refiguredBudget s with cp := cp }) rfl rfl ..
    · rfl

theorem noticeLevels_told (s : State) (cp : ControllerPort) (ps : List PanSlot) :
    ps.foldl (noticeLevel s) { refiguredBudget s with cp := cp } =
      { refiguredBudget s with cp := (ps.foldl (levelNotice s) { s with cp := cp }).cp } := by
  induction ps generalizing cp with
  | nil => rfl
  | cons p ps ih =>
    have one : levelNotice s { s with cp := cp } p = { s with cp := (levelNotice s { s with cp := cp } p).cp } :=
      (levelNotice_onlyNotices s { s with cp := cp } p).cp
    rw [List.foldl_cons, List.foldl_cons, noticeLevel_told, ih, ← one]

/-- R81: a recompute leaves figures, an allocation or neither changed. -/
abbrev BudgetSame (s : State) : Prop :=
  figuresOf s = s.ba.figures ∧ ∀ p : PanSlot, (allocOf s (allGrants s) p).g = s.pans[p].alloc.g

theorem figuresChanged_iff (s : State) : figuresChanged s (refiguredBudget s) = true ↔ ¬ BudgetSame s := by
  have pan (p : PanSlot) : (refiguredBudget s).pans[p] = { s.pans[p] with alloc := allocOf s (allGrants s) p } := allocated_get s p
  have figures : (refiguredBudget s).ba.figures = figuresOf s := rfl
  unfold figuresChanged
  simp only [figures, pan, BudgetSame, Bool.or_eq_true, bne_iff_ne, ne_eq, List.any_eq_true, allPans, List.mem_finRange, true_and,
    not_and_or, not_forall]
  exact or_congr (not_congr eq_comm) (exists_congr fun p => not_congr eq_comm)

/-- R73: what a recompute leaves. -/
theorem recompute_eq (s : State) :
    recompute s =
      { s with
        pans := allocated s, ba := { s.ba with figures := figuresOf s }
        posts := { s.posts with rebuilds := s.posts.rebuilds + if BudgetSame s then 0 else 1 }
        cp := (levelNotices s).cp } := by
  have told : s.hs.requests.foldl (noticeLevel s) (refiguredBudget s) = { refiguredBudget s with cp := (levelNotices s).cp } :=
    noticeLevels_told s s.cp s.hs.requests
  have taken : recompute s =
      if figuresChanged s (refiguredBudget s) then postRebuild (s.hs.requests.foldl (noticeLevel s) (refiguredBudget s))
      else s.hs.requests.foldl (noticeLevel s) (refiguredBudget s) := rfl
  rw [taken, told]
  by_cases same : BudgetSame s
  · rw [if_neg fun c => (figuresChanged_iff s).mp c same, if_pos same]
    rfl
  · rw [if_pos ((figuresChanged_iff s).mpr same), if_neg same]
    rfl

end Sys2Proof.Machine
end

section
/-! The recompute keeps its grants within the limits (R73 to R81). -/

namespace Sys2Proof.Machine

-- The default arguments `by decide` wait for the kernel: one declaration after the other holds few threads.
set_option Elab.async false

/-- R75, R76: the capacity of a pan on one phase. -/
theorem phaseCapacity_eq (s : State) (ph : Phase) (p : PanSlot) :
    phaseCapacity s ph (eligibleMembers s p) =
      ((s.pans[p].pres.members.filter fun k => eligible s k && s.ts.work.phaseOf (coilBoard k) == ph).map fun k => coilLimit s k).sum := by
  have both : (fun k => s.ts.work.phaseOf (coilBoard k) == ph && eligible s k) =
      fun k => eligible s k && s.ts.work.phaseOf (coilBoard k) == ph := funext fun k => Bool.and_comm ..
  rw [phaseCapacity, eligibleMembers, List.filter_map, List.map_map, ← both, ← List.filter_filter]
  rfl

theorem allocOf_cold {s : State} {p : PanSlot} (h : s.pans[p].heat.state.heating = false) (gs : List (PanSlot × Nat)) :
    allocOf s gs p = .zero := if_neg (ne_true_of_eq_false h)

theorem allocOf_heating {s : State} {p : PanSlot} (h : s.pans[p].heat.state.heating = true) (gs : List (PanSlot × Nat)) :
    allocOf s gs p =
      { k := (claimOf s p).k, k1 := (claimOf s p).k1, k2 := (claimOf s p).k2, d := (claimOf s p).d, g := grantTo gs p
        effective := effectiveLevel s.ts.work (grantTo gs p) s.pans[p].heat.level
        basis := some (s.pans[p].heat.level, effectiveLevel s.ts.work (grantTo gs p) s.pans[p].heat.level) } := if_pos h

/-- R77: no grant is above the demand. -/
theorem grantTo_le (claim : PanSlot → Claim) (r : Remainders) {l : List PanSlot} (once : l.Nodup) {p : PanSlot} (mem : p ∈ l) :
    grantTo (grants claim r l) p ≤ (claim p).d := by
  obtain ⟨before, later, rfl⟩ := List.append_of_mem mem
  exact (grantTo_eq claim r before later p once).trans_le (Nat.le_trans (grantOf_le ..) (Nat.min_le_left ..))

theorem levelChanged_iff (basis pair : Level × Level) :
    levelChanged basis pair = true ↔ basis ≠ pair ∧ (basis.2 < basis.1 ∨ pair.2 < pair.1) := by
  simp [levelChanged]

/-- Folds that queue the same notices, from states with the same Controller Port and frame count. -/
theorem foldl_notices {f g : State → PanSlot → State} {ps : List PanSlot}
    (step : ∀ p ∈ ps, ∀ a b : State, a.cp = b.cp → a.fe = b.fe → (f a p).cp = (g b p).cp ∧ (f a p).fe = (g b p).fe)
    {a b : State} (cp : a.cp = b.cp) (fe : a.fe = b.fe) : (ps.foldl f a).cp = (ps.foldl g b).cp := by
  induction ps generalizing a b with
  | nil => exact cp
  | cons p ps ih =>
    obtain ⟨cp, fe⟩ := step p (List.mem_cons_self ..) a b cp fe
    exact ih (fun q mem => step q (List.mem_cons_of_mem _ mem)) cp fe

/-- R80: a notice of the recompute on `s`, its pan heating. -/
theorem levelNotice_heating {s : State} {p : PanSlot} (h : s.pans[p].heat.state.heating = true) (v : State) :
    levelNotice s v p =
      let pair : Level × Level := (s.pans[p].heat.level, (allocOf s (allGrants s) p).effective)
      let basis : Level × Level := s.pans[p].alloc.basis.getD (pair.1, pair.1)
      if basis ≠ pair ∧ (basis.2 < basis.1 ∨ pair.2 < pair.1) then queueNotice v .levelChanged (s.handleOf p) pair.1.val pair.2.val else v := by
  unfold levelNotice
  simp only [allocOf_heating h, levelChanged_iff]

theorem foldl_levelNotice_cp {s : State} (h : RequestsHeat s) {a b : State} (cp : a.cp = b.cp) (fe : a.fe = b.fe) :
    (s.hs.requests.foldl (levelNotice s) a).cp =
      (s.hs.requests.foldl
        (fun v p =>
          let pair : Level × Level := (s.pans[p].heat.level, (allocOf s (allGrants s) p).effective)
          let basis : Level × Level := s.pans[p].alloc.basis.getD (pair.1, pair.1)
          if basis ≠ pair ∧ (basis.2 < basis.1 ∨ pair.2 < pair.1) then
            queueNotice v .levelChanged (s.handleOf p) pair.1.val pair.2.val else v)
        b).cp := by
  refine foldl_notices (fun p mem a b cp fe => ?_) cp fe
  rw [levelNotice_heating ((h.2 p).mp mem)]
  dsimp only
  split
  · exact ⟨queueNotice_cp cp (congrArg FrameEngine.frameCount fe) .., by simpa only [queueNotice_keeps] using fe⟩
  · exact ⟨cp, fe⟩

/-- R75, R81: the eligible sets of the figures. -/
theorem figuresOf_eq (s : State) :
    figuresOf s =
      { order := s.hs.requests
        eligible := Vector.ofFn fun p =>
          if p ∈ s.hs.requests then (s.pans[p].pres.members.filter fun k => eligible s k).map fun k => (k, coilLimit s k) else []
        limit1 := s.ts.work.phaseLimit .l1, limit2 := s.ts.work.phaseLimit .l2, limitHob := s.ts.work.hobLimit } := by
  unfold figuresOf eligibleMembers
  simp only [List.contains_iff_mem]

theorem action_recompute (s : State) {e : Trigger} {rest : List Trigger} (waits : s.posts.triggers = e :: rest) :
    action .recompute s = recompute { s with posts := { s.posts with triggers := rest } } := by
  change (match s.posts.triggers with | _ :: rest => _ | [] => s) = _
  rw [waits]
  rfl

/-- R75: what the classes below 3 give a coil. -/
theorem classEntry_known {s : State} {k : CoilId} {c : Fin 3} (h : c.val = s.ts.work.t1[k].cls.val) : classEntry s k = s.ts.work.t3[c] := by
  rw [classEntry, dif_pos (h ▸ c.isLt)]
  simp only [← h]
  rfl

theorem eligible_iff (s : State) (k : CoilId) :
    eligible s k = true ↔
      s.coils[k].occupancy = .member ∧ s.coils[k].hot = false ∧ s.coils[k].disabled = false ∧ s.coils[k].unobserved = false ∧
        (classEntry s k).fire ≤ s.coils[k].coverage ∧ s.pu.legs[coilLeg k].state = .ready ∧ s.boards[coilBoard k].state = .online := by
  simp only [eligible, CoilRecord.available, Bool.and_eq_true, beq_iff_eq, Bool.not_eq_true', decide_eq_true_eq, and_assoc]

theorem derate_eq_getD (s : State) (b : BoardId) : derate s b = s.ba.derating[b].manual.getD s.ts.work.t5[s.ba.derating[b].bucket] := by
  unfold derate
  cases s.ba.derating[b].manual <;> rfl

/-- R76, R79: the allocation part of a pan that heats. -/
theorem allocOf_spec {s : State} (listed : RequestsHeat s) {p : PanSlot} (h : s.pans[p].heat.state.heating = true) {a : AllocPart}
    (written : allocOf s (allGrants s) p = a) :
    let limits (ph : Phase) : Nat :=
      ((s.pans[p].pres.members.filter fun k => eligible s k && s.ts.work.phaseOf (coilBoard k) == ph).map fun k => coilLimit s k).sum
    a.k1 = limits .l1 ∧ a.k2 = limits .l2 ∧ a.k = a.k1 + a.k2 ∧
      a.d = min s.ts.work.t4[s.pans[p].heat.level].target a.k ∧ a.g ≤ a.d ∧
      a.effective ≤ s.pans[p].heat.level ∧
      (a.effective = 0 ∨ s.ts.work.t4[a.effective].target ≤ a.g) ∧
      (∀ l : Level, l ≤ s.pans[p].heat.level → s.ts.work.t4[l].target ≤ a.g → l ≤ a.effective) ∧
      a.basis = some (s.pans[p].heat.level, a.effective) := by
  intro limits
  have one : limits .l1 = (claimOf s p).k1 := (phaseCapacity_eq s .l1 p).symm
  have two : limits .l2 = (claimOf s p).k2 := (phaseCapacity_eq s .l2 p).symm
  have shape : a = _ := written.symm.trans (allocOf_heating h (allGrants s))
  rw [one, two]
  subst shape
  obtain ⟨low, under, greatest⟩ := effectiveLevel_spec s.ts.work (grantTo (allGrants s) p) s.pans[p].heat.level
  exact ⟨rfl, rfl, rfl, rfl, grantTo_le _ _ listed.1 ((listed.2 p).mpr h), low, under, greatest, rfl⟩

/-- What the listed pans have been granted, read off their allocation parts. -/
theorem takenSum_allocs {s : State} (listed : RequestsHeat s) {before : List PanSlot} (sub : before ⊆ s.hs.requests)
    {share : Claim → Nat → Nat} {f : AllocPart → Nat}
    (same : ∀ (c : Claim) (g : Nat) (e : Level) (b : Option (Level × Level)), share c g = f ⟨c.k, c.k1, c.k2, c.d, g, e, b⟩) :
    takenSum (claimOf s) (limitsOf s.ts.work) s.hs.requests before share =
      (before.map fun q => f (allocOf s (allGrants s) q)).sum := by
  refine congrArg List.sum (List.map_congr_left fun q mem => ?_)
  rw [allocOf_heating ((listed.2 q).mp (sub mem))]
  exact same ..

/-- R78: the allocations keep within the limits. -/
theorem allocs_within {s : State} (listed : RequestsHeat s) :
    let a (q : PanSlot) : AllocPart := allocOf s (allGrants s) q
    (s.hs.requests.map fun p => (a p).g).sum ≤ s.ts.work.hobLimit ∧
      (s.hs.requests.map fun p => (a p).g * (a p).k1 / (a p).k).sum ≤ s.ts.work.phaseLimit .l1 ∧
      (s.hs.requests.map fun p => (a p).g * (a p).k2 / (a p).k).sum ≤ s.ts.work.phaseLimit .l2 := by
  obtain ⟨hob, one, two⟩ := takenSum_le (claimOf s) (limitsOf s.ts.work) listed.1
  have all : s.hs.requests ⊆ s.hs.requests := List.Subset.refl _
  rw [takenSum_allocs listed all (f := fun a => a.g) fun _ _ _ _ => rfl] at hob
  rw [takenSum_allocs listed all (f := fun a => a.g * a.k1 / a.k) fun _ _ _ _ => rfl] at one
  rw [takenSum_allocs listed all (f := fun a => a.g * a.k2 / a.k) fun _ _ _ _ => rfl] at two
  exact ⟨hob, one, two⟩

/-- R77: the allocation of a listed pan, read off those of the pans before it. -/
theorem alloc_after {s : State} (listed : RequestsHeat s) {before later : List PanSlot} {p : PanSlot}
    (order : s.hs.requests = before ++ p :: later) :
    let a (q : PanSlot) : AllocPart := allocOf s (allGrants s) q
    let m1 : Nat := s.ts.work.phaseLimit .l1 - (before.map fun q => (a q).g * (a q).k1 / (a q).k).sum
    let m2 : Nat := s.ts.work.phaseLimit .l2 - (before.map fun q => (a q).g * (a q).k2 / (a q).k).sum
    let mh : Nat := s.ts.work.hobLimit - (before.map fun q => (a q).g).sum
    (a p).g =
      min (min (a p).d mh)
        (min (if (a p).k1 = 0 then (a p).d else m1 * (a p).k / (a p).k1) (if (a p).k2 = 0 then (a p).d else m2 * (a p).k / (a p).k2)) := by
  have sub : before ⊆ s.hs.requests := order ▸ List.subset_append_left ..
  have mem : p ∈ s.hs.requests := order ▸ List.mem_append_right _ (List.mem_cons_self ..)
  have granted := grantTo_eq (claimOf s) (limitsOf s.ts.work) before later p (order ▸ listed.1)
  dsimp only at granted
  rw [← order, takenSum_allocs listed sub (f := fun a => a.g) fun _ _ _ _ => rfl,
    takenSum_allocs listed sub (f := fun a => a.g * a.k1 / a.k) fun _ _ _ _ => rfl,
    takenSum_allocs listed sub (f := fun a => a.g * a.k2 / a.k) fun _ _ _ _ => rfl, grantOf_eq] at granted
  intro a
  have shape : a p = _ := allocOf_heating ((listed.2 p).mp mem) (allGrants s)
  rw [shape]
  exact granted

/-- R73: a recompute touches the allocation parts, the figures, the rebuild requests and the notices. -/
theorem recompute_frame (s : State) :
    recompute s =
      { s with
        pans := (recompute s).pans, ba := { s.ba with figures := (recompute s).ba.figures }
        posts := { s.posts with rebuilds := (recompute s).posts.rebuilds }
        cp := { s.cp with notices := (recompute s).cp.notices, gap := (recompute s).cp.gap } } := by
  have cp : (levelNotices s).cp = { s.cp with notices := (levelNotices s).cp.notices, gap := (levelNotices s).cp.gap } :=
    congrArg State.cp (levelNotices_onlyNotices s)
  rw [recompute_eq]
  dsimp only
  exact congrArg
    (fun c : ControllerPort =>
      { s with
        pans := allocated s, ba := { s.ba with figures := figuresOf s }
        posts := { s.posts with rebuilds := s.posts.rebuilds + if BudgetSame s then 0 else 1 }, cp := c })
    cp

theorem recompute_pan (s : State) (p : PanSlot) : (recompute s).pans[p] = { s.pans[p] with alloc := allocOf s (allGrants s) p } := by
  rw [recompute_eq]
  exact allocated_get s p

theorem recompute_figures (s : State) : (recompute s).ba.figures = figuresOf s := by rw [recompute_eq]

theorem recompute_rebuilds (s : State) : (recompute s).posts.rebuilds = s.posts.rebuilds + if BudgetSame s then 0 else 1 := by
  rw [recompute_eq]

theorem recompute_cp (s : State) : (recompute s).cp = (levelNotices s).cp := by rw [recompute_eq]

/-- Settles O44: the recompute by its shape, the grants by the order of the list, the limits by what is left after each grant. -/
theorem recomputeGrantsWithinLimits : Obligations.RecomputeGrantsWithinLimits := by
  refine ⟨⟨fun s settled none => ?_, fun s e rest settled waits => ?_, fun s e rest settled waits listed => ?_⟩, fun s k c class_ => ?_⟩
  · rw [exec_settled settled]
    change Host.Outcome.next (match s.posts.triggers with | _ :: rest => _ | [] => s) = _
    rw [none]
  · rw [exec_settled settled, action_recompute s waits]
  · let v : State := { s with posts := { s.posts with triggers := rest } }
    have pan := recompute_pan v
    have alloc (p : PanSlot) : (recompute v).pans[p].alloc = allocOf v (allGrants v) p := congrArg PanRecord.alloc (pan p)
    have figures := recompute_figures v
    have rebuilds := recompute_rebuilds v
    have listedV : RequestsHeat v := listed
    have same : BudgetSame v ↔ (recompute v).ba.figures = s.ba.figures ∧ ∀ p : PanSlot, (recompute v).pans[p].alloc.g = s.pans[p].alloc.g := by
      simp only [figures, alloc]
      rfl
    refine ⟨recompute v, (exec_settled settled _).trans (congrArg _ (action_recompute s waits)), recompute_frame v, fun p => ?_, fun p cold => ?_,
      fun p heats => ?_, ?_⟩
    · rw [pan]
    · exact (alloc p).trans (allocOf_cold (s := v) cold _)
    · exact allocOf_spec listedV heats (alloc p).symm
    simp only [alloc]
    obtain ⟨hob, one, two⟩ := allocs_within listedV
    refine ⟨hob, one, two, ?_, fun before later p order => alloc_after listedV order, figures.trans (figuresOf_eq v), ?_, ?_, fun still => ?_⟩
    · rw [rebuilds]
      split
      · exact .inl rfl
      · exact .inr rfl
    · exact (recompute_cp v).trans (foldl_levelNotice_cp listedV rfl rfl)
    · rw [rebuilds]
      simp only [alloc] at same
      exact congrArg (s.posts.rebuilds + ·) (if_congr same rfl rfl)
    · simp only [alloc] at same
      refine same.mp (Decidable.byContradiction fun differs => ?_)
      rw [rebuilds, if_neg differs] at still
      exact Nat.succ_ne_self _ still
  · rw [eligible_iff, coilLimit, derate_eq_getD, classEntry_known class_]
    exact ⟨Iff.rfl, rfl⟩

end Sys2Proof.Machine
end

section
/-! START HOB and STOP HOB (R104, R115, R116). -/

namespace Sys2Proof.Machine

-- The default arguments `by decide` wait for the kernel: one declaration after the other holds few threads.
set_option Elab.async false

/-! ### What START HOB finds taken (R69, R70, R104) -/

/-- Taking a post of the Frame Engine touches the contexts, the request order list and the triggers. -/
theorem takeHobPost_frame (s : State) (e : HobPost) :
    takeHobPost s e =
      { s with
        pans := (takeHobPost s e).pans, hs := (takeHobPost s e).hs
        posts := { s.posts with triggers := (takeHobPost s e).posts.triggers } } := by
  have set (f : HeatPart → HeatPart) (clear : Bool) :
      let u := postHeatChanges s (changeContexts s f clear)
      u = { s with pans := u.pans, hs := u.hs, posts := { s.posts with triggers := u.posts.triggers } } := by
    rw [postHeatChanges_set]
    rfl
  cases e
  · exact set haltHeat true
  · exact set stopHeat true
  · exact set startHeat false

theorem takeHobPosts_frame (s : State) (es : List HobPost) :
    es.foldl takeHobPost s =
      { s with
        pans := (es.foldl takeHobPost s).pans, hs := (es.foldl takeHobPost s).hs
        posts := { s.posts with triggers := (es.foldl takeHobPost s).posts.triggers } } := by
  induction es generalizing s with
  | nil => rfl
  | cons e es ih =>
    rw [List.foldl_cons, ih, takeHobPost_frame]

/-- Nothing heats and no pan is listed. -/
def Cold (s : State) : Prop := s.hs.requests = [] ∧ ∀ p : PanSlot, s.pans[p].heat.state.heating = false

theorem cold_of_contextsSet {s : State} {f : HeatPart → HeatPart} (cold : ∀ p : PanSlot, (f s.pans[p].heat).state.heating = false) :
    Cold (contextsSet s f []) := by
  refine ⟨rfl, fun p => ?_⟩
  have pan : (contextsSet s f []).pans[p] = { s.pans[p] with heat := f s.pans[p].heat } := Vector.getElem_ofFn ..
  rw [pan]
  exact cold p

theorem takeHobPost_cold {s : State} (e : HobPost) (h : e = .halt ∨ e = .stop ∨ Cold s) : Cold (takeHobPost s e) := by
  cases e with
  | halt =>
    have taken : takeHobPost s .halt = contextsSet s haltHeat [] := postHeatChanges_set s haltHeat true
    exact taken ▸ cold_of_contextsSet fun p => haltHeat_cold _
  | stop =>
    have taken : takeHobPost s .stop = contextsSet s stopHeat [] := postHeatChanges_set s stopHeat true
    exact taken ▸ cold_of_contextsSet fun p => stopHeat_cold _
  | start =>
    obtain ⟨none, cold⟩ : Cold s := by simpa using h
    have started : takeHobPost s .start = contextsSet s startHeat [] := none ▸ postHeatChanges_set s startHeat false
    rw [started]
    exact cold_of_contextsSet fun p => (startHeat_same _).trans (cold p)

theorem takeHobPosts_cold (es : List HobPost) {s : State} (h : .halt ∈ es ∨ .stop ∈ es ∨ Cold s) : Cold (es.foldl takeHobPost s) := by
  induction es generalizing s with
  | nil => simpa using h
  | cons e es ih =>
    refine ih ?_
    rcases h with mem | mem | cold
    · exact (List.mem_cons.mp mem).elim (fun same => .inr (.inr (takeHobPost_cold e (.inl same.symm)))) .inl
    · exact (List.mem_cons.mp mem).elim (fun same => .inr (.inr (takeHobPost_cold e (.inr (.inl same.symm))))) fun later => .inr (.inl later)
    · exact .inr (.inr (takeHobPost_cold e (.inr (.inr cold))))

theorem finishHob_frame (s : State) :
    finishHob s =
      { s with
        pans := (finishHob s).pans, hs := (finishHob s).hs
        posts := { s.posts with hob := [], triggers := (finishHob s).posts.triggers } } :=
  takeHobPosts_frame (s.modPosts fun q => { q with hob := [] }) s.posts.hob

theorem recompute_cold {s : State} (h : Cold s) : Cold (recompute s) ∧ (recompute s).ba.figures.order = [] := by
  have requests : (recompute s).hs.requests = s.hs.requests := congrArg (fun u => u.hs.requests) (recompute_frame s)
  refine ⟨⟨requests.trans h.1, fun p => ?_⟩, ?_⟩
  · rw [recompute_pan]
    exact h.2 p
  · rw [recompute_figures]
    exact h.1

/-- R104: what START HOB finds taken leaves the frame engine, the tables, the clock and the order as they are. -/
theorem finishStop_frame (s : State) :
    let u := finishStop s
    u = { s with
          pans := u.pans, hs := u.hs, ba := u.ba
          posts := { s.posts with hob := [], triggers := u.posts.triggers, rebuilds := 0 }
          cp := { s.cp with notices := u.cp.notices, gap := u.cp.gap } } := by
  have hob := finishHob_frame s
  have budget := recompute_frame (finishHob s)
  dsimp only
  unfold finishStop
  dsimp only
  split
  · rw [hob]
    rfl
  · rw [budget, hob]
    rfl

theorem finishStop_cold {s : State} (h : .halt ∈ s.posts.hob ∨ .stop ∈ s.posts.hob ∨ Cold s) :
    (finishStop s).ba.figures.order = [] ∧ Cold (finishStop s) := by
  have cold : Cold (finishHob s) := takeHobPosts_cold s.posts.hob (s := s.modPosts fun q => { q with hob := [] }) h
  unfold finishStop
  dsimp only
  split
  · next none => exact ⟨none, cold⟩
  · exact ⟨(recompute_cold cold).2, (recompute_cold cold).1⟩

/-! ### The judgements -/

/-- R115: what an accepted START HOB leaves, before its status; `u` is the state in which the halts and stops before it are taken. -/
def hobStarted (u : State) : State :=
  { u with
    fe := { u.fe with
            f := u.ts.work.frameActive, q := u.ts.work.frameQuiet, freq := u.ts.work.nominalHz
            frameOpen := false, emitted := Vector.replicate 8 0, hob := .running, awaiting := true
            unlockTimer := if u.fe.lock = .locked then u.fe.unlockTimer else some u.now }
    pans := noneDelivered u
    posts := { u.posts with hob := u.posts.hob ++ [.start], scheduler := u.posts.scheduler ++ [.rebuild] }
    cp := { u.cp with silence := some u.now } }

/-- R115, R162: the steps of an accepted START HOB. -/
theorem hobStarted_eq (u : State) :
    followHob (postScheduler (postHob ((latch u).modFe fun fe =>
      { fe with hob := .running, awaiting := true, unlockTimer := if fe.lock = .locked then fe.unlockTimer else some u.now }) .start)
      .rebuild) = hobStarted u := by
  have running (v : State) (h : v.fe.hob = .running) : followHob v = { v with cp := { v.cp with silence := some v.now } } := by
    rw [followHob, if_pos h]
    rfl
  rw [latch, cutFrame_eq]
  unfold postScheduler postHob State.modFe State.modPosts
  rw [running _ (by rfl)]
  unfold hobStarted
  rfl

theorem judgeStart_accepts {s : State} (stopped : s.fe.hob = .stopped) (service : s.ts.service = false) (valid : s.ts.valid = true)
    (online : someBoardOnline s = true) : judgeStart s = endGood (hobStarted (finishStop s)) := by
  have still : ¬ (s.fe.hob ≠ .stopped) := not_not_intro stopped
  have inside : ¬ (s.ts.service = true) := ne_true_of_eq_false service
  have tables : ¬ (s.ts.valid = false) := ne_false_of_eq_true valid
  have lit : ¬ (someBoardOnline s = false) := ne_false_of_eq_true online
  have now : (finishStop s).now = s.now := (congrArg State.now (finishStop_frame s) :)
  rw [← hobStarted_eq, judgeStart, if_neg still, if_neg inside, if_neg tables, if_neg lit, now]

/-- R115: an accepted START HOB, by the state in which the halts and stops before it are taken. -/
theorem startHob_accepted {s : State} {t : Time} {tag : Byte} (stopped : s.fe.hob = .stopped) (service : s.ts.service = false)
    (valid : s.ts.valid = true) (online : ∃ b : BoardId, s.ts.work.t0[b].configured = true ∧ s.boards[b].state = .online) {u : State}
    (ready : finishStop (taken s t tag 6) = u) :
    judgeStart (taken s t tag 6) =
      endedGood
        { u with
          fe := { s.fe with
                  f := s.ts.work.frameActive, q := s.ts.work.frameQuiet, freq := s.ts.work.nominalHz
                  frameOpen := false, emitted := Vector.replicate 8 0, hob := .running, awaiting := true
                  unlockTimer := if s.fe.lock = .locked then s.fe.unlockTimer else some (max s.now t) }
          pans := noneDelivered u
          posts := { u.posts with hob := [.start], scheduler := s.posts.scheduler ++ [.rebuild] }
          cp := { u.cp with silence := some (max s.now t) } } tag := by
  have accepted := judgeStart_accepts (s := taken s t tag 6) stopped service valid ((someBoardOnline_iff _).mpr online)
  have frame := finishStop_frame (taken s t tag 6)
  dsimp only at frame
  rw [ready] at accepted frame
  have order : u.cp.order = (taken s t tag 6).cp.order := (congrArg (fun v : State => v.cp.order) frame :)
  have ended : endGood (hobStarted u) = endedGood (hobStarted u) tag := endGood_kept (s := taken s t tag 6) (o := ⟨6, tag, 0, 0, .plain⟩) rfl order
  have fe : u.fe = s.fe := (congrArg State.fe frame :)
  have ts : u.ts = s.ts := (congrArg State.ts frame :)
  have now : u.now = max s.now t := (congrArg State.now frame :)
  have hob : u.posts.hob = [] := (congrArg (fun v : State => v.posts.hob) frame :)
  have scheduler : u.posts.scheduler = s.posts.scheduler := (congrArg (fun v : State => v.posts.scheduler) frame :)
  rw [accepted, ended, hobStarted, fe, ts, now, hob, scheduler]
  rfl

/-- R115: a START HOB that is turned away, its first failing test deciding. -/
theorem startHob_refused (s : State) (t : Time) (tag : Byte) :
    (s.fe.hob ≠ .stopped → judgeStart (taken s t tag 6) = endedCheck (taken s t tag 6) tag .notPermitted 0 1) ∧
    (s.fe.hob = .stopped → s.ts.service = true → judgeStart (taken s t tag 6) = endedCheck (taken s t tag 6) tag .notPermitted 0 2) ∧
    (s.fe.hob = .stopped → s.ts.service = false → s.ts.valid = false →
      judgeStart (taken s t tag 6) = endedCheck (taken s t tag 6) tag .tableInvalid 0 3) ∧
    (s.fe.hob = .stopped → s.ts.service = false → s.ts.valid = true → someBoardOnline s = false →
      judgeStart (taken s t tag 6) = endedCheck (taken s t tag 6) tag .notPermitted 0 4) := by
  simp only [← endCheck_taken]
  unfold judgeStart
  refine ⟨fun running => if_pos running, fun stopped service => ?_, fun stopped service invalid => ?_, fun stopped service valid off => ?_⟩
  all_goals
    have still : ¬ ((taken s t tag 6).fe.hob ≠ .stopped) := not_not_intro stopped
    rw [if_neg still]
  · exact if_pos service
  · have inside : ¬ ((taken s t tag 6).ts.service = true) := ne_true_of_eq_false service
    rw [if_neg inside]
    exact if_pos invalid
  · have inside : ¬ ((taken s t tag 6).ts.service = true) := ne_true_of_eq_false service
    have tables : ¬ ((taken s t tag 6).ts.valid = false) := ne_false_of_eq_true valid
    rw [if_neg inside, if_neg tables]
    exact if_pos off

/-- R116: STOP HOB in RUNNING. -/
theorem stopHob_accepted {s : State} (t : Time) (tag : Byte) (running : s.fe.hob = .running) :
    judgeStop (taken s t tag 7) =
      endedGood
        { taken s t tag 7 with
          fe := { s.fe with hob := .stopped, unlockTimer := none, swapPending := false, emitted := Vector.replicate 8 0 }
          pans := noneDelivered s
          boards := allOff s
          posts := { s.posts with scheduler := s.posts.scheduler ++ [.discard], hob := s.posts.hob ++ [.stop] }
          cp := { (taken s t tag 7).cp with silence := none } } tag := by
  have left : judgeStop (taken s t tag 7) = endGood (leaveRunning (taken s t tag 7) .stopped .stop) := if_pos running
  rw [left, leaveRunning_eq _ .stopped .stop HobState.noConfusion]
  exact endGood_kept (s := taken s t tag 7) (o := ⟨7, tag, 0, 0, .plain⟩) rfl

/-- Settles O18: START HOB by the rows of R115, the loop over what it finds taken by its frame, STOP HOB by the hob state. -/
theorem startAndStopHobAreJudged : Obligations.StartAndStopHobAreJudged := by
  refine ⟨fun s t tag free => ?_, ⟨fun s hob order => finishStop_idle hob order, fun i s u settled head sent => ?_,
    fun e s u settled hob order sent => ?_, fun s => (congrArg (fun v : State => v.posts.rebuilds) (finishStop_frame s) :), fun s quiet => ?_⟩,
    fun s t tag free => ?_⟩
  · rw [exec_order free (.startHob t tag) t tag 6 judgeStart rfl]
    obtain ⟨running, service, tables, dark⟩ := startHob_refused s t tag
    refine ⟨fun h => congrArg _ (running h), fun h g => congrArg _ (service h g), fun h g f => congrArg _ (tables h g f),
      fun h g f off => congrArg _ (dark h g f (Bool.eq_false_iff.mpr fun some => ?_)),
      fun h g f online => congrArg _ (startHob_accepted h g f online rfl)⟩
    obtain ⟨b, configured, online⟩ := (someBoardOnline_iff s).mp some
    exact off b configured online
  · obtain ⟨e, rest, waits, act⟩ := heatHob_taken head
    rw [exec_settled settled] at sent
    cases sent
    rw [act]
    exact finishStop_cons waits
  · have act := action_recompute { s with posts := { s.posts with triggers := e :: s.posts.triggers } } rfl
    have settledE : Settled { s with posts := { s.posts with triggers := e :: s.posts.triggers } } := settled
    rw [exec_settled settledE, act] at sent
    cases sent
    rw [finishStop, finishHob_nil hob]
    dsimp only
    rw [if_neg order]
    rfl
  · obtain ⟨order, requests, cold⟩ := finishStop_cold quiet
    exact ⟨order, requests, cold⟩
  · rw [exec_order free (.stopHob t tag) t tag 7 judgeStop rfl]
    refine ⟨fun running => congrArg _ (stopHob_accepted t tag running), fun still => congrArg _ ?_⟩
    have refused : judgeStop (taken s t tag 7) = _ := if_neg still
    rw [refused]
    exact endCheck_kept (s := taken s t tag 7) (o := ⟨7, tag, 0, 0, .plain⟩) rfl ..

end Sys2Proof.Machine
end

section
/-! PLACE: the setpoint and the firing count of a pan, and the slots its firings go to (R94 to R97). -/

namespace Sys2Proof.Machine

-- The default arguments `by decide` wait for the kernel: one declaration after the other holds few threads.
set_option Elab.async false

/-! ### The tests of a slot (R96) -/

/-- R96: what a slot of the bank built keeps within. -/
structure SlotWithin (n : Snapshot) (slot : List Firing) : Prop where
  apart : slot.Pairwise fun x y => coilLeg x.coil ≠ coilLeg y.coil ∧ x.coil ≠ y.coil ∧ (x.pan = y.pan ∨ snapAdjacent n x.coil y.coil = false)
  phase : ∀ ph : Phase, setpoints (slot.filter fun x => n.phases[coilBoard x.coil] == ph) ≤ n.limit ph
  hob : setpoints slot ≤ n.limitHob

theorem SlotWithin.nil (n : Snapshot) : SlotWithin n [] := ⟨.nil, fun _ => Nat.zero_le _, Nat.zero_le _⟩

/-- R96: the five tests of a slot for a firing. -/
structure SlotPasses (n : Snapshot) (slot : List Firing) (k : CoilId) (p : PanSlot) (sp : Nat) : Prop where
  apart : ∀ x ∈ slot, coilLeg x.coil ≠ coilLeg k ∧ x.coil ≠ k ∧ (x.pan = p ∨ snapAdjacent n x.coil k = false)
  phase : setpoints (slot.filter fun x => n.phases[coilBoard x.coil] == n.phases[coilBoard k]) + sp ≤ n.limit n.phases[coilBoard k]
  hob : setpoints slot + sp ≤ n.limitHob

theorem slotFits_iff (n : Snapshot) (slot : List Firing) (k : CoilId) (p : PanSlot) (sp : Nat) :
    slotFits n slot k p sp = true ↔ SlotPasses n slot k p sp := by
  simp only [slotFits, Bool.and_eq_true, List.all_eq_true, bne_iff_ne, Bool.or_eq_true, beq_iff_eq, Bool.not_eq_true', decide_eq_true_eq]
  exact ⟨fun ⟨⟨⟨⟨legs, coils⟩, pans⟩, phase⟩, hob⟩ => ⟨fun x mem => ⟨legs x mem, coils x mem, pans x mem⟩, phase, hob⟩,
    fun ⟨apart, phase, hob⟩ =>
      ⟨⟨⟨⟨fun x mem => (apart x mem).1, fun x mem => (apart x mem).2.1⟩, fun x mem => (apart x mem).2.2⟩, phase⟩, hob⟩⟩

/-- R96: a slot that passes for a firing takes it. -/
theorem SlotWithin.append {n : Snapshot} {slot : List Firing} (h : SlotWithin n slot) {k : CoilId} {p : PanSlot} {sp : Nat}
    (passes : SlotPasses n slot k p sp) : SlotWithin n (slot ++ [⟨k, p, sp⟩]) where
  apart := List.pairwise_append.mpr ⟨h.apart, List.pairwise_singleton .., fun x mem y last => List.mem_singleton.mp last ▸ passes.apart x mem⟩
  phase ph := by
    rw [List.filter_append, setpoints_append]
    by_cases here : n.phases[coilBoard k] = ph
    · subst here
      rw [List.filter_singleton, beq_self_eq_true, cond_true, setpoints_one]
      exact passes.phase
    · have other : (n.phases[coilBoard k] == ph) = false := beq_eq_false_iff_ne.mpr here
      rw [List.filter_singleton, other]
      exact h.phase ph
  hob := by
    rw [setpoints_append, setpoints_one]
    exact passes.hob

/-! ### The bank built -/

/-- R89, R96: every slot of a bank of `f` slots keeps within the limits. -/
def BankWithin (n : Snapshot) (bank : Bank) : Prop := bank.length = n.f ∧ ∀ slot ∈ bank, SlotWithin n slot

theorem BankWithin.slot {n : Snapshot} {bank : Bank} (h : BankWithin n bank) (i : Nat) : SlotWithin n (bank.getD i []) := by
  rw [List.getD_eq_getElem?_getD]
  cases held : bank[i]? with
  | none => exact .nil n
  | some slot => exact h.2 slot (List.mem_of_getElem? held)

theorem findSlot_passes {n : Snapshot} {bank : Bank} {k : CoilId} {p : PanSlot} {sp cursor i : Nat}
    (found : findSlot n bank k p sp cursor = some i) : SlotPasses n (bank.getD i []) k p sp :=
  (slotFits_iff ..).mp (List.find?_some (p := fun i => slotFits n (bank.getD i []) k p sp) found)

theorem dealOne_spec {n : Snapshot} {p : SnapPan} {d : Dealing} (h : BankWithin n d.bank) (turn : Nat) :
    BankWithin n (dealOne n p d turn).bank ∧ (dealOne n p d turn).placed ≤ d.placed + 1 := by
  unfold dealOne
  dsimp only
  split
  · exact ⟨h, Nat.le_succ _⟩
  · split
    · exact ⟨h, Nat.le_succ _⟩
    · next e _ i found =>
      refine ⟨⟨(List.length_set ..).trans h.1, fun slot mem => ?_⟩, Nat.le_refl _⟩
      rcases List.mem_or_eq_of_mem_set mem with old | new
      · exact h.2 slot old
      · exact new ▸ (h.slot i).append (findSlot_passes found)

theorem dealTurns_spec {n : Snapshot} {p : SnapPan} (turns : List Nat) {d : Dealing} (h : BankWithin n d.bank) :
    BankWithin n (turns.foldl (dealOne n p) d).bank ∧ (turns.foldl (dealOne n p) d).placed ≤ d.placed + turns.length := by
  induction turns generalizing d with
  | nil => exact ⟨h, Nat.le_refl _⟩
  | cons turn turns ih =>
    obtain ⟨within, more⟩ := dealOne_spec (p := p) h turn
    obtain ⟨after, count⟩ := ih within
    refine ⟨after, ?_⟩
    rw [List.foldl_cons, List.length_cons]
    omega

theorem dealPan_spec {n : Snapshot} {bank : Bank} (h : BankWithin n bank) (p : SnapPan) :
    BankWithin n (dealPan n bank p).bank ∧ (dealPan n bank p).placed ≤ firingCount n.f p := by
  obtain ⟨within, count⟩ := dealTurns_spec (p := p) (List.range (firingCount n.f p)) (d := ⟨bank, startCursors n.f p, 0⟩) h
  rw [List.length_range, Nat.zero_add] at count
  exact ⟨within, count⟩

/-- R94, R97: the bank keeps within the limits, and each pan's placed and dropped firings make up its firing count. -/
theorem placeAll_spec {n : Snapshot} (pans : List SnapPan) {bank : Bank} (h : BankWithin n bank) (rs : List BuildResult) :
    BankWithin n (placeAll n (bank, rs) pans).1 ∧
      ((placeAll n (bank, rs) pans).2.map fun r => (r.pan, r.setpoint, r.placed + r.dropped)) =
        (rs.map fun r => (r.pan, r.setpoint, r.placed + r.dropped)) ++ pans.map fun p => (p.pan, setpointOf p, firingCount n.f p) := by
  induction pans generalizing bank rs with
  | nil => exact ⟨h, (List.append_nil _).symm⟩
  | cons p pans ih =>
    obtain ⟨within, count⟩ := dealPan_spec h p
    obtain ⟨after, results⟩ := ih within
      (rs ++ [⟨p.pan, setpointOf p, (dealPan n bank p).placed, firingCount n.f p - (dealPan n bank p).placed⟩])
    refine ⟨after, results.trans ?_⟩
    rw [List.map_append, List.append_assoc, List.map_cons, List.map_nil, List.map_cons, Nat.add_sub_cancel' count]
    rfl

theorem emptyBank_within (n : Snapshot) : BankWithin n (List.replicate n.f []) :=
  ⟨List.length_replicate, fun _ mem => (List.eq_of_mem_replicate mem).symm ▸ SlotWithin.nil n⟩

/-! ### The setpoint (R94) -/

theorem foldl_min_eq {low : Nat} (limits : List Nat) {share : Nat} (least : low ≤ share) (below : ∀ x ∈ limits, low ≤ x)
    (one : low = share ∨ low ∈ limits) : limits.foldl min share = low := by
  induction limits generalizing share with
  | nil => exact (one.resolve_right List.not_mem_nil).symm
  | cons x limits ih =>
    have first := below x (List.mem_cons_self ..)
    refine ih (by omega) (fun y mem => below y (List.mem_cons_of_mem _ mem)) ?_
    rcases one with same | mem
    · exact .inl (by omega)
    · rcases List.mem_cons.mp mem with same | later
      · exact .inl (by omega)
      · exact .inr later

/-! ### The slot a firing goes to (R96) -/

theorem snapAdjacent_false_iff (n : Snapshot) (j k : CoilId) :
    snapAdjacent n j k = false ↔ ∀ e ∈ n.neighbours, ¬ (e.1 = j ∧ k ∈ e.2) ∧ ¬ (e.1 = k ∧ j ∈ e.2) := by
  simp [snapAdjacent, not_or]

theorem findSlot_first {n : Snapshot} {bank : Bank} {k : CoilId} {p : PanSlot} {sp cursor i : Nat} (low : i < n.f)
    (passes : SlotPasses n (bank.getD ((cursor + i) % n.f) []) k p sp)
    (first : ∀ j : Nat, j < i → ¬ SlotPasses n (bank.getD ((cursor + j) % n.f) []) k p sp) :
    findSlot n bank k p sp cursor = some ((cursor + i) % n.f) := by
  have found : (List.range n.f).find? (fun j => slotFits n (bank.getD ((cursor + j) % n.f) []) k p sp) = some i := by
    refine List.find?_range_eq_some.mpr ⟨(slotFits_iff ..).mpr passes, List.mem_range.mpr low, fun j less => ?_⟩
    exact (Bool.not_eq_true' _).mpr (Bool.eq_false_iff.mpr fun fits => first j less ((slotFits_iff ..).mp fits))
  rw [findSlot, List.find?_map]
  exact congrArg (Option.map fun i => (cursor + i) % n.f) found

theorem findSlot_none {n : Snapshot} {bank : Bank} {k : CoilId} {p : PanSlot} {sp cursor : Nat}
    (fails : ∀ j : Nat, j < n.f → ¬ SlotPasses n (bank.getD ((cursor + j) % n.f) []) k p sp) :
    findSlot n bank k p sp cursor = none := by
  rw [findSlot, List.find?_eq_none]
  intro i mem fits
  obtain ⟨j, range, rfl⟩ := List.mem_map.mp mem
  exact fails j (List.mem_range.mp range) ((slotFits_iff ..).mp fits)

theorem placeComplete_place {s : State} {n : Snapshot} (stage : s.ss.stage = .place) (snapshot : s.ss.snapshot = some n) :
    placeComplete s =
      { s with
        ss := { standbySet s (placeAll n (List.replicate n.f [], []) n.pans).1 with
                stage := .check, cursors := none, results := some (placeAll n (List.replicate n.f [], []) n.pans).2 } } := by
  unfold placeComplete
  rw [stage, snapshot]
  dsimp only
  rw [setStandby_eq]
  rfl

theorem placeComplete_other {s : State} (stage : s.ss.stage ≠ .place) : placeComplete s = s := by
  unfold placeComplete
  split
  · next place _ => exact absurd place stage
  · rfl

/-- R96: the deal of one firing, by the first slot that passes. -/
theorem dealOne_eq {n : Snapshot} {p : SnapPan} (d : Dealing) {turn : Nat} {k : CoilId} {limit : Nat}
    (member : p.eligible[turn % p.eligible.length]? = some (k, limit)) :
    dealOne n p d turn =
      match findSlot n d.bank k p.pan (setpointOf p) (d.cursors.getD (turn % p.eligible.length) 0) with
      | none => d
      | some i =>
        { bank := d.bank.set i (d.bank.getD i [] ++ [⟨k, p.pan, setpointOf p⟩])
          cursors := d.cursors.set (turn % p.eligible.length) ((i + 1) % n.f), placed := d.placed + 1 } := by
  unfold dealOne
  dsimp only
  rw [member] <;> rfl

/-- Settles O46: the bank by what each deal keeps, the setpoint as the least of its bounds, the slot as the first that passes. -/
theorem placedBanksPassTheirTests : Obligations.PlacedBanksPassTheirTests := by
  refine ⟨⟨fun s n settled stage snapshot => ?_, fun s settled stage => ?_, fun n => ?_⟩, fun n bank rs p rest => ⟨rfl, rfl, rfl⟩,
    fun f p => ⟨fun low one least below => ?_, fun none => if_pos none, fun some pan sp => if_neg ?_⟩, fun n p d turn k limit => ?_⟩
  · exact (exec_settled settled _).trans (congrArg _ (placeComplete_place stage snapshot))
  · exact (exec_settled settled _).trans (congrArg _ (placeComplete_other stage))
  · obtain ⟨⟨length, slots⟩, results⟩ := placeAll_spec n.pans (emptyBank_within n) []
    exact ⟨length, fun slot mem => ⟨(slots slot mem).apart, (slots slot mem).phase, (slots slot mem).hob⟩, results⟩
  · have bounds : ∀ x ∈ p.eligible.map (·.2), low ≤ x := fun x mem => by
      obtain ⟨e, member, rfl⟩ := List.mem_map.mp mem
      exact below e member
    rw [setpointOf, foldl_min_eq (p.eligible.map (·.2)) least bounds one]
  · exact fun none => none.elim some fun rest => rest.elim pan sp
  · intro m sp place slot passes member
    have passes_iff (i : Nat) : passes i ↔ SlotPasses n (slot i) k p.pan sp := by
      have same : (fun x : Firing => n.phases[coilBoard x.coil] == n.phases[coilBoard k]) =
          fun x => decide (n.phases[coilBoard x.coil] = n.phases[coilBoard k]) := rfl
      have limit : n.limit n.phases[coilBoard k] = match n.phases[coilBoard k] with | .l1 => n.limit1 | .l2 => n.limit2 := by
        cases n.phases[coilBoard k] <;> rfl
      constructor
      · rintro ⟨apart, phase, hob⟩
        refine ⟨fun x mem => ?_, ?_, hob⟩
        · obtain ⟨legs, coils, pans⟩ := apart x mem
          exact ⟨legs, coils, pans.imp_right (snapAdjacent_false_iff ..).mpr⟩
        · rw [same, limit]
          exact phase
      · rintro ⟨apart, phase, hob⟩
        refine ⟨fun x mem => ?_, ?_, hob⟩
        · obtain ⟨legs, coils, pans⟩ := apart x mem
          exact ⟨legs, coils, pans.imp_right (snapAdjacent_false_iff ..).mp⟩
        · rw [same, limit] at phase
          exact phase
    refine ⟨fun i low pass first => ?_, fun none => ?_⟩
    · have found := findSlot_first low ((passes_iff i).mp pass) fun j less c => first j less ((passes_iff j).mpr c)
      rw [dealOne_eq d member, found]
    · have missing := findSlot_none fun j low c => none j low ((passes_iff j).mpr c)
      rw [dealOne_eq d member, missing]

end Sys2Proof.Machine
end

section
/-! The rise and the fall across V_op (R122, R135, R138, R153, R176). -/

namespace Sys2Proof.Machine

-- The default arguments `by decide` wait for the kernel: one declaration after the other holds few threads.
set_option Elab.async false

/-! ### What neither reads nor changes the supply and the posts -/

theorem queueNotice_apartFrom (s : State) (x : Supply) (q : Posts) (kind : NoticeKind) (subject : Byte) (first second : Nat) :
    queueNotice { s with sup := x, posts := q } kind subject first second =
      { queueNotice s kind subject first second with sup := x, posts := q } := by
  have whole := (queueNotice_onlyNotices s kind subject first second).cp
  rw [queueNotice_as (s := s) (t := { s with sup := x, posts := q }) rfl rfl]
  exact congrArg (fun u : State => { u with sup := x, posts := q }) whole.symm

theorem protective_apartFrom (s : State) (x : Supply) (q : Posts) (kind : FaultKind) :
    protective { s with sup := x, posts := q } kind none none none 0 = { protective s kind none none none 0 with sup := x, posts := q } := by
  unfold protective
  split
  · rfl
  · unfold capture
    cases fault : (trap s kind).pu.firstFault with
    | none =>
      have same : (trap { s with sup := x, posts := q } kind).pu.firstFault = none := fault
      rw [same]
      rfl
    | some r =>
      have same : (trap { s with sup := x, posts := q } kind).pu.firstFault = some r := fault
      rw [same]
      rfl

theorem takeHalted_apartFrom (s : State) (x : Supply) (q : Posts) (c : HaltCause) :
    takeHalted { s with sup := x, posts := q } c = { takeHalted s c with sup := x, posts := q } := by
  unfold takeHalted
  rw [← queueNotice_apartFrom]
  cases fault : s.pu.firstFault with
  | some r =>
    rw [capture_held (s := { s with sup := x, posts := q }) fault, capture_held fault]
    rfl
  | none =>
    rw [capture_empty (s := { s with sup := x, posts := q }) fault, capture_empty fault]
    rfl

theorem takeHalted_posts (s : State) (c : HaltCause) : (takeHalted s c).posts = s.posts :=
  (congrArg State.posts (takeHalted_apartFrom s s.sup s.posts c) :)

theorem takeHalted_withSup (s : State) (x : Supply) (c : HaltCause) : takeHalted { s with sup := x } c = { takeHalted s c with sup := x } :=
  (takeHalted_apartFrom s x s.posts c).trans
    (congrArg (fun q => ({ takeHalted s c with sup := x, posts := q } : State)) (takeHalted_posts s c).symm)

theorem takeHalted_withPosts (s : State) (q : Posts) (c : HaltCause) :
    takeHalted { s with posts := q } c = { takeHalted s c with posts := q } := by
  have sup : (takeHalted s c).sup = s.sup := (congrArg State.sup (takeHalted_apartFrom s s.sup s.posts c) :)
  exact (takeHalted_apartFrom s s.sup q c).trans (congrArg (fun x => ({ takeHalted s c with sup := x, posts := q } : State)) sup.symm)

theorem protective_posts (s : State) (kind : FaultKind) : (protective s kind none none none 0).posts = s.posts :=
  (congrArg State.posts (protective_apartFrom s s.sup s.posts kind) :)

theorem protective_withSup (s : State) (x : Supply) (kind : FaultKind) :
    protective { s with sup := x } kind none none none 0 = { protective s kind none none none 0 with sup := x } := by
  exact (protective_apartFrom s x s.posts kind).trans
    (congrArg (fun q => ({ protective s kind none none none 0 with sup := x, posts := q } : State)) (protective_posts s kind).symm)

theorem foldl_withSup {α : Type} {f : State → α → State} {x : Supply} (h : ∀ v a, f { v with sup := x } a = { f v a with sup := x })
    (as : List α) (s : State) : as.foldl f { s with sup := x } = { as.foldl f s with sup := x } := by
  induction as generalizing s with
  | nil => rfl
  | cons a as ih => rw [List.foldl_cons, h, ih, List.foldl_cons]

/-! ### What a return to READY finds taken (R117, R135, R138) -/

/-- R138: the entry to HALTED at the head of those that wait is taken first. -/
theorem finishHalted_cons {s : State} {c : HaltCause} {rest : List HaltCause} (waits : s.posts.halted = c :: rest) :
    finishHalted s = finishHalted (takeHalted { s with posts := { s.posts with halted := rest } } c) := by
  unfold finishHalted
  simp only [takeHalted_withPosts, State.modPosts, waits, List.foldl_cons]

theorem finishHalted_withSup (s : State) (x : Supply) : finishHalted { s with sup := x } = { finishHalted s with sup := x } :=
  foldl_withSup (fun v c => takeHalted_withSup v x c) s.posts.halted (s.modPosts fun q => { q with halted := [] })

/-- R117, R122: a hob RUNNING in SUPPLY LOW is HALTED by the first halt that waits for it. -/
theorem finishHalt_low {s : State} (low : s.sup.hub = .supplyLow) (runs : s.fe.hob = .running) {c : HaltCause} {rest : List HobClaim}
    (first : (s.posts.hobClaims ++ s.posts.haltCauses.map HobClaim.halt).dropWhile (· == HobClaim.clear) = .halt c :: rest ∨
      ((s.posts.hobClaims ++ s.posts.haltCauses.map HobClaim.halt).dropWhile (· == HobClaim.clear) = [] ∧ c = .supply ∧ rest = [])) :
    finishHalt s =
      { s with
        fe := { s.fe with hob := .halted, unlockTimer := none, swapPending := false, emitted := Vector.replicate 8 0 }
        pans := noneDelivered s
        posts := { s.posts with
                   haltCauses := [], hobClaims := rest, scheduler := s.posts.scheduler ++ [.discard], hob := s.posts.hob ++ [.halt]
                   halted := s.posts.halted ++ [c] }
        cp := { s.cp with silence := none } } := by
  let claims : List HobClaim := s.posts.hobClaims ++ s.posts.haltCauses.map HobClaim.halt
  let v : State := { s with posts := { s.posts with haltCauses := [], hobClaims := claims } }
  have off : allOff s = s.boards := by
    unfold allOff
    simp [low]
  have halts : takeHalt (v.modPosts fun q => { q with hobClaims := rest }) c = _ :=
    (if_pos (by exact runs)).trans (congrArg (postHalted · c) (leaveRunning_eq _ .halted .halt (by decide)))
  have taken : takeFirstHalt v = takeHalt (v.modPosts fun q => { q with hobClaims := rest }) c := by
    have waits : v.posts.hobClaims = claims := rfl
    unfold takeFirstHalt
    rcases first with halt | ⟨none, rfl, rfl⟩
    · rw [waits, ((firstHalt_eq claims).1 c rest).mpr halt]
    · rw [waits, (firstHalt_eq claims).2.mpr none]
  have boards : allOff (v.modPosts fun q => { q with hobClaims := rest }) = s.boards := off
  rw [finishHalt, if_pos runs, finishCauses_running runs]
  refine taken.trans (halts.trans ?_)
  rw [boards]
  rfl

/-- The first halt of the claims, or SUPPLY without one. -/
theorem firstHalt_cases (claims : List HobClaim) :
    ∃ c rest, claims.dropWhile (· == HobClaim.clear) = .halt c :: rest ∨
      (claims.dropWhile (· == HobClaim.clear) = [] ∧ c = .supply ∧ rest = []) := by
  cases first : firstHalt claims with
  | none => exact ⟨.supply, [], .inr ⟨(firstHalt_eq claims).2.mp first, rfl, rfl⟩⟩
  | some e => exact ⟨e.1, e.2, .inl (((firstHalt_eq claims).1 e.1 e.2).mp first)⟩

theorem finishHalt_stopped {s : State} (stopped : s.fe.hob = .stopped) :
    finishHalt s =
      s.posts.haltCauses.foldl (fun v c => protective v c.kind none none none 0) { s with posts := { s.posts with haltCauses := [] } } := by
  have still : ¬ s.fe.hob = .running := fun c => HobState.noConfusion (stopped.symm.trans c)
  rw [finishHalt, if_neg still, finishCauses_stopped stopped]

theorem finishHalt_ignored {s : State} (halted : s.fe.hob = .halted) :
    finishHalt s = { s with posts := { s.posts with haltCauses := [] } } := by
  have still : ¬ s.fe.hob = .running := fun c => HobState.noConfusion (halted.symm.trans c)
  rw [finishHalt, if_neg still, finishCauses_halted halted]

/-- In SUPPLY LOW what a return to READY finds taken reads nothing of the supply but the hub state. -/
theorem finishHalt_withSup {s : State} {x : Supply} (low : s.sup.hub = .supplyLow) (hub : x.hub = .supplyLow) :
    finishHalt { s with sup := x } = { finishHalt s with sup := x } := by
  cases hob : s.fe.hob with
  | running =>
    obtain ⟨c, rest, first⟩ := firstHalt_cases (s.posts.hobClaims ++ s.posts.haltCauses.map HobClaim.halt)
    rw [finishHalt_low low hob first, finishHalt_low (s := { s with sup := x }) hub hob first]
    rfl
  | stopped =>
    rw [finishHalt_stopped hob, finishHalt_stopped (s := { s with sup := x }) hob]
    exact foldl_withSup (fun v c => protective_withSup v x c.kind) s.posts.haltCauses { s with posts := { s.posts with haltCauses := [] } }
  | halted =>
    rw [finishHalt_ignored hob, finishHalt_ignored (s := { s with sup := x }) hob]

/-! ### The rise (R176) -/

/-- R176: what the return to READY leaves, `v` being the state in which what the fall posted is taken. -/
def readyAgain (s v : State) : State :=
  { v with
    sup := { s.sup with level := .aboveOp, hub := .ready, seenReleased := s.sup.seenReleased || !s.sup.resetLine }
    boards := Vector.ofFn fun b =>
      if s.boards[b].state = .waiting then { s.boards[b] with txIdent := true, deadline := none } else s.boards[b] }

theorem resumeCensus_eq (port : BoardPort) :
    resumeCensus port = if port.state = .waiting then { port with txIdent := true, deadline := none } else port := by
  unfold resumeCensus beginCensus
  split
  · next waiting => rw [← waiting]
  · rfl

theorem riseOp_low {s v : State} (level : s.sup.level = .belowOp) (low : s.sup.hub = .supplyLow)
    (taken : ∀ x : Supply, finishDiscard { finishHalted (finishHalt s) with sup := x } = { v with sup := x }) : riseOp s = readyAgain s v := by
  let x : Supply := { s.sup with level := .aboveOp, seenReleased := s.sup.seenReleased || !s.sup.resetLine }
  have met : finishHalted (finishHalt { s with sup := x }) = { finishHalted (finishHalt s) with sup := x } := by
    rw [finishHalt_withSup (x := x) low low, finishHalted_withSup]
  have risen : riseOp s =
      { (finishDiscard (finishHalted (finishHalt { s with sup := x }))).modSup (fun u => { u with hub := .ready }) with
        boards := Vector.ofFn fun b => resumeCensus s.boards[b] } := (if_pos level).trans (if_pos low)
  rw [risen, met, taken]
  simp only [resumeCensus_eq]
  rfl

theorem finishDiscard_none {h : State} (free : .discard ∉ h.posts.scheduler) (x : Supply) :
    finishDiscard { h with sup := x } = { h with sup := x } := finishDiscard_idle (s := { h with sup := x }) free

theorem finishDiscard_last {h : State} {front rest : List SchedulerPost} (waits : h.posts.scheduler = front ++ .discard :: rest)
    (last : .discard ∉ rest) (x : Supply) : finishDiscard { h with sup := x } = { discardTaken h rest with sup := x } :=
  finishDiscard_eq (s := { h with sup := x }) waits last

/-- R176: the rise of a hub that is not in SUPPLY LOW. -/
theorem riseOp_dormant {s : State} (level : s.sup.level = .belowOp) (dormant : s.sup.hub = .dormant) :
    riseOp s = tryRecall { s with sup := { s.sup with level := .aboveOp, seenReleased := s.sup.seenReleased || !s.sup.resetLine } } := by
  have other : ¬ s.sup.hub = .supplyLow := fun c => HubState.noConfusion (dormant.symm.trans c)
  exact (if_pos level).trans (if_neg other)

/-! ### The fall (R174 to R176) -/

/-- R176: what a fall from READY leaves but for the store. -/
def supplyLost (s : State) : State :=
  { s with
    sup := { s.sup with level := .belowOp, hub := .supplyLow }
    boardLines := Vector.ofFn fun b =>
      if s.boards[b].state = .online then some (offNowCell (Vector.replicate 4 true)) else s.boardLines[b]
    boards := Vector.ofFn fun b =>
      { s.boards[b] with
        txOffNow := none, txDrive := none, txIdent := false, slot := none, serial := none
        deadline := if s.boards[b].state = .waiting then none else s.boards[b].deadline }
    fe := { s.fe with emitted := Vector.replicate 8 0, frameOpen := false }
    pans := noneDelivered s
    posts := { s.posts with haltCauses := s.posts.haltCauses ++ [.supply] } }

theorem fallOp_ready {s : State} (level : s.sup.level = .aboveOp) (ready : s.sup.hub = .ready) : fallOp s = stopStore (supplyLost s) := by
  have low : enterSupplyLow { s with sup := { s.sup with level := .belowOp } } = stopStore (supplyLost s) := by
    rw [enterSupplyLow, cutFrame_eq]
    rfl
  rw [fallOp, if_pos level, ready]
  exact low

/-- Settles O7: the rise by the hub state and what the fall posted, the fall by the hub state and the store. -/
theorem supplyAcrossVOp : Obligations.SupplyAcrossVOp := by
  refine ⟨⟨fun s settled level hub line => ?_, fun s settled level hub line => ?_, fun s settled level low => ?_, fun s low => ?_,
    fun s none => finishHalted_nil none, fun s u settled some sent => ?_, fun s settled level => ?_⟩, fun s settled level ready => ?_,
    fun s settled level hub => ?_, fun s settled level hub => ?_, fun s settled level => ?_⟩
  · rw [exec_settled settled]
    refine congrArg _ ((riseOp_dormant level hub).trans ((if_pos ⟨hub, rfl, line⟩).trans ?_))
    rw [line, Bool.not_false, Bool.or_true]
    rfl
  · rw [exec_settled settled]
    refine congrArg _ ((riseOp_dormant level hub).trans ((if_neg fun c => ?_).trans ?_))
    · exact Bool.noConfusion (line.symm.trans c.2.2)
    · rw [line, Bool.not_true, Bool.or_false]
  · intro back h
    rw [exec_settled settled]
    exact ⟨fun free => congrArg _ (riseOp_low level low (finishDiscard_none free)),
      fun front rest waits last => congrArg _ (riseOp_low level low (finishDiscard_last waits last))⟩
  · exact ⟨fun c rest runs first => finishHalt_low low runs first, finishHalt_stopped, finishHalt_ignored⟩
  · obtain ⟨c, rest, waits⟩ := List.exists_cons_of_ne_nil some
    have taken : action .hobEnteredHalted s = takeHalted { s with posts := { s.posts with halted := rest } } c := by
      change (match s.posts.halted with | c :: rest => _ | [] => s) = _
      rw [waits]
      rfl
    rw [exec_settled settled, taken] at sent
    cases sent
    exact finishHalted_cons waits
  · rw [exec_settled settled]
    exact congrArg _ (if_neg fun c => SupplyLevel.noConfusion (level.symm.trans c))
  · intro low
    have fallen : action .supplyFallBelowVOp s = stopStore low := fallOp_ready level ready
    rw [exec_settled settled, fallen]
    refine ⟨fun none still => ?_, fun commits => congrArg _ (if_pos commits), fun o none recalling order => ?_⟩
    · have idle : ¬ low.ts.commit.isSome = true := by simp [low, none]
      exact congrArg _ ((if_neg idle).trans (if_neg (ne_true_of_eq_false still)))
    · have idle : ¬ low.ts.commit.isSome = true := by simp [low, none]
      refine congrArg _ ((if_neg idle).trans ((if_pos recalling).trans ?_))
      exact endCheck_kept (s := s) order ..
  · rw [exec_settled settled]
    change Host.Outcome.next (fallOp s) = _
    rw [fallOp, if_pos level, hub]
    rfl
  · rw [exec_settled settled]
    change Host.Outcome.next (fallOp s) = _
    rw [fallOp, if_pos level, hub]
    rfl
  · rw [exec_settled settled]
    exact congrArg _ (if_neg fun c => SupplyLevel.noConfusion (level.symm.trans c))

end Sys2Proof.Machine
end

section
/-! The reading of the cells that carry the commands (sections 11.2, 11.3, 11.6; R178 to R180). -/

namespace Sys2Proof.Machine

-- The default arguments `by decide` wait for the kernel: one declaration after the other holds few threads.
set_option Elab.async false

theorem mkCell_kind (kind second : Byte) (p : Payload) : (mkCell kind second p)[0] = kind := by simp [mkCell]

theorem mkCell_second (kind second : Byte) (p : Payload) : (mkCell kind second p)[1] = second := by simp [mkCell]

theorem mkCell_payload (kind second : Byte) (p : Payload) {i : Nat} (h : i + 2 < 16) (low : i < 12) : (mkCell kind second p)[i + 2] = p[i] := by
  have same := congrArg (fun q : Payload => q[i]) (Laws.payloadOf_mkCell kind second p)
  simpa [payloadOf] using same

/-- R178: a cell the hub's layouts make is read by its kind. -/
theorem readCell_controller (t : Time) (strap : Bool) (kind second : Byte) (p : Payload) :
    readCell .controller t strap (mkCell kind second p) =
      match kind.toNat with
      | 0x01 => some (readOrder t strap second p)
      | 0x02 => some (.data t second p)
      | 0x03 => some (.heat t second p[0] p[1])
      | 0x04 => some (.abort t second)
      | 0x05 => some (.keepalive t)
      | _ => none := by
  have first : (mkCell kind second p)[2] = p[0] := mkCell_payload kind second p (i := 0) (by decide) (by decide)
  have next : (mkCell kind second p)[3] = p[1] := mkCell_payload kind second p (i := 1) (by decide) (by decide)
  rw [readCell, if_pos (Laws.checkHolds_mkCell ..)]
  simp only [mkCell_kind, mkCell_second, Laws.payloadOf_mkCell, first, next] <;> rfl

theorem readCell_sense (t : Time) (strap : Bool) (b : BoardId) (second : Byte) (p : Payload) (defined : (readSense second p).defined = true) :
    readCell (.board b) t strap (mkCell 0x31 second p) = some (.sense b (readSense second p)) := by
  rw [readCell, if_pos (Laws.checkHolds_mkCell ..)]
  simp only [mkCell_kind, mkCell_second, Laws.payloadOf_mkCell]
  exact if_pos defined

theorem readCell_ident (t : Time) (strap : Bool) (b : BoardId) (second : Byte) (p : Payload) (defined : (readIdent p).defined = true) :
    readCell (.board b) t strap (mkCell 0x32 second p) = some (.ident b t (readIdent p)) := by
  rw [readCell, if_pos (Laws.checkHolds_mkCell ..)]
  simp only [mkCell_kind, Laws.payloadOf_mkCell]
  exact if_pos defined

theorem readCell_order (t : Time) (strap : Bool) (tag code : Byte) (params : List Byte) :
    readCell .controller t strap (orderCell tag code params) = some (readOrder t strap tag (payload (code :: params))) :=
  readCell_controller ..

/-! ### The fields of a layout -/

theorem split24 (v : BitVec 24) : v.extractLsb' 16 8 ++ v.extractLsb' 8 8 ++ v.extractLsb' 0 8 = v := by
  have high : v.extractLsb' 16 8 ++ v.extractLsb' 8 8 = v.extractLsb' 8 16 := by
    refine BitVec.eq_of_getLsbD_eq fun i low => ?_
    simp only [BitVec.getLsbD_append, BitVec.getLsbD_extractLsb']
    grind
  rw [high]
  refine BitVec.eq_of_getLsbD_eq fun i low => ?_
  simp only [BitVec.getLsbD_append, BitVec.getLsbD_extractLsb']
  grind

/-- Section 11.6: the material, hold and trip fields share a byte. -/
theorem flags_split (m : BitVec 4) (hold trip : Bool) :
    let byte : Byte := m ++ 0#2 ++ BitVec.ofBool hold ++ BitVec.ofBool trip
    byte.extractLsb' 4 4 = m ∧ byte.getLsbD 1 = hold ∧ byte.getLsbD 0 = trip := by
  revert m hold trip
  decide

theorem readSense_payload (c : SenseCell) :
    readSense c.serial (payload
      [c.leg, c.mode, c.selector, c.fine.extractLsb' 8 8, c.fine.extractLsb' 0 8, c.coarse.extractLsb' 8 8,
        c.coarse.extractLsb' 0 8, c.delivered.extractLsb' 8 8, c.delivered.extractLsb' 0 8, c.temp,
        c.material ++ 0#2 ++ BitVec.ofBool c.hold ++ BitVec.ofBool c.trip, c.heatsink]) = c := by
  obtain ⟨material, hold, trip⟩ := flags_split c.material c.hold c.trip
  simp only [readSense, payload_get, List.getD_cons_zero, List.getD_cons_succ, Laws.split16, material, hold, trip]

theorem readIdent_payload (c : IdentCell) : readIdent (payload [c.typeCode, c.legs, c.coils, c.diagnosis]) = c := by
  simp only [readIdent, payload_get, List.getD_cons_zero, List.getD_cons_succ]

/-- R179: a code that names no order is read as an illegal order. -/
theorem readOrder_illegal (t : Time) (strap : Bool) (tag code : Byte) (h : code.toNat = 0 ∨ 22 < code.toNat) :
    readOrder t strap tag (payload [code]) = .illegalOrder t tag code := by
  have first : (payload [code])[0] = code := payload_get ..
  unfold readOrder
  rw [first]
  split
  case h_23 => rfl
  all_goals omega

/-- Settles O54: each cell by its kind, each order by its code and the fields of its layout. -/
theorem cellsReadBack : Obligations.CellsReadBack := by
  intro i link cell wf made
  cases i
  case illegalOrder t tag code =>
    cases made
    have undefined : code.toNat = 0 ∨ 22 < code.toNat := by simpa [Instr.wf] using wf
    exact (readCell_order ..).trans (congrArg some (readOrder_illegal t _ tag code undefined))
  case data t tag p =>
    cases made
    exact readCell_controller ..
  case heat t h a l =>
    cases made
    rw [readCell_controller]
    simp only [payload_get]
    rfl
  case abort t tag =>
    cases made
    exact readCell_controller ..
  case keepalive t =>
    cases made
    exact readCell_controller ..
  case sense b c =>
    cases made
    have read := readSense_payload c
    rw [readCell_sense _ _ _ _ _ (read.symm ▸ wf), read]
  case ident b t c =>
    cases made
    have read := readIdent_payload c
    rw [readCell_ident _ _ _ _ _ (read.symm ▸ wf), read]
    rfl
  all_goals cases made
  all_goals
    refine (readCell_order ..).trans (congrArg some ?_)
    simp [readOrder, Laws.split16, split24, timeOf, strapOf, orderParts]

end Sys2Proof.Machine
end

section
/-! The examinations and the orphan service, one after the other (R26, R33). -/

namespace Sys2Proof.Machine

-- The default arguments `by decide` wait for the kernel: one declaration after the other holds few threads.
set_option Elab.async false

/-- R27: what an examination can do. -/
theorem examine_cases {motive : State → Prop} (s : State) (k : CoilId) (stays : motive s) (leaves : motive (leaveOrphans s k))
    (joins : ∀ p : PanSlot, waiting s k = true → motive (joinPan (leaveOrphans s k) k p))
    (orphaned : waiting s k = true → firstFree s = none → s.pt.liftOrder = [] → motive (addOrphan s k))
    (founds : ∀ p : PanSlot, waiting s k = true → firstFree s = some p → motive (foundAt s k p))
    (evicts : ∀ (p : PanSlot) (later : List PanSlot), waiting s k = true → firstFree s = none → s.pt.liftOrder = p :: later →
      motive (foundAt (retire s p .evicted) k p)) : motive (examine s k) := by
  unfold examine
  split
  · exact stays
  · next waits =>
    rw [Bool.not_eq_false] at waits
    split
    · split
      · exact stays
      · unfold found
        split
        · next p free => exact founds p waits free
        · next full =>
          split
          · next p later order => exact evicts p later waits full order
          · next none => exact orphaned waits full none
    · split
      · split
        · exact joins _ waits
        · exact leaves
      · exact leaves

/-! ### The examination queue (R26) -/

/-- R26: a queue that can be emptied with two bounds is emptied alike. -/
theorem drain_enough (n m : Nat) {s : State} (once : QueuedOnce s) (first : examinationsLeft s ≤ n) (second : examinationsLeft s ≤ m) :
    drain n s = drain m s := by
  induction n generalizing m s with
  | zero =>
    have none : s.pt.examQueue = [] := by
      unfold examinationsLeft at first
      exact List.eq_nil_of_length_eq_zero (by omega)
    cases m with
    | zero => rfl
    | succ m => rw [drain, drain, none]
  | succ n ih =>
    cases m with
    | zero =>
      have none : s.pt.examQueue = [] := by
        unfold examinationsLeft at second
        exact List.eq_nil_of_length_eq_zero (by omega)
      rw [drain, drain, none]
    | succ m =>
      unfold drain
      split
      · rfl
      · next k rest queue =>
        have less := examine_left once queue
        exact ih m (examine_once (popped_once once queue) k) (by omega) (by omega)

theorem examinationsLeft_le {s : State} (once : QueuedOnce s) : examinationsLeft s ≤ 4224 := by
  have coils : (waitingCoils s).length ≤ 64 := once_length ((List.nodup_finRange 64).filter _)
  have queue := once_length once
  unfold examinationsLeft
  omega

theorem emptyQueue_nil {s : State} (none : s.pt.examQueue = []) : emptyQueue s = s := by
  rw [emptyQueue, drain, none]

/-- R26: the head of the queue is examined first. -/
theorem emptyQueue_cons {s : State} {k : CoilId} {rest : List CoilId} (queue : s.pt.examQueue = k :: rest) (once : QueuedOnce s) :
    emptyQueue s = emptyQueue (examine { s with pt := { s.pt with examQueue := rest } } k) := by
  have less := examine_left once queue
  have few := examinationsLeft_le once
  have first : drain 4225 s = drain 4224 (examine { s with pt := { s.pt with examQueue := rest } } k) := by
    rw [drain, queue]
    rfl
  rw [emptyQueue, first]
  exact drain_enough 4224 4225 (examine_once (popped_once once queue) k) (Nat.le_trans (Nat.le_of_lt less) few)
    (Nat.le_trans (Nat.le_of_lt less) (Nat.le_trans few (Nat.le_succ _)))

/-- What every examination keeps the emptying of the queue keeps. -/
theorem drain_keeps {P : State → Prop} (pops : ∀ (v : State) (rest : List CoilId), P v → P { v with pt := { v.pt with examQueue := rest } })
    (examines : ∀ (v : State) (k : CoilId), P v → P (examine v k)) (n : Nat) {s : State} (h : P s) : P (drain n s) := by
  induction n generalizing s with
  | zero => exact h
  | succ n ih =>
    unfold drain
    split
    · exact h
    · exact ih (examines _ _ (pops s _ h))

/-! ### The orphan service (R33) -/

theorem firstFree_none_iff (s : State) : firstFree s = none ↔ ∀ p : PanSlot, s.pans[p].pres.presence ≠ .free := by
  simp [firstFree, allPans]

/-! ### Foundings and joinings, in one piece (R28, R30) -/

theorem areaOf_one (s : State) (k : CoilId) : areaOf s [k] = s.coils[k].coverage := by simp [areaOf]

theorem centroidOf_one (s : State) (k : CoilId) (coord : T1Entry → Nat) : centroidOf s [k] coord = coord s.ts.work.t1[k] := by
  rw [centroidOf, areaOf_one]
  split
  · simp [-Fin.getElem_fin]
  · next some => simp [-Fin.getElem_fin, Nat.mul_div_cancel_left _ (Nat.pos_of_ne_zero some)]

theorem materialOfPan_one (s : State) (k : CoilId) : materialOfPan s [k] = s.coils[k].material := by
  have held (m : Material) : holders s [k] m = if s.coils[k].material = m then 1 else 0 := by
    rw [holders, List.filter_singleton]
    by_cases same : s.coils[k].material = m
    · rw [if_pos same, same, beq_self_eq_true]
      rfl
    · have other : (s.coils[k].material == m) = false := beq_eq_false_iff_ne.mpr same
      rw [if_neg same, other]
      rfl
  simp only [materialOfPan, List.foldl_cons, List.foldl_nil, held]
  cases s.coils[k].material <;> decide

theorem waitingAround_kept {s u : State} {k : CoilId} (tables : u.ts = s.ts) (others : ∀ j : CoilId, j ≠ k → u.coils[j] = s.coils[j]) :
    waitingAround u k = waitingAround s k := by
  have near : neighbours u k = neighbours s k := by rw [neighbours, neighbours, tables]
  rw [waitingAround, waitingAround, near]
  refine List.filter_congr fun j mem => ?_
  have other : j ≠ k := by
    have listed := (List.mem_filter.mp mem).2
    simp only [Bool.and_eq_true, bne_iff_ne] at listed
    exact listed.1
  rw [waiting, waiting, others j other]

theorem joinClaim_eq {s : State} {k : CoilId} (sensed : s.coils[k].occupancy = .sensed) (p : PanSlot) :
    joinClaim s k p = { s with coils := s.coils.set k { s.coils[k] with occupancy := .member, owner := some p } } := if_pos (.inl sensed)

/-- The state of a founding before its figures. -/
theorem foundAt_ready {r : State} {k : CoilId} (sensed : r.coils[k].occupancy = .sensed) (p : PanSlot) :
    enqueueAround (refigure ((joinClaim r k p).modPres p fun q =>
      { PresencePart.freed (q.gen + 1) with presence := .forming, members := [k], changed := true }) p) k = foundedIn r k p := by
  rw [joinClaim_eq sensed]
  let pres : PresencePart := { PresencePart.freed (r.pans[p].pres.gen + 1) with presence := .forming, members := [k], changed := true }
  let t : State :=
    { r with
      coils := r.coils.set k { r.coils[k] with occupancy := .member, owner := some p }
      pans := r.pans.set p { r.pans[p] with pres := pres } }
  change enqueueAround (refigure t p) k = _
  have pan : t.pans[p] = { r.pans[p] with pres := pres } := (Laws.set_get ..).trans (if_pos rfl)
  have coil : t.coils[k] = { r.coils[k] with occupancy := .member, owner := some p } := (Laws.set_get ..).trans (if_pos rfl)
  have coverage : t.coils[k].coverage = r.coils[k].coverage := (congrArg CoilRecord.coverage coil :)
  have material : t.coils[k].material = r.coils[k].material := (congrArg CoilRecord.material coil :)
  have figures : figured t p =
      { pres with
        x := r.ts.work.t1[k].x, y := r.ts.work.t1[k].y, area := r.coils[k].coverage, material := r.coils[k].material } := by
    rw [figured, pan]
    change (if [k] = [] then _ else _) = _
    rw [if_neg (List.cons_ne_nil k []), centroidOf_one, centroidOf_one, areaOf_one, materialOfPan_one, coverage, material]
  have quiet (m : Material) : materialPost t p m = [] := by
    rw [materialPost, pan]
    exact if_neg fun c => Bool.false_ne_true c.1
  have around : waitingAround { t with pans := t.pans.set p { t.pans[p] with pres := figured t p }, posts := { t.posts with pans := t.posts.pans } } k =
      waitingAround r k := waitingAround_kept rfl fun j other => (Laws.set_get ..).trans (if_neg (Ne.symm other))
  have set (x : PanRecord) : t.pans.set p x = r.pans.set p x := Vector.set_set ..
  rw [refigure_eq, quiet, List.append_nil, enqueueAround_eq, around, figures, pan, set]
  rfl

/-- R28: the coil that founds is a member of the pan, which is FORMING with the figures of the one member. -/
theorem foundAt_eq {s : State} {k : CoilId} (waits : waiting s k = true) (p : PanSlot) : foundAt s k p = foundedIn (readySlot s p) k p := by
  have waits' : waiting (readySlot s p) k = true := (waiting_kept (readySlot_touches s p) k).trans waits
  exact foundAt_ready ((waiting_iff _ k).mp waits').1 p

theorem standing_moved (r : Presence) : (if r = .placed then Presence.moving else r).standing = r.standing := by cases r <;> rfl

/-- R30: the coil that joins is a member of the pan, whose settling begins anew. -/
theorem joinPan_eq {s : State} {k : CoilId} (waits : waiting s k = true) (p : PanSlot) : joinPan (leaveOrphans s k) k p = joinedTo s k p := by
  have sensed : (leaveOrphans s k).coils[k].occupancy = .sensed := ((waiting_iff s k).mp waits).1
  let pres : PresencePart :=
    { s.pans[p].pres with
      members := insertCoil k s.pans[p].pres.members, settle := 0, changed := true
      presence := if s.pans[p].pres.presence = .placed then .moving else s.pans[p].pres.presence }
  let grown : State :=
    { leaveOrphans s k with
      coils := s.coils.set k { s.coils[k] with occupancy := .member, owner := some p }
      pans := s.pans.set p { s.pans[p] with pres := pres } }
  have pan : grown.pans[p] = { s.pans[p] with pres := pres } := (Laws.set_get ..).trans (if_pos rfl)
  have joined : joinPan (leaveOrphans s k) k p =
      enqueueAround (if s.pans[p].pres.presence.standing then postMembership (refigure grown p) p else refigure grown p) k := by
    rw [joinPan, joinClaim_eq sensed]
    rfl
  have post : materialPost grown p (figured grown p).material = materialPost s p (figured grown p).material := by
    rw [materialPost, pan]
    change (if (if s.pans[p].pres.presence = .placed then Presence.moving else s.pans[p].pres.presence).standing = true ∧ _ then _ else _) = _
    rw [standing_moved]
    rfl
  have set (x : PanRecord) : grown.pans.set p x = s.pans.set p x := Vector.set_set ..
  let told : State :=
    { grown with
      pans := s.pans.set p { s.pans[p] with pres := figured grown p }
      posts := { s.posts with pans := s.posts.pans ++ materialPost s p (figured grown p).material } }
  have refigured : refigure grown p = told := by
    rw [refigure_eq, post, pan, set]
    rfl
  have around (u : State) (tables : u.ts = s.ts) (coils : u.coils = grown.coils) : waitingAround u k = waitingAround s k :=
    waitingAround_kept tables fun j other => coils ▸ (Laws.set_get ..).trans (if_neg (Ne.symm other))
  rw [joined, refigured]
  cases standing : s.pans[p].pres.presence.standing with
  | true =>
    rw [if_pos rfl, enqueueAround_eq, around (postMembership told p) rfl rfl]
    simp only [joinedTo, standing, if_true]
    rfl
  | false =>
    rw [if_neg Bool.false_ne_true, enqueueAround_eq, around told rfl rfl]
    simp only [joinedTo, standing, Bool.false_eq_true, if_false, List.append_nil]
    rfl

theorem examine_still {s : State} {k : CoilId} (still : waiting s k = false) : examine s k = s := if_pos still

/-! ### The rows of an examination (R27) -/

theorem foldl_max_le_iff (f : PanSlot → Nat) (ps : List PanSlot) (a b : Nat) :
    ps.foldl (fun n p => max n (f p)) a ≤ b ↔ a ≤ b ∧ ∀ p ∈ ps, f p ≤ b := by
  induction ps generalizing a with
  | nil => simp
  | cons p ps ih => simp [ih, and_assoc]

theorem bestCount_le_iff (s : State) (k : CoilId) (n : Nat) : bestCount s k ≤ n ↔ ∀ q : PanSlot, neighbourCount s k q ≤ n := by
  simp [bestCount, foldl_max_le_iff, allPans]

theorem bestCount_zero_iff (s : State) (k : CoilId) : bestCount s k = 0 ↔ ∀ q : PanSlot, neighbourCount s k q = 0 := by
  simp only [← Nat.le_zero, bestCount_le_iff]

theorem bestCount_eq {s : State} {k : CoilId} {p : PanSlot} (best : ∀ q : PanSlot, neighbourCount s k q ≤ neighbourCount s k p) :
    bestCount s k = neighbourCount s k p :=
  Nat.le_antisymm ((bestCount_le_iff ..).mpr best) ((bestCount_le_iff s k _).mp (Nat.le_refl _) p)

theorem mem_leaders {s : State} {k : CoilId} {p : PanSlot} (best : ∀ q : PanSlot, neighbourCount s k q ≤ neighbourCount s k p) (q : PanSlot) :
    q ∈ leaders s k ↔ neighbourCount s k q = neighbourCount s k p := by
  simp [leaders, allPans, bestCount_eq best]

/-- R27: one pan has strictly the most. -/
theorem leaders_one {s : State} {k : CoilId} {p : PanSlot} (most : ∀ q : PanSlot, q ≠ p → neighbourCount s k q < neighbourCount s k p) :
    leaders s k = [p] := by
  have single : ∀ p : PanSlot, allPans.filter (fun q => decide (q = p)) = [p] := by decide
  have best (q : PanSlot) : neighbourCount s k q ≤ neighbourCount s k p := by
    by_cases same : q = p
    · rw [same]
    · exact Nat.le_of_lt (most q same)
  rw [← single p, leaders, bestCount_eq best]
  refine List.filter_congr fun q _ => Bool.eq_iff_iff.mpr ?_
  rw [beq_iff_eq, decide_eq_true_eq]
  exact ⟨fun same => Decidable.byContradiction fun other => Nat.ne_of_lt (most q other) same, fun same => by rw [same]⟩

theorem firstFree_eq {s : State} {p : PanSlot} (free : s.pans[p].pres.presence = .free) (first : ∀ q : PanSlot, q < p → s.pans[q].pres.presence ≠ .free) :
    firstFree s = some p := by
  refine List.find?_eq_some_iff_getElem.mpr ⟨beq_iff_eq.mpr free, p.val, by simp [allPans], List.getElem_finRange .., fun j less => ?_⟩
  have other := first ⟨j, Nat.lt_trans less p.isLt⟩ less
  simpa [allPans, -Fin.getElem_fin] using other

theorem firstFree_none {s : State} (full : ∀ q : PanSlot, s.pans[q].pres.presence ≠ .free) : firstFree s = none := (firstFree_none_iff s).mpr full

theorem examine_alone {s : State} {k : CoilId} (waits : waiting s k = true) (alone : ∀ q : PanSlot, neighbourCount s k q = 0) :
    examine s k = if k ∈ s.pt.orphans then s else found s k := by
  have wakes : ¬ waiting s k = false := ne_false_of_eq_true waits
  rw [examine, if_neg wakes, if_pos ((bestCount_zero_iff s k).mpr alone)]
  simp only [List.contains_iff_mem]

theorem examine_near {s : State} {k : CoilId} {p : PanSlot} (waits : waiting s k = true) (near : 0 < neighbourCount s k p) :
    examine s k =
      match leaders s k with
      | [p] => if s.pans[p].pres.members.length < 12 then joinPan (leaveOrphans s k) k p else leaveOrphans s k
      | _ => leaveOrphans s k := by
  have wakes : ¬ waiting s k = false := ne_false_of_eq_true waits
  have some : ¬ bestCount s k = 0 := fun none => Nat.ne_of_gt near ((bestCount_zero_iff s k).mp none p)
  rw [examine, if_neg wakes, if_neg some] <;> rfl

end Sys2Proof.Machine
end

section
/-! The orphan service and the seconds of grace (R33, R45, R46). -/

namespace Sys2Proof.Machine

-- The default arguments `by decide` wait for the kernel: one declaration after the other holds few threads.
set_option Elab.async false

theorem pres_kept {l : List Part} {s u : State} (t : Touches l s u) (p : PanSlot) (a : Part.members ∉ l := by decide)
    (b : Part.figures ∉ l := by decide) : u.pans[p].pres = s.pans[p].pres := by
  obtain ⟨presence, members⟩ := Prod.mk.inj (congrFun (t.kept .members a) p)
  have figures : ({ u.pans[p].pres with presence := .free, members := [] } : PresencePart) =
      { s.pans[p].pres with presence := .free, members := [] } := congrFun (t.kept .figures b) p
  generalize u.pans[p].pres = x at presence members figures
  generalize s.pans[p].pres = y at presence members figures
  cases x
  cases y
  cases presence
  cases members
  cases figures
  rfl

theorem foundedIn_pan (r : State) (k : CoilId) (p q : PanSlot) :
    (foundedIn r k p).pans[q] =
      if p = q then
        { r.pans[p] with
          pres := { gen := r.pans[p].pres.gen + 1, presence := .forming, members := [k], x := r.ts.work.t1[k].x
                    y := r.ts.work.t1[k].y, area := r.coils[k].coverage, material := r.coils[k].material
                    settle := 0, changed := true, signature := none, liftedAt := none, grace := none } }
      else r.pans[q] := Laws.set_get ..

/-- The figures of a pan are its coordinates, area and material. -/
theorem figured_eq (s : State) (p : PanSlot) :
    figured s p =
      { s.pans[p].pres with
        x := (figured s p).x, y := (figured s p).y, area := (figured s p).area, material := (figured s p).material } := by
  unfold figured
  split <;> rfl

/-- R30: a coil has joined a pan's members; its figures are not yet computed. -/
def grownBy (s : State) (k : CoilId) (p : PanSlot) : State :=
  { s with
    coils := s.coils.set k { s.coils[k] with occupancy := .member, owner := some p }
    pans := s.pans.set p
      { s.pans[p] with
        pres := { s.pans[p].pres with
                  members := insertCoil k s.pans[p].pres.members, settle := 0, changed := true
                  presence := if s.pans[p].pres.presence = .placed then .moving else s.pans[p].pres.presence } } }

theorem joinedTo_pan (s : State) (k : CoilId) (p q : PanSlot) :
    (joinedTo s k p).pans[q] = if p = q then { s.pans[p] with pres := figured (grownBy s k p) p } else s.pans[q] := Laws.set_get ..

theorem grownBy_pres (s : State) (k : CoilId) (p : PanSlot) :
    (grownBy s k p).pans[p].pres =
      { s.pans[p].pres with
        members := insertCoil k s.pans[p].pres.members, settle := 0, changed := true
        presence := if s.pans[p].pres.presence = .placed then .moving else s.pans[p].pres.presence } :=
  congrArg PanRecord.pres ((Laws.set_get s.pans p p _).trans (if_pos rfl))

/-- R30: what the coil that joins leaves of the pan's presence part. -/
theorem joinedTo_pres (s : State) (k : CoilId) (p : PanSlot) :
    figured (grownBy s k p) p =
      { figured (grownBy s k p) p with
        gen := s.pans[p].pres.gen, members := insertCoil k s.pans[p].pres.members, settle := 0, changed := true
        presence := if s.pans[p].pres.presence = .placed then .moving else s.pans[p].pres.presence
        signature := s.pans[p].pres.signature, liftedAt := s.pans[p].pres.liftedAt, grace := s.pans[p].pres.grace } := by
  have shape := figured_eq (grownBy s k p) p
  rw [grownBy_pres] at shape
  generalize figured (grownBy s k p) p = g at shape
  rw [shape]

/-! ### No examination frees a slot -/

theorem foundedIn_free {r : State} {k : CoilId} {p q : PanSlot} (free : (foundedIn r k p).pans[q].pres.presence = .free) :
    q ≠ p ∧ r.pans[q].pres.presence = .free := by
  rw [foundedIn_pan] at free
  by_cases here : p = q
  · rw [if_pos here] at free
    exact Presence.noConfusion free
  · rw [if_neg here] at free
    exact ⟨Ne.symm here, free⟩

theorem joinedTo_free {s : State} {k : CoilId} {p q : PanSlot} (free : (joinedTo s k p).pans[q].pres.presence = .free) :
    s.pans[q].pres.presence = .free := by
  rw [joinedTo_pan] at free
  by_cases here : p = q
  · rw [if_pos here] at free
    have presence : (figured (grownBy s k p) p).presence = .free := free
    rw [joinedTo_pres] at presence
    subst here
    change (if s.pans[p].pres.presence = .placed then Presence.moving else s.pans[p].pres.presence) = .free at presence
    split at presence
    · exact Presence.noConfusion presence
    · exact presence
  · rwa [if_neg here] at free

theorem foundAt_free {s : State} {k : CoilId} {p q : PanSlot} (waits : waiting s k = true) (free : (foundAt s k p).pans[q].pres.presence = .free) :
    q ≠ p ∧ s.pans[q].pres.presence = .free := by
  rw [foundAt_eq waits] at free
  obtain ⟨other, free⟩ := foundedIn_free free
  exact ⟨other, (congrArg PresencePart.presence (pres_kept (readySlot_touches s p) q)).symm.trans free⟩

theorem retired_pan (s : State) (p : PanSlot) (reason : Reason) (q : PanSlot) :
    (retired s p reason).pans[q] = if p = q then { s.pans[p] with pres := .freed s.pans[p].pres.gen } else s.pans[q] := Laws.set_get ..

/-- R27: the slots that are FREE after an examination were so before. -/
theorem examine_free (s : State) (k : CoilId) (q : PanSlot) (free : (examine s k).pans[q].pres.presence = .free) :
    s.pans[q].pres.presence = .free := by
  refine examine_cases (motive := fun u => u.pans[q].pres.presence = .free → s.pans[q].pres.presence = .free) s k id id
    (fun p waits h => ?_) (fun _ _ _ h => ?_) (fun p waits _ h => (foundAt_free waits h).2) (fun p later waits _ _ h => ?_) free
  · rw [joinPan_eq waits] at h
    exact joinedTo_free h
  · rwa [pres_kept (addOrphan_touches s k)] at h
  · have waits' : waiting (retire s p .evicted) k = true := (waiting_kept (retire_touches s p .evicted) k).trans waits
    obtain ⟨other, free⟩ := foundAt_free waits' h
    rwa [retire_eq, retired_pan, if_neg (Ne.symm other)] at free

/-! ### What is left to serve (R33) -/

/-- While orphans are served: no slot is FREE, or the orphans are among `ks`. -/
def ServingOnly (ks : List CoilId) (v : State) : Prop := firstFree v = none ∨ v.pt.orphans ⊆ ks

theorem foundAt_orphans {s : State} {k : CoilId} (waits : waiting s k = true) (p : PanSlot) : (foundAt s k p).pt.orphans = s.pt.orphans := by
  rw [foundAt_eq waits]
  exact (readySlot_touches s p).kept .orphans

/-- R31: with no slot FREE an examination may add an orphan; else it adds none. -/
theorem examine_orphans (s : State) (k : CoilId) : firstFree s = none ∨ (examine s k).pt.orphans ⊆ s.pt.orphans := by
  have fewer : s.pt.orphans.filter (· ≠ k) ⊆ s.pt.orphans := fun j mem => (List.mem_filter.mp mem).1
  refine examine_cases (motive := fun u => firstFree s = none ∨ u.pt.orphans ⊆ s.pt.orphans) s k (.inr (List.Subset.refl _)) (.inr fewer)
    (fun p waits => .inr ?_) (fun _ full _ => .inl full) (fun p waits _ => .inr ?_) (fun p later _ full _ => .inl full)
  · rw [joinPan_eq waits]
    exact fewer
  · rw [foundAt_orphans waits]
    exact List.Subset.refl _

theorem examine_full {s : State} (full : firstFree s = none) (k : CoilId) : firstFree (examine s k) = none := by
  rw [firstFree_none_iff] at full ⊢
  exact fun q free => full q (examine_free s k q free)

theorem examine_servingOnly {ks : List CoilId} {v : State} (h : ServingOnly ks v) (k : CoilId) : ServingOnly ks (examine v k) := by
  rcases h with full | few
  · exact .inl (examine_full full k)
  · exact (examine_orphans v k).imp (fun full => examine_full full k) fun fewer => List.Subset.trans fewer few

/-- The orphans that a FREE slot can still be found for, each once. -/
def orphansLeft (s : State) : Nat := if firstFree s = none then 0 else s.pt.orphans.toFinset.card

theorem orphansLeft_le (s : State) : orphansLeft s ≤ 64 := by
  unfold orphansLeft
  split
  · exact Nat.zero_le _
  · exact (Finset.card_le_univ _).trans (by simp)

theorem served_left {s : State} {k : CoilId} {rest : List CoilId} {p : PanSlot} (orphans : s.pt.orphans = k :: rest)
    (free : firstFree s = some p) : orphansLeft (emptyQueue (examine (leaveOrphans s k) k)) < orphansLeft s := by
  let ks : List CoilId := s.pt.orphans.filter (· ≠ k)
  have mem : k ∈ s.pt.orphans.toFinset := by simp [orphans]
  have some : orphansLeft s = s.pt.orphans.toFinset.card := if_neg (by simp [free])
  have only : ServingOnly ks (emptyQueue (examine (leaveOrphans s k) k)) :=
    drain_keeps (P := ServingOnly ks) (fun v rest h => h) (fun v j h => examine_servingOnly h j) 4225
      (examine_servingOnly (v := leaveOrphans s k) (.inr (List.Subset.refl _)) k)
  generalize emptyQueue (examine (leaveOrphans s k) k) = u at only
  rw [some, orphansLeft]
  split
  · exact Finset.card_pos.mpr ⟨k, mem⟩
  · next open_ =>
    have few := only.resolve_left open_
    refine Finset.card_lt_card ⟨fun j listed => ?_, fun all => ?_⟩
    · exact List.mem_toFinset.mpr (List.mem_filter.mp (few (List.mem_toFinset.mp listed))).1
    · have again := few (List.mem_toFinset.mp (all mem))
      simp [ks] at again

theorem serve_enough (n m : Nat) {s : State} (first : orphansLeft s ≤ n) (second : orphansLeft s ≤ m) : serve n s = serve m s := by
  have idle {v : State} (none : orphansLeft v = 0) (j : Nat) : serve j v = v := by
    cases j with
    | zero => rfl
    | succ j =>
      unfold serve
      split
      · next k rest p orphans free =>
        have less := served_left orphans free
        omega
      · rfl
  induction n generalizing m s with
  | zero => rw [idle (Nat.le_zero.mp first), idle (Nat.le_zero.mp first)]
  | succ n ih =>
    cases m with
    | zero => rw [idle (Nat.le_zero.mp second), idle (Nat.le_zero.mp second)]
    | succ m =>
      unfold serve
      split
      · next k rest p orphans free =>
        have less := served_left orphans free
        exact ih m (by omega) (by omega)
      · rfl

theorem serveOrphans_idle {s : State} (h : s.pt.orphans = [] ∨ ∀ p : PanSlot, s.pans[p].pres.presence ≠ .free) : serveOrphans s = s := by
  rw [serveOrphans, serve]
  split
  · next k rest p orphans free =>
    rcases h with none | full
    · exact nomatch none.symm.trans orphans
    · exact nomatch (firstFree_none full).symm.trans free
  · rfl

/-- R33: the lowest orphan is served first. -/
theorem serveOrphans_cons {s : State} {k : CoilId} {rest : List CoilId} {p : PanSlot} (orphans : s.pt.orphans = k :: rest)
    (free : s.pans[p].pres.presence = .free) : serveOrphans s = serveOrphans (emptyQueue (examine (leaveOrphans s k) k)) := by
  have open_ : firstFree s ≠ none := fun full => (firstFree_none_iff s).mp full p free
  obtain ⟨q, first⟩ := Option.ne_none_iff_exists'.mp open_
  have less := served_left orphans first
  have few := orphansLeft_le s
  have served : serve 64 s = serve 63 (emptyQueue (examine (leaveOrphans s k) k)) := by
    rw [serve, orphans, first]
  rw [serveOrphans, served]
  exact serve_enough 63 64 (by omega) (by omega)

/-! ### Grace (R45, R46) -/

/-- R45: what a second leaves of a record's grace. -/
def graceLeft (r : PresencePart) : Option Nat := if r.presence = .lifted then r.grace.map (· - 1) else r.grace

theorem graceTick_eq (r : PresencePart) : graceTick r = { r with grace := graceLeft r } := by
  unfold graceTick graceLeft
  split <;> rfl

theorem panSecond_eq (s : State) :
    panSecond s =
      { s with
        pans := Vector.ofFn fun p => { s.pans[p] with pres := { s.pans[p].pres with grace := graceLeft s.pans[p].pres } }
        pt := { s.pt with graceDue := allPans.filter fun p => decide (s.pans[p].pres.presence = .lifted ∧ graceLeft s.pans[p].pres = some 0) } } := by
  let t : State := s.modPans fun _ r => { r with pres := graceTick r.pres }
  have due : graceOver t = fun p : PanSlot => decide (s.pans[p].pres.presence = .lifted ∧ graceLeft s.pans[p].pres = some 0) := funext fun p => by
    have pan : t.pans[p] = _ := State.modPans_get ..
    rw [graceOver, pan, graceTick_eq]
    refine Bool.eq_iff_iff.mpr ?_
    simp only [Bool.and_eq_true, beq_iff_eq, decide_eq_true_eq]
  have ticked : panSecond s = t.modPt fun l => { l with graceDue := allPans.filter (graceOver t) } := rfl
  have pans : t = { s with pans := Vector.ofFn fun p => { s.pans[p] with pres := { s.pans[p].pres with grace := graceLeft s.pans[p].pres } } } := by
    simp only [t, State.modPans, graceTick_eq]
  rw [ticked, due, pans]
  rfl

theorem graceOver_iff (s : State) (p : PanSlot) : graceOver s p = true ↔ s.pans[p].pres.presence = .lifted ∧ s.pans[p].pres.grace = some 0 := by
  simp only [graceOver, Bool.and_eq_true, beq_iff_eq]

theorem expireGrace_over {s : State} {p : PanSlot} {rest : List PanSlot} (due : s.pt.graceDue = p :: rest)
    (lifted : s.pans[p].pres.presence = .lifted) (out : s.pans[p].pres.grace = some 0) :
    expireGrace s = serveOrphans (retired { s with pt := { s.pt with graceDue := rest } } p .grace) := by
  rw [expireGrace, due]
  dsimp only
  rw [if_pos ((graceOver_iff s p).mpr ⟨lifted, out⟩), retire_eq]
  rfl

/-- Settles O43: the second by what it leaves of each record, the retirement by the head of the tail, the service orphan by orphan. -/
theorem graceRunsOut : Obligations.GraceRunsOut := by
  refine ⟨⟨fun s settled none => ?_, fun s settled some => ?_, fun s on none => ?_, fun s p rest on due lifted out orphans => ?_⟩,
    fun s p rest on due => ⟨fun over_ => ?_, fun early => ?_⟩, fun s idle => serveOrphans_idle idle,
    fun s k rest p queue orphans free => serveOrphans_cons orphans free⟩
  · exact (exec_settled settled _).trans (congrArg _ (if_pos none))
  · intro left
    have taken : action .panTrackerOneSecond s = panSecond (popSecond s) := if_neg some.ne'
    rw [exec_settled settled, taken, popSecond_eq, panSecond_eq]
    rfl
  · have taken : exec .graceExpiry s = .next (expireGrace s) := congrArg _ (if_neg on)
    rw [taken, expireGrace, none]
  · have taken : exec .graceExpiry s = .next (expireGrace s) := congrArg _ (if_neg on)
    have none : (retired { s with pt := { s.pt with graceDue := rest } } p .grace).pt.orphans = [] := orphans
    have told := queueNotice_as (s := s) (t := { s with pt := { s.pt with graceDue := rest } }) rfl rfl .panRetired (s.handleOf p) 0 0
    have whole := (queueNotice_onlyNotices s .panRetired (s.handleOf p) 0 0).cp
    have handle : ({ s with pt := { s.pt with graceDue := rest } } : State).handleOf p = s.handleOf p := rfl
    have code : Reason.grace.code = 0 := rfl
    rw [taken, expireGrace_over due lifted out, serveOrphans_idle (.inl none), retired, handle, code, told, whole]
  · have taken : exec .graceExpiry s = .next (expireGrace s) := congrArg _ (if_neg on)
    rw [taken, expireGrace_over due over_.1 over_.2]
  · have taken : exec .graceExpiry s = .next (expireGrace s) := congrArg _ (if_neg on)
    rw [taken, expireGrace, due]
    exact congrArg _ (if_neg fun c => early ((graceOver_iff s p).mp c))

end Sys2Proof.Machine
end

section
/-! Becoming SENSED: foundings, joinings and orphans (R23, R26 to R32). -/

namespace Sys2Proof.Machine

-- The default arguments `by decide` wait for the kernel: one declaration after the other holds few threads.
set_option Elab.async false

/-! ### The slot a pan is founded in (R28, R67, R72) -/

theorem takePanPost_waits {s : State} {rest : List PanPost} (waits : s.posts.pans = rest) (e : PanPost) : (takePanPost s e).posts.pans = rest := by
  have same : s = s.modPosts fun q => { q with pans := rest } := by
    rw [State.modPosts, ← waits]
  rw [same, takePanPost_modPosts]
  rfl

theorem finishPans_emptied (s : State) : (finishPans s).posts.pans = [] := by
  have kept (es : List PanPost) : ∀ v : State, v.posts.pans = [] → (es.foldl takePanPost v).posts.pans = [] := by
    induction es with
    | nil => exact fun v none => none
    | cons e es ih => exact fun v none => ih _ (takePanPost_waits none e)
  exact kept _ _ rfl

/-- The posts of the Pan Tracker as a founding in `p` finds them. -/
def clearing (s : State) (p : PanSlot) : State := if .retirement p ∈ s.posts.pans then finishPans s else s

theorem clearing_waits (s : State) (p : PanSlot) : .retirement p ∉ (clearing s p).posts.pans := by
  unfold clearing
  split
  · rw [finishPans_emptied]
    exact List.not_mem_nil
  · next absent => exact absent

theorem clearContext_discarded (s : State) (p : PanSlot) : clearContext s p = discarded (clearing s p) p := heatRetired_eq ..

theorem discarded_pan (s : State) (p q : PanSlot) :
    (discarded s p).pans[q] = if p = q then { s.pans[p] with heat := .idle, program := [] } else s.pans[q] := Laws.set_get ..

/-- R28, R67: a slot that has been discarded is clear but for its allocation. -/
theorem discarded_slot {s : State} {p : PanSlot} (absent : .retirement p ∉ s.posts.pans) :
    .retirement p ∉ (discarded s p).posts.pans ∧ (discarded s p).pans[p].heat = .idle ∧ p ∉ (discarded s p).hs.requests ∧
      (discarded s p).pans[p].program = [] := by
  have pan : (discarded s p).pans[p] = _ := (discarded_pan s p p).trans (if_pos rfl)
  refine ⟨absent, by rw [pan], fun listed => ?_, by rw [pan]⟩
  exact of_decide_eq_true (List.mem_filter.mp listed).2 rfl

theorem readySlot_eq (s : State) (p : PanSlot) :
    readySlot s p =
      if (discarded (clearing s p) p).pans[p].alloc = .zero then discarded (clearing s p) p else recompute (discarded (clearing s p) p) := by
  rw [readySlot, clearContext_discarded]

/-- R28, R51, R67, R72: a founding finds its slot clear. -/
theorem readySlot_slot (s : State) (p : PanSlot) : SlotClear (readySlot s p) p := by
  obtain ⟨absent, heat, unlisted, store⟩ := discarded_slot (clearing_waits s p)
  rw [readySlot_eq]
  split
  · next zero => exact ⟨absent, heat, unlisted, store, zero⟩
  · have frame := recompute_frame (discarded (clearing s p) p)
    have pan := recompute_pan (discarded (clearing s p) p) p
    have cold : (discarded (clearing s p) p).pans[p].heat.state.heating = false := by
      rw [heat]
      rfl
    have posts : (recompute (discarded (clearing s p) p)).posts.pans = (discarded (clearing s p) p).posts.pans :=
      (congrArg (fun u : State => u.posts.pans) frame :)
    have requests : (recompute (discarded (clearing s p) p)).hs = (discarded (clearing s p) p).hs := (congrArg State.hs frame :)
    refine ⟨posts ▸ absent, ?_, requests ▸ unlisted, ?_, ?_⟩
    · rw [pan]
      exact heat
    · rw [pan]
      exact store
    · rw [pan]
      exact allocOf_cold cold _

theorem readySlot_waits {s : State} {p : PanSlot} (waits : .retirement p ∈ s.posts.pans) : readySlot s p = readySlot (finishPans s) p := by
  have emptied : clearing (finishPans s) p = finishPans s :=
    if_neg (by rw [finishPans_emptied]; exact List.not_mem_nil)
  have taken : clearing s p = finishPans s := if_pos waits
  rw [readySlot_eq, readySlot_eq, emptied, taken]

/-! ### The queue of one coil -/

theorem waitingAround_none {s : State} {k : CoilId} (none : ∀ j ∈ neighbours s k, waiting s j = false) : waitingAround s k = [] :=
  List.filter_eq_nil_iff.mpr fun j mem => by
    rw [none j mem]
    exact Bool.false_ne_true

theorem popCoil_eq {s : State} {e : CoilEvent} {rest : List CoilEvent} (head : s.posts.coilEvents = e :: rest) :
    popCoil s = { s with posts := { s.posts with coilEvents := rest } } := by
  rw [popCoil, State.modPosts, head]
  rfl

theorem action_becameSensed {s : State} {k : CoilId} {m : Material} {rest : List CoilEvent} (high : s.sup.hub ≠ .supplyLow)
    (head : s.posts.coilEvents = .becameSensed k m :: rest) :
    action .becameSensed s =
      emptyQueue
        { s with
          pt := { s.pt with examQueue := queued s.pt.examQueue (k :: waitingAround s k) }
          posts := { s.posts with coilEvents := rest } } := by
  have taken : action .becameSensed s = takeBecameSensed (popCoil s) k := by
    refine (if_neg high).trans ?_
    rw [head]
  rw [taken, popCoil_eq head, takeBecameSensed, enqueue_eq, enqueueAround_eq]
  rfl

/-- R26: a coil that no waiting coil neighbours is examined alone. -/
theorem emptyQueue_one {s : State} {k : CoilId} {rest : List CoilEvent} (queue : s.pt.examQueue = [])
    (none : ∀ j ∈ neighbours s k, waiting s j = false) {u : State} (quiet : u.pt.examQueue = [])
    (examined : examine { s with posts := { s.posts with coilEvents := rest } } k = u) :
    emptyQueue
      { s with
        pt := { s.pt with examQueue := queued s.pt.examQueue (k :: waitingAround s k) }
        posts := { s.posts with coilEvents := rest } } = u := by
  have one : queued s.pt.examQueue (k :: waitingAround s k) = [k] := by
    rw [waitingAround_none none, queue]
    rfl
  have popped : ({ s.pt with examQueue := [] } : PanLists) = s.pt := by rw [← queue]
  rw [one, emptyQueue_cons (k := k) (rest := []) rfl (List.nodup_singleton k)]
  dsimp only
  rw [popped, examined, emptyQueue_nil quiet]

/-! ### The rows of an examination (R27 to R32) -/

section
variable {s : State} {k : CoilId}

theorem examine_founds {p : PanSlot} (waits : waiting s k = true) (alone : ∀ q : PanSlot, neighbourCount s k q = 0) (new : k ∉ s.pt.orphans)
    (free : s.pans[p].pres.presence = .free) (first : ∀ q : PanSlot, q < p → s.pans[q].pres.presence ≠ .free) :
    examine s k = foundedIn (readySlot s p) k p := by
  rw [examine_alone waits alone, if_neg new, found, firstFree_eq free first]
  exact foundAt_eq waits p

theorem examine_evicts {p : PanSlot} {later : List PanSlot} (waits : waiting s k = true) (alone : ∀ q : PanSlot, neighbourCount s k q = 0)
    (new : k ∉ s.pt.orphans) (full : ∀ q : PanSlot, s.pans[q].pres.presence ≠ .free) (order : s.pt.liftOrder = p :: later) :
    examine s k = foundedIn (readySlot (retired s p .evicted) p) k p := by
  have waits' : waiting (retire s p .evicted) k = true := (waiting_kept (retire_touches s p .evicted) k).trans waits
  rw [examine_alone waits alone, if_neg new, found, firstFree_none full, order]
  exact (foundAt_eq waits' p).trans (by rw [retire_eq])

theorem addOrphan_eq (s : State) (k : CoilId) :
    addOrphan s k =
      { if s.pt.orphans = [] then queueNotice s .tableFull (BitVec.ofNat 8 k.val) 0 0 else s with
        pt := { s.pt with orphans := insertCoil k s.pt.orphans } } := by
  unfold addOrphan
  split
  · have told := queueNotice_as (s := s) (t := { s with pt := { s.pt with orphans := insertCoil k s.pt.orphans } }) rfl rfl .tableFull
      (BitVec.ofNat 8 k.val) 0 0
    have whole := (queueNotice_onlyNotices s .tableFull (BitVec.ofNat 8 k.val) 0 0).cp
    exact told.trans (congrArg (fun u : State => { u with pt := { s.pt with orphans := insertCoil k s.pt.orphans } }) whole.symm)
  · rfl

theorem examine_orphaned (waits : waiting s k = true) (alone : ∀ q : PanSlot, neighbourCount s k q = 0) (new : k ∉ s.pt.orphans)
    (full : ∀ q : PanSlot, s.pans[q].pres.presence ≠ .free) (none : s.pt.liftOrder = []) : examine s k = addOrphan s k := by
  rw [examine_alone waits alone, if_neg new, found, firstFree_none full, none]

theorem examine_joins {p : PanSlot} (waits : waiting s k = true) (near : 0 < neighbourCount s k p)
    (most : ∀ q : PanSlot, q ≠ p → neighbourCount s k q < neighbourCount s k p) (room : s.pans[p].pres.members.length < 12) :
    examine s k = joinedTo s k p := by
  rw [examine_near waits near, leaders_one most]
  exact (if_pos room).trans (joinPan_eq waits p)

/-- R27, R30: two pans lead, or the one that leads is full. -/
theorem examine_leaves {p : PanSlot} (waits : waiting s k = true) (near : 0 < neighbourCount s k p)
    (best : ∀ q : PanSlot, neighbourCount s k q ≤ neighbourCount s k p)
    (none : (∃ q : PanSlot, q ≠ p ∧ neighbourCount s k q = neighbourCount s k p) ∨ 12 ≤ s.pans[p].pres.members.length) :
    examine s k = leaveOrphans s k := by
  have leads : p ∈ leaders s k := (mem_leaders best p).mpr rfl
  rw [examine_near waits near]
  split
  · next r one =>
    rw [one] at leads
    have same : p = r := List.mem_singleton.mp leads
    subst same
    rcases none with ⟨q, other, equal⟩ | full
    · have leads' := (mem_leaders best q).mpr equal
      rw [one] at leads'
      exact absurd (List.mem_singleton.mp leads') other
    · exact if_neg (Nat.not_lt.mpr full)
  · rfl

end

/-- R24: the figures of a pan that has just been joined. -/
theorem joinedTo_figured (s : State) (k : CoilId) (p : PanSlot) :
    figured (grownBy s k p) p =
      { figured (joinedTo s k p) p with
        gen := s.pans[p].pres.gen, members := insertCoil k s.pans[p].pres.members, settle := 0, changed := true
        presence := if s.pans[p].pres.presence = .placed then .moving else s.pans[p].pres.presence
        signature := s.pans[p].pres.signature, liftedAt := s.pans[p].pres.liftedAt, grace := s.pans[p].pres.grace } := by
  have some : insertCoil k s.pans[p].pres.members ≠ [] := fun none => by
    have mem : k ∈ insertCoil k s.pans[p].pres.members := mem_insertCoil.mpr (.inl rfl)
    rw [none] at mem
    exact absurd mem List.not_mem_nil
  have here : (joinedTo s k p).pans[p].pres = figured (grownBy s k p) p :=
    congrArg PanRecord.pres ((joinedTo_pan s k p p).trans (if_pos rfl))
  have grown := grownBy_pres s k p
  have members : (figured (grownBy s k p) p).members = insertCoil k s.pans[p].pres.members := by rw [joinedTo_pres]
  have first : figured (grownBy s k p) p = _ := if_neg (by rw [grown]; exact some)
  have second : figured (joinedTo s k p) p = _ := if_neg (by rw [here, members]; exact some)
  rw [here, members] at second
  rw [second, joinedTo_pres]
  rw [grown] at first
  rw [first]
  rfl

/-- Settles O40: the event with the coil examined alone, the queue head by head, the slot and the rows of the examination. -/
theorem sensedCoilsFoundOrJoin : Obligations.SensedCoilsFoundOrJoin := by
  refine ⟨fun s settled low => ?_, fun s k m rest settled high queue head none => ?_, fun s k m rest settled high head => ?_,
    fun s none => emptyQueue_nil none, fun s k rest queue once => emptyQueue_cons queue once,
    ⟨fun s p => ⟨readySlot_slot s p, readySlot_clear⟩, fun s p => ⟨readySlot_waits, fun absent zero => ?_, fun absent some => ?_⟩⟩, fun s k => ?_⟩
  · exact (exec_settled settled _).trans (congrArg _ (if_pos low))
  · let w : State := { s with posts := { s.posts with coilEvents := rest } }
    have alone {u : State} (quiet : u.pt.examQueue = []) (examined : examine w k = u) : exec .becameSensed s = .next u := by
      rw [exec_settled settled, action_becameSensed high head, emptyQueue_one queue none quiet examined]
    have around : waitingAround w k = [] := waitingAround_none none
    have quiet : queued s.pt.examQueue (waitingAround w k) = [] := by
      rw [around, queue]
      rfl
    refine ⟨fun still => alone queue (examine_still still), fun p waits lonely new free first clear => ?_,
      fun p waits near most room => ⟨joinedTo w k p, alone quiet (examine_joins (s := w) waits near most room), ?_, ?_⟩,
      fun p waits near best crowded => alone queue (examine_leaves (s := w) waits near best crowded)⟩
    · have found := examine_founds (s := w) waits lonely new free first
      rw [readySlot_clear (s := w) clear] at found
      have empty : ({ s.pt with examQueue := [] } : PanLists) = s.pt := by rw [← queue]
      rw [alone quiet found, foundedIn, quiet, empty]
    · have here : (joinedTo w k p).pans[p].pres = figured (grownBy w k p) p :=
        congrArg PanRecord.pres ((joinedTo_pan w k p p).trans (if_pos rfl))
      have pt : (joinedTo w k p).pt = { s.pt with orphans := s.pt.orphans.filter (· ≠ k) } := by
        change ({ s.pt with orphans := s.pt.orphans.filter (· ≠ k), examQueue := queued s.pt.examQueue (waitingAround w k) } : PanLists) = _
        rw [quiet, ← queue]
      rw [here, ← pt]
      rfl
    · exact (congrArg PanRecord.pres ((joinedTo_pan w k p p).trans (if_pos rfl))).trans (joinedTo_figured w k p)
  · rw [exec_settled settled, action_becameSensed high head]
  · have taken : clearing s p = s := if_neg absent
    rw [readySlot_eq, taken, if_pos zero]
  · have taken : clearing s p = s := if_neg absent
    rw [readySlot_eq, taken, if_neg some]
  · exact ⟨examine_still, fun waits lonely => ⟨fun old => (examine_alone waits lonely).trans (if_pos old),
      fun p new free first => examine_founds waits lonely new free first,
      fun new full => ⟨fun p later order => examine_evicts waits lonely new full order,
        fun none => (examine_orphaned waits lonely new full none).trans (addOrphan_eq s k)⟩⟩,
      fun p waits near => ⟨fun most room => examine_joins waits near most room, fun best none => examine_leaves waits near best none⟩⟩

end Sys2Proof.Machine
end

section
/-! What a founding touches of other blocks: contexts, stores and allocations (R28, R67, R72). -/

namespace Sys2Proof.Machine

-- The default arguments `by decide` wait for the kernel: one declaration after the other holds few threads.
set_option Elab.async false

/-! ### The Heat Sequencer's part -/

/-- R65 to R68: contexts and stores have changed, the list with them; a pan that is IDLE with an empty store has stayed so. -/
structure HeatsOnly (s u : State) : Prop where
  frame : u = { s with
                pans := u.pans, hs := { s.hs with requests := u.hs.requests }
                posts := { s.posts with pans := u.posts.pans, triggers := u.posts.triggers }
                cp := { s.cp with notices := u.cp.notices, gap := u.cp.gap } }
  pans : ∀ q : PanSlot, u.pans[q] = { s.pans[q] with heat := u.pans[q].heat, program := u.pans[q].program }
  triggers : ∃ es : List (List PanSlot), u.posts.triggers = s.posts.triggers ++ es.map .heatChange
  idle : ∀ q : PanSlot, s.pans[q].heat = .idle → u.pans[q].heat = .idle
  empty : ∀ q : PanSlot, s.pans[q].program = [] → u.pans[q].program = []

theorem HeatsOnly.refl (s : State) : HeatsOnly s s where
  frame := rfl
  pans _ := rfl
  triggers := ⟨[], by simp⟩
  idle _ h := h
  empty _ h := h

theorem HeatsOnly.trans {s t u : State} (h : HeatsOnly s t) (g : HeatsOnly t u) : HeatsOnly s u where
  frame := by
    have second := g.frame
    rw [h.frame] at second
    exact second
  pans q := by
    have second := g.pans q
    rw [h.pans q] at second
    exact second
  triggers := by
    obtain ⟨es, first⟩ := h.triggers
    obtain ⟨fs, second⟩ := g.triggers
    exact ⟨es ++ fs, by rw [second, first, List.map_append, List.append_assoc]⟩
  idle q i := g.idle q (h.idle q i)
  empty q e := g.empty q (h.empty q e)

theorem heatSet_pan (s : State) (p : PanSlot) (heat : HeatPart) (requests : List PanSlot) (q : PanSlot) :
    (heatSet s p heat requests).pans[q] = if p = q then { s.pans[p] with heat := heat } else s.pans[q] := Laws.set_get ..

theorem heatSet_only {s : State} {p : PanSlot} {heat : HeatPart} (idle : s.pans[p].heat = .idle → heat = .idle) (requests : List PanSlot) :
    HeatsOnly s (heatSet s p heat requests) where
  frame := rfl
  pans q := by
    rw [heatSet_pan]
    split
    · next here => rw [here]
    · rfl
  triggers := by
    unfold heatSet
    dsimp only
    split
    · exact ⟨[], rfl⟩
    · exact ⟨[[p]], rfl⟩
  idle q i := by
    rw [heatSet_pan]
    split
    · next here =>
      subst here
      exact idle i
    · exact i
  empty q e := by
    rw [heatSet_pan]
    split
    · next here =>
      subst here
      exact e
    · exact e

theorem notice_heatsOnly (s : State) (kind : NoticeKind) (subject : Byte) (first second : Nat) :
    HeatsOnly s (queueNotice s kind subject first second) := by
  have pans : (queueNotice s kind subject first second).pans = s.pans := by simp only [queueNotice_keeps]
  have only := queueNotice_onlyNotices s kind subject first second
  refine ⟨?_, fun q => by rw [pans], ⟨[], ?_⟩, fun q i => by rwa [pans], fun q e => by rwa [pans]⟩
  · generalize queueNotice s kind subject first second = u at only
    unfold OnlyNotices at only
    rw [only]
  · simp only [queueNotice_keeps, List.map_nil, List.append_nil]

theorem setPans_heatsOnly (s : State) (rest : List PanPost) : HeatsOnly s { s with posts := { s.posts with pans := rest } } :=
  ⟨rfl, fun _ => rfl, ⟨[], by simp⟩, fun _ i => i, fun _ e => e⟩

theorem discarded_heatsOnly (s : State) (p : PanSlot) : HeatsOnly s (discarded s p) := by
  have set := heatSet_only (s := s) (p := p) (heat := .idle) (fun _ => rfl) (s.hs.requests.filter (· ≠ p))
  refine ⟨rfl, fun q => ?_, set.triggers, fun q i => ?_, fun q e => ?_⟩
  all_goals
    rw [discarded_pan]
    split
  · next here => rw [here]
  · rfl
  · rfl
  · exact i
  · rfl
  · exact e

/-- R65 to R68: a post of the Pan Tracker touches contexts and stores, and leaves an IDLE context IDLE. -/
theorem takePanPost_heatsOnly (s : State) (e : PanPost) : HeatsOnly s (takePanPost s e) := by
  have unsuitable (p : PanSlot) : HeatsOnly s (postHeatChange s (refuseHeat (toIdle s p) (s.handleOf p) .unsuitable s.pans[p].heat.level) p) := by
    rw [unsuitableContext]
    exact (heatSet_only (fun _ => rfl) _).trans (notice_heatsOnly ..)
  cases e with
  | lift p =>
    change HeatsOnly s (if s.pans[p].heat.state.heating then postHeatChange s (hold s p .suspended) p else s)
    split
    · next heats =>
      rw [hold_eq, postHeatChange_set]
      refine heatSet_only (fun i => absurd heats ?_) _
      rw [i]
      exact Bool.false_ne_true
    · exact .refl s
  | back p =>
    change HeatsOnly s (heatReturned s p)
    unfold heatReturned
    split
    · next suspended =>
      split
      · exact unsuitable p
      · rw [resumeContext_eq, postHeatChange_set]
        refine heatSet_only (fun i => ?_) _
        rw [i] at suspended
        exact HeatState.noConfusion suspended
    · exact .refl s
  | retirement p =>
    have taken : takePanPost s (.retirement p) = discarded s p := heatRetired_eq s p
    exact taken ▸ discarded_heatsOnly s p
  | material p m =>
    change HeatsOnly s (if _ then _ else s)
    split
    · exact unsuitable p
    · exact .refl s

theorem finishPans_heatsOnly (s : State) : HeatsOnly s (finishPans s) := by
  have folds (es : List PanPost) (v : State) : HeatsOnly v (es.foldl takePanPost v) := by
    induction es generalizing v with
    | nil => exact .refl v
    | cons e es ih => exact (takePanPost_heatsOnly v e).trans (ih _)
  exact (setPans_heatsOnly s []).trans (folds ..)

theorem clearContext_heatsOnly (s : State) (p : PanSlot) : HeatsOnly s (discarded (clearing s p) p) := by
  refine HeatsOnly.trans (t := clearing s p) ?_ (discarded_heatsOnly ..)
  unfold clearing
  split
  · exact finishPans_heatsOnly s
  · exact .refl s

/-! ### The slot made ready -/

/-- R28, R67, R72: what making a slot ready leaves of a state. -/
structure Readied (s u : State) : Prop where
  frame : u = { s with
                pans := u.pans, hs := { s.hs with requests := u.hs.requests }, ba := { s.ba with figures := u.ba.figures }
                posts := { s.posts with pans := u.posts.pans, triggers := u.posts.triggers, rebuilds := u.posts.rebuilds }
                cp := { s.cp with notices := u.cp.notices, gap := u.cp.gap } }
  pans : ∀ q : PanSlot, u.pans[q] = { s.pans[q] with heat := u.pans[q].heat, program := u.pans[q].program, alloc := u.pans[q].alloc }
  triggers : ∃ es : List (List PanSlot), u.posts.triggers = s.posts.triggers ++ es.map .heatChange
  fresh : ∀ q : PanSlot, s.pans[q].heat = .idle → s.pans[q].program = [] → s.pans[q].alloc = .zero →
    u.pans[q].heat = .idle ∧ u.pans[q].program = [] ∧ u.pans[q].alloc = .zero

theorem readySlot_readied (s : State) (p : PanSlot) : Readied s (readySlot s p) := by
  have heats := clearContext_heatsOnly s p
  have kept (q : PanSlot) : (discarded (clearing s p) p).pans[q].alloc = s.pans[q].alloc := by rw [heats.pans q]
  rw [readySlot_eq]
  split
  · refine ⟨?_, fun q => ?_, heats.triggers, fun q i e z => ⟨heats.idle q i, heats.empty q e, (kept q).trans z⟩⟩
    · have frame := heats.frame
      generalize discarded (clearing s p) p = u at frame
      rw [frame]
    · have pan := heats.pans q
      generalize (discarded (clearing s p) p).pans[q] = x at pan
      rw [pan]
  · generalize discarded (clearing s p) p = t at heats kept
    have frame := recompute_frame t
    have triggers : (recompute t).posts.triggers = t.posts.triggers := (congrArg (fun u : State => u.posts.triggers) frame :)
    refine ⟨?_, fun q => ?_, triggers ▸ heats.triggers, fun q i e z => ?_⟩
    · generalize recompute t = r at frame
      rw [heats.frame] at frame
      rw [frame]
    · rw [recompute_pan, heats.pans q]
    · have cold : t.pans[q].heat.state.heating = false := by
        rw [heats.idle q i]
        rfl
      rw [recompute_pan]
      exact ⟨heats.idle q i, heats.empty q e, allocOf_cold cold _⟩

end Sys2Proof.Machine
end

section
/-! What the Pan Tracker's events leave of what other blocks keep: foundings, and all else (R22, R28, R39). -/

namespace Sys2Proof.Machine

-- The default arguments `by decide` wait for the kernel: one declaration after the other holds few threads.
set_option Elab.async false

/-- The parts the Pan Tracker's events touch. -/
def TrackerFrame (s u : State) : Prop :=
  u = { s with
        coils := u.coils, pans := u.pans, pt := u.pt, hs := { s.hs with requests := u.hs.requests }
        ba := { s.ba with figures := u.ba.figures }
        posts := { s.posts with pans := u.posts.pans, triggers := u.posts.triggers, rebuilds := u.posts.rebuilds }
        cp := { s.cp with notices := u.cp.notices, gap := u.cp.gap } }

theorem TrackerFrame.trans {s t u : State} (h : TrackerFrame s t) (g : TrackerFrame t u) : TrackerFrame s u := by
  unfold TrackerFrame at h g ⊢
  rw [h] at g
  rw [g]

/-! ### An event that founds nothing -/

/-- Only presence parts, coils and the Pan Tracker's lists change, with posts and notices; no generation advances. -/
structure GroupsOnly (s u : State) : Prop where
  frame : TrackerFrame s u
  lists : u.hs = s.hs ∧ u.ba = s.ba
  pans : ∀ q : PanSlot, u.pans[q] = { s.pans[q] with pres := u.pans[q].pres }
  gens : ∀ q : PanSlot, u.pans[q].pres.gen = s.pans[q].pres.gen
  posts : ∃ ps : List PanSlot, u.posts.triggers = s.posts.triggers ++ ps.map .membership ∧ u.posts.rebuilds = s.posts.rebuilds + ps.length

theorem GroupsOnly.refl (s : State) : GroupsOnly s s := ⟨rfl, ⟨rfl, rfl⟩, fun _ => rfl, fun _ => rfl, ⟨[], by simp⟩⟩

theorem GroupsOnly.trans {s t u : State} (h : GroupsOnly s t) (g : GroupsOnly t u) : GroupsOnly s u where
  frame := h.frame.trans g.frame
  lists := ⟨g.lists.1.trans h.lists.1, g.lists.2.trans h.lists.2⟩
  pans q := by
    have second := g.pans q
    rw [h.pans q] at second
    exact second
  gens q := (g.gens q).trans (h.gens q)
  posts := by
    obtain ⟨ps, triggers, rebuilds⟩ := h.posts
    obtain ⟨qs, triggers', rebuilds'⟩ := g.posts
    refine ⟨ps ++ qs, by rw [triggers', triggers, List.map_append, List.append_assoc], ?_⟩
    rw [rebuilds', rebuilds, List.length_append, Nat.add_assoc]

theorem GroupsOnly.ite {c : Prop} [Decidable c] {s t u : State} (h : GroupsOnly s t) (g : GroupsOnly s u) : GroupsOnly s (if c then t else u) := by
  split
  · exact h
  · exact g

theorem GroupsOnly.foldl {α : Type} {f : State → α → State} (h : ∀ v a, GroupsOnly v (f v a)) (as : List α) (s : State) : GroupsOnly s (as.foldl f s) := by
  induction as generalizing s with
  | nil => exact refl s
  | cons a as ih => exact (h s a).trans (ih (f s a))

theorem groups_pt (s : State) (lists : PanLists) : GroupsOnly s { s with pt := lists } := ⟨rfl, ⟨rfl, rfl⟩, fun _ => rfl, fun _ => rfl, ⟨[], by simp⟩⟩

theorem groups_coils (s : State) (coils : Vector CoilRecord 64) : GroupsOnly s { s with coils := coils } :=
  ⟨rfl, ⟨rfl, rfl⟩, fun _ => rfl, fun _ => rfl, ⟨[], by simp⟩⟩

theorem groups_postPan (s : State) (es : List PanPost) : GroupsOnly s { s with posts := { s.posts with pans := es } } :=
  ⟨rfl, ⟨rfl, rfl⟩, fun _ => rfl, fun _ => rfl, ⟨[], by simp⟩⟩

theorem groups_postMembership (s : State) (p : PanSlot) : GroupsOnly s (postMembership s p) :=
  ⟨rfl, ⟨rfl, rfl⟩, fun _ => rfl, fun _ => rfl, ⟨[p], rfl, rfl⟩⟩

theorem groups_notice (s : State) (kind : NoticeKind) (subject : Byte) (first second : Nat) : GroupsOnly s (queueNotice s kind subject first second) := by
  have pans : (queueNotice s kind subject first second).pans = s.pans := by simp only [queueNotice_keeps]
  have only := queueNotice_onlyNotices s kind subject first second
  refine ⟨?_, ⟨by simp only [queueNotice_keeps], by simp only [queueNotice_keeps]⟩, fun q => by rw [pans], fun q => by rw [pans],
    ⟨[], by simp only [queueNotice_keeps]; simp⟩⟩
  unfold OnlyNotices at only
  unfold TrackerFrame
  generalize queueNotice s kind subject first second = u at only
  rw [only]

theorem groups_pres (s : State) (p : PanSlot) {pres : PresencePart} (gen : pres.gen = s.pans[p].pres.gen) :
    GroupsOnly s { s with pans := s.pans.set p { s.pans[p] with pres := pres } } := by
  have pan (q : PanSlot) : (s.pans.set p { s.pans[p] with pres := pres })[q] = if p = q then { s.pans[p] with pres := pres } else s.pans[q] :=
    Laws.set_get ..
  refine ⟨rfl, ⟨rfl, rfl⟩, fun q => ?_, fun q => ?_, ⟨[], by simp⟩⟩
  all_goals
    rw [pan]
    split
  · next here => rw [here]
  · rfl
  · next here => exact here ▸ gen
  · rfl

theorem figured_gen (s : State) (p : PanSlot) : (figured s p).gen = s.pans[p].pres.gen := by rw [figured_eq]

theorem groups_refigure (s : State) (p : PanSlot) : GroupsOnly s (refigure s p) := by
  rw [refigure_eq]
  exact (groups_pres s p (figured_gen s p)).trans (groups_postPan _ _)

theorem groups_retired (s : State) (p : PanSlot) (reason : Reason) : GroupsOnly s (retired s p reason) := by
  have noticed := groups_notice s .panRetired (s.handleOf p) reason.code 0
  have pans : (queueNotice s .panRetired (s.handleOf p) reason.code 0).pans = s.pans := by simp only [queueNotice_keeps]
  have pt : (queueNotice s .panRetired (s.handleOf p) reason.code 0).pt = s.pt := by simp only [queueNotice_keeps]
  have posts : (queueNotice s .panRetired (s.handleOf p) reason.code 0).posts = s.posts := by simp only [queueNotice_keeps]
  unfold retired
  generalize queueNotice s .panRetired (s.handleOf p) reason.code 0 = v at noticed pans pt posts
  rw [← pans, ← pt, ← posts]
  let freed : State := { v with pans := v.pans.set p { v.pans[p] with pres := .freed v.pans[p].pres.gen } }
  let listed : State := { freed with pt := { v.pt with liftOrder := v.pt.liftOrder.filter (· ≠ p) } }
  have first : GroupsOnly v freed := groups_pres v p rfl
  exact ((noticed.trans first).trans (groups_pt freed listed.pt)).trans (groups_postPan listed (v.posts.pans ++ [.retirement p]))

theorem groups_joinedTo (s : State) (k : CoilId) (p : PanSlot) : GroupsOnly s (joinedTo s k p) := by
  have gen : (figured (grownBy s k p) p).gen = s.pans[p].pres.gen := by rw [joinedTo_pres]
  have joined := (groups_pres s p gen).trans (groups_coils _ (s.coils.set k { s.coils[k] with occupancy := .member, owner := some p }))
  refine ⟨rfl, ⟨rfl, rfl⟩, joined.pans, joined.gens, ?_⟩
  unfold joinedTo
  dsimp only
  split
  · exact ⟨[p], rfl, rfl⟩
  · exact ⟨[], rfl, rfl⟩

theorem groups_addOrphan (s : State) (k : CoilId) : GroupsOnly s (addOrphan s k) := by
  rw [addOrphan_eq]
  refine GroupsOnly.trans ?_ (groups_pt _ _)
  exact .ite (groups_notice ..) (.refl s)

/-! ### Foundings -/

/-- R28: a pan has been founded in `q` since `s`, once, or a second time over a record of the lift order; the pans of `done` may have settled. -/
structure Founded (done : PanSlot → Prop) (s u : State) (q : PanSlot) : Prop where
  gen : u.pans[q].pres.gen = s.pans[q].pres.gen + 1 ∨ (u.pans[q].pres.gen = s.pans[q].pres.gen + 2 ∧ q ∉ u.pt.liftOrder)
  forming : u.pans[q].pres.presence = .forming
  signature : u.pans[q].pres.signature = none
  changed : u.pans[q].pres.changed = true ∨ done q
  idle : u.pans[q].heat = .idle
  empty : u.pans[q].program = []
  zero : u.pans[q].alloc = .zero

theorem Founded.gen_ne {done : PanSlot → Prop} {s u : State} {q : PanSlot} (h : Founded done s u q) :
    u.pans[q].pres.gen ≠ s.pans[q].pres.gen := by
  have apart : ∀ g : BitVec 4, g + 1 ≠ g ∧ g + 2 ≠ g := by decide
  rcases h.gen with once | ⟨twice, -⟩
  · exact once ▸ (apart _).1
  · exact twice ▸ (apart _).2

/-- What the events of the Pan Tracker have left of a state. -/
structure Tracks (done : PanSlot → Prop) (s u : State) : Prop where
  frame : TrackerFrame s u
  pans : ∀ q : PanSlot,
    u.pans[q] = { s.pans[q] with
                  pres := u.pans[q].pres, heat := u.pans[q].heat, program := u.pans[q].program, alloc := u.pans[q].alloc }
  triggers : ∃ new : List Trigger, u.posts.triggers = s.posts.triggers ++ new ∧
    ∀ e ∈ new, (∃ p : PanSlot, e = .membership p) ∨ ∃ ps : List PanSlot, e = .heatChange ps
  slots : ∀ q : PanSlot, u.pans[q].pres.gen = s.pans[q].pres.gen ∨ Founded done s u q
  quiet : (∃ q : PanSlot, Founded done s u q) ∨ GroupsOnly s u

theorem GroupsOnly.tracks {s u : State} (h : GroupsOnly s u) (done : PanSlot → Prop) : Tracks done s u where
  frame := h.frame
  pans q := by rw [h.pans q]
  triggers := by
    obtain ⟨ps, triggers, -⟩ := h.posts
    refine ⟨ps.map .membership, triggers, fun e mem => .inl ?_⟩
    obtain ⟨p, -, rfl⟩ := List.mem_map.mp mem
    exact ⟨p, rfl⟩
  slots q := .inl (h.gens q)
  quiet := .inr h

/-- The pans founded since `s` and the lift order after a further event. -/
structure Spares (done after : PanSlot → Prop) (s t u : State) : Prop where
  pans : ∀ q : PanSlot, Founded done s t q →
    u.pans[q].pres.presence = .forming ∧ u.pans[q].pres.signature = none ∧ (u.pans[q].pres.changed = true ∨ after q)
  lift : ∀ q : PanSlot, q ∉ t.pt.liftOrder → q ∉ u.pt.liftOrder

/-- A further event that founds nothing. -/
theorem Tracks.grouped {done after : PanSlot → Prop} {s t u : State} (h : Tracks done s t) (g : GroupsOnly t u) (spares : Spares done after s t u) :
    Tracks after s u := by
  have stays (q : PanSlot) (f : Founded done s t q) : Founded after s u q := by
    obtain ⟨forming, signature, changed⟩ := spares.pans q f
    have pan := g.pans q
    refine ⟨?_, forming, signature, changed, ?_, ?_, ?_⟩
    · rw [g.gens q]
      exact f.gen.imp_right fun ⟨twice, out⟩ => ⟨twice, spares.lift q out⟩
    · rw [pan]
      exact f.idle
    · rw [pan]
      exact f.empty
    · rw [pan]
      exact f.zero
  refine ⟨h.frame.trans g.frame, fun q => ?_, ?_, fun q => ?_, ?_⟩
  · have second := g.pans q
    rw [h.pans q] at second
    rw [second]
  · obtain ⟨new, triggers, kinds⟩ := h.triggers
    obtain ⟨ps, triggers', -⟩ := g.posts
    refine ⟨new ++ ps.map .membership, by rw [triggers', triggers, List.append_assoc], fun e mem => ?_⟩
    rcases List.mem_append.mp mem with old | later
    · exact kinds e old
    · obtain ⟨p, -, rfl⟩ := List.mem_map.mp later
      exact .inl ⟨p, rfl⟩
  · exact (h.slots q).imp (fun same => (g.gens q).trans same) (stays q)
  · exact h.quiet.imp (fun ⟨q, f⟩ => ⟨q, stays q f⟩) fun quiet => quiet.trans g

theorem Tracks.apart {done : PanSlot → Prop} {s u : State} (h : Tracks done s u) : FoundingsApart s u where
  parts := h.pans
  lists := by
    have frame : u = _ := h.frame
    exact ⟨(congrArg State.hs frame :), (congrArg State.ba frame :)⟩
  none same := by
    rcases h.quiet with ⟨q, f⟩ | quiet
    · exact absurd (same q) f.gen_ne
    · exact ⟨quiet.lists.1, quiet.lists.2, quiet.pans⟩
  fresh q differs := by
    have f := (h.slots q).resolve_left differs
    exact ⟨f.idle, f.empty, f.zero⟩

end Sys2Proof.Machine
end

section
/-! Foundings by examinations and by the orphan service (R26 to R33). -/

namespace Sys2Proof.Machine

-- The default arguments `by decide` wait for the kernel: one declaration after the other holds few threads.
set_option Elab.async false

theorem Readied.tracker {s u : State} (h : Readied s u) : TrackerFrame s u := by
  have frame := h.frame
  unfold TrackerFrame
  generalize u = v at frame
  rw [frame]

theorem Readied.pt {s u : State} (h : Readied s u) : u.pt = s.pt := (congrArg State.pt h.frame :)

theorem Readied.pres {s u : State} (h : Readied s u) (q : PanSlot) : u.pans[q].pres = s.pans[q].pres := by rw [h.pans q]

theorem foundedIn_other (r : State) (k : CoilId) {p q : PanSlot} (other : p ≠ q) : (foundedIn r k p).pans[q] = r.pans[q] :=
  (foundedIn_pan ..).trans (if_neg other)

theorem foundedIn_here (r : State) (k : CoilId) (p : PanSlot) :
    (foundedIn r k p).pans[p] =
      { r.pans[p] with
        pres := { gen := r.pans[p].pres.gen + 1, presence := .forming, members := [k], x := r.ts.work.t1[k].x
                  y := r.ts.work.t1[k].y, area := r.coils[k].coverage, material := r.coils[k].material
                  settle := 0, changed := true, signature := none, liftedAt := none, grace := none } } :=
  (foundedIn_pan ..).trans (if_pos rfl)

/-- A founding in `p`, whose slot is FREE or whose record has been retired: `v` is the state it is made in. -/
theorem Tracks.founds {done : PanSlot → Prop} {s t v : State} (h : Tracks done s t) (g : GroupsOnly t v) {p : PanSlot}
    (others : ∀ q : PanSlot, p ≠ q → v.pans[q] = t.pans[q]) (lift : ∀ q : PanSlot, q ∉ t.pt.liftOrder → q ∉ v.pt.liftOrder)
    (again : Founded done s t p → t.pans[p].pres.gen = s.pans[p].pres.gen + 1 ∧ p ∉ v.pt.liftOrder) (k : CoilId) :
    Tracks done s (foundedIn (readySlot v p) k p) := by
  have ready := readySlot_readied v p
  have clear := readySlot_slot v p
  generalize readySlot v p = r at ready clear
  have here := foundedIn_here r k p
  have gens (q : PanSlot) : r.pans[q].pres.gen = t.pans[q].pres.gen := (congrArg PresencePart.gen (ready.pres q)).trans (g.gens q)
  have order : (foundedIn r k p).pt.liftOrder = v.pt.liftOrder := (congrArg PanLists.liftOrder ready.pt :)
  have new : Founded done s (foundedIn r k p) p := by
    refine ⟨?_, by rw [here], by rw [here], .inl (by rw [here]), by rw [here]; exact clear.2.1, by rw [here]; exact clear.2.2.2.1,
      by rw [here]; exact clear.2.2.2.2⟩
    rw [here, order]
    change r.pans[p].pres.gen + 1 = _ ∨ (r.pans[p].pres.gen + 1 = _ ∧ _)
    rw [gens]
    rcases h.slots p with same | founded
    · exact .inl (by rw [same])
    · obtain ⟨once, out⟩ := again founded
      exact .inr ⟨by rw [once, BitVec.add_assoc]; rfl, out⟩
  have stays (q : PanSlot) (other : p ≠ q) (f : Founded done s t q) : Founded done s (foundedIn r k p) q := by
    have pan := foundedIn_other r k other
    have pres : r.pans[q].pres = t.pans[q].pres := (ready.pres q).trans (congrArg PanRecord.pres (others q other))
    obtain ⟨idle, empty, zero⟩ := ready.fresh q (by rw [others q other]; exact f.idle) (by rw [others q other]; exact f.empty)
      (by rw [others q other]; exact f.zero)
    refine ⟨?_, by rw [pan, pres]; exact f.forming, by rw [pan, pres]; exact f.signature, by rw [pan, pres]; exact f.changed,
      by rw [pan]; exact idle, by rw [pan]; exact empty, by rw [pan]; exact zero⟩
    rw [pan, pres, order]
    exact f.gen.imp_right fun ⟨twice, out⟩ => ⟨twice, lift q out⟩
  have settled : TrackerFrame r (foundedIn r k p) := rfl
  refine ⟨((h.frame.trans g.frame).trans ready.tracker).trans settled, fun q => ?_, ?_, fun q => ?_, .inl ⟨p, new⟩⟩
  · have first := h.pans q
    have second := g.pans q
    have third := ready.pans q
    rw [first] at second
    rw [second] at third
    by_cases at_ : p = q
    · subst at_
      rw [here, third]
    · rw [foundedIn_other r k at_, third]
  · obtain ⟨news, triggers, kinds⟩ := h.triggers
    obtain ⟨ps, triggers', -⟩ := g.posts
    obtain ⟨es, triggers''⟩ := ready.triggers
    refine ⟨news ++ ps.map .membership ++ es.map .heatChange, ?_, fun e mem => ?_⟩
    · have same : (foundedIn r k p).posts.triggers = r.posts.triggers := rfl
      rw [same, triggers'', triggers', triggers, List.append_assoc, List.append_assoc, List.append_assoc]
    · rcases List.mem_append.mp mem with early | heat
      · rcases List.mem_append.mp early with old | member
        · exact kinds e old
        · obtain ⟨p, -, rfl⟩ := List.mem_map.mp member
          exact .inl ⟨p, rfl⟩
      · obtain ⟨ps, -, rfl⟩ := List.mem_map.mp heat
        exact .inr ⟨ps, rfl⟩
  · by_cases at_ : p = q
    · subst at_
      exact .inr new
    · rcases h.slots q with same | founded
      · refine .inl ?_
        rw [foundedIn_other r k at_, gens]
        exact same
      · exact .inr (stays q at_ founded)

/-- What leaves the presence parts and lengthens no lift order spares every pan. -/
theorem Spares.of_same {done : PanSlot → Prop} {s t u : State} (pans : ∀ q : PanSlot, u.pans[q].pres = t.pans[q].pres)
    (lift : u.pt.liftOrder = t.pt.liftOrder) : Spares done done s t u :=
  ⟨fun q f => by rw [pans]; exact ⟨f.forming, f.signature, f.changed⟩, fun q out => by rwa [lift]⟩

theorem Tracks.leaves {done : PanSlot → Prop} {s t : State} (h : Tracks done s t) (lists : PanLists) (lift : lists.liftOrder = t.pt.liftOrder) :
    Tracks done s { t with pt := lists } := h.grouped (groups_pt t lists) (.of_same (fun _ => rfl) lift)

/-- R27: an examination. -/
theorem Tracks.examine {done : PanSlot → Prop} {s t : State} (h : Tracks done s t) (k : CoilId) : Tracks done s (examine t k) := by
  refine examine_cases t k h (h.leaves _ rfl) (fun p waits => ?_) (fun _ _ _ => ?_) (fun p waits free => ?_) (fun p later waits full order => ?_)
  · rw [joinPan_eq waits]
    refine h.grouped (groups_joinedTo t k p) ⟨fun q f => ?_, fun q out => out⟩
    rw [joinedTo_pan]
    by_cases here : p = q
    · subst here
      rw [if_pos rfl]
      change (figured (grownBy t k p) p).presence = _ ∧ (figured (grownBy t k p) p).signature = _ ∧ ((figured (grownBy t k p) p).changed = _ ∨ _)
      rw [joinedTo_pres]
      refine ⟨?_, f.signature, .inl rfl⟩
      have forming := f.forming
      change (if t.pans[p].pres.presence = .placed then Presence.moving else t.pans[p].pres.presence) = .forming
      rw [forming]
      rfl
    · rw [if_neg here]
      exact ⟨f.forming, f.signature, f.changed⟩
  · refine h.grouped (groups_addOrphan t k) (.of_same (pres_kept (addOrphan_touches t k)) ?_)
    exact (addOrphan_touches t k).kept .liftOrder
  · rw [foundAt_eq waits]
    have free' : t.pans[p].pres.presence = .free :=
      beq_iff_eq.mp (List.find?_some (p := fun q : PanSlot => t.pans[q].pres.presence == .free) free)
    exact h.founds (.refl t) (fun _ _ => rfl) (fun _ out => out) (fun f => Presence.noConfusion (free'.symm.trans f.forming)) k
  · have waits' : waiting (retire t p .evicted) k = true := (waiting_kept (retire_touches t p .evicted) k).trans waits
    rw [foundAt_eq waits', retire_eq]
    have left : (retired t p .evicted).pt.liftOrder = t.pt.liftOrder.filter (· ≠ p) := rfl
    refine h.founds (groups_retired t p .evicted) (fun q other => (retired_pan ..).trans (if_neg other)) (fun q out => ?_) (fun f => ⟨?_, ?_⟩) k
    · rw [left]
      exact fun mem => out (List.mem_filter.mp mem).1
    · exact f.gen.resolve_right fun c => c.2 (order ▸ List.mem_cons_self ..)
    · rw [left]
      exact fun mem => of_decide_eq_true (List.mem_filter.mp mem).2 rfl

theorem Tracks.emptyQueue {done : PanSlot → Prop} {s t : State} (h : Tracks done s t) : Tracks done s (emptyQueue t) :=
  drain_keeps (P := Tracks done s) (fun _ _ g => g.leaves _ rfl) (fun _ k g => g.examine k) 4225 h

/-- What every examination keeps the orphan service keeps. -/
theorem serve_keeps {P : State → Prop} (pops : ∀ (v : State) (rest : List CoilId), P v → P { v with pt := { v.pt with examQueue := rest } })
    (leaves : ∀ (v : State) (rest : List CoilId), P v → P { v with pt := { v.pt with orphans := rest } })
    (examines : ∀ (v : State) (k : CoilId), P v → P (examine v k)) (n : Nat) {s : State} (h : P s) : P (serve n s) := by
  induction n generalizing s with
  | zero => exact h
  | succ n ih =>
    unfold serve
    split
    · exact ih (drain_keeps pops examines 4225 (examines _ _ (leaves s _ h)))
    · exact h

theorem Tracks.serveOrphans {done : PanSlot → Prop} {s t : State} (h : Tracks done s t) : Tracks done s (serveOrphans t) :=
  serve_keeps (P := Tracks done s) (fun _ _ g => g.leaves _ rfl) (fun _ _ g => g.leaves _ rfl) (fun _ k g => g.examine k) 64 h

end Sys2Proof.Machine
end

section
/-! The part of a split pan that is kept: the connected components (R36). -/

namespace Sys2Proof.Machine

-- The default arguments `by decide` wait for the kernel: one declaration after the other holds few threads.
set_option Elab.async false

theorem adjacent_comm (s : State) (i j : CoilId) : adjacent s i j = adjacent s j i := Bool.or_comm ..

/-- One link between members of a list. -/
theorem Linked.symm {s : State} {ms : List CoilId} {i j : CoilId} (h : Linked s ms i j) : Linked s ms j i := by
  induction h with
  | refl => exact .refl
  | tail _ link ih =>
    obtain ⟨first, second, near⟩ := link
    exact .head ⟨second, first, (adjacent_comm ..).trans near⟩ ih

theorem Linked.mem {s : State} {ms : List CoilId} {i j : CoilId} (h : Linked s ms i j) (mem : i ∈ ms) : j ∈ ms := by
  induction h with
  | refl => exact mem
  | tail _ link _ => exact link.2.1

/-! ### A component is a class of linked members -/

theorem mem_spread {s : State} {ms seen : List CoilId} {j : CoilId} :
    j ∈ spread s ms seen ↔ j ∈ ms ∧ (j ∈ seen ∨ ∃ i ∈ seen, adjacent s j i = true) := by
  simp [spread]

theorem spread_linked {s : State} {ms seen : List CoilId} {k : CoilId} (mem : k ∈ ms) (h : ∀ j ∈ seen, Linked s ms k j) :
    ∀ j ∈ spread s ms seen, Linked s ms k j := by
  intro j new
  obtain ⟨inside, old | ⟨i, old, near⟩⟩ := mem_spread.mp new
  · exact h j old
  · exact (h i old).tail ⟨(h i old).mem mem, inside, (adjacent_comm s i j).trans near⟩

theorem iterate_linked {s : State} {ms : List CoilId} {k : CoilId} (mem : k ∈ ms) (n : Nat) :
    ∀ j ∈ (spread s ms)^[n] [k], Linked s ms k j := by
  induction n with
  | zero =>
    intro j only
    exact List.mem_singleton.mp only ▸ .refl
  | succ n ih =>
    rw [Function.iterate_succ_apply']
    exact spread_linked mem ih

/-- A spread that adds no member has reached all that are linked. -/
theorem linked_of_closed {s : State} {ms seen : List CoilId} {k j : CoilId} (start : k ∈ seen) (closed : spread s ms seen = seen)
    (h : Linked s ms k j) : j ∈ seen := by
  induction h with
  | refl => exact start
  | tail _ link ih =>
    rw [← closed]
    exact mem_spread.mpr ⟨link.2.1, .inr ⟨_, ih, (adjacent_comm ..).trans link.2.2⟩⟩

theorem spread_mono {s : State} {ms seen more : List CoilId} (h : ∀ j ∈ ms, j ∈ seen → j ∈ more) (inside : seen ⊆ ms) :
    (spread s ms seen).Sublist (spread s ms more) := by
  have fewer : spread s ms seen = (spread s ms more).filter fun j => seen.contains j || seen.any (adjacent s j) := by
    rw [spread, spread, List.filter_filter]
    refine List.filter_congr fun j mem => Bool.eq_iff_iff.mpr ?_
    simp only [Bool.and_eq_true, Bool.or_eq_true, List.contains_iff_mem, List.any_eq_true]
    refine ⟨fun first => ⟨first, ?_⟩, And.left⟩
    exact first.imp (h j mem) fun ⟨i, old, near⟩ => ⟨i, h i (inside old) old, near⟩
  rw [fewer]
  exact List.filter_sublist

theorem iterate_inside {s : State} {ms : List CoilId} {k : CoilId} (mem : k ∈ ms) (n : Nat) : (spread s ms)^[n] [k] ⊆ ms := by
  cases n with
  | zero => exact List.cons_subset.mpr ⟨mem, List.nil_subset _⟩
  | succ n => exact (iterate_spread_sublist s ms n [k]).subset

theorem spread_grows {s : State} {ms : List CoilId} {k : CoilId} (mem : k ∈ ms) (n : Nat) :
    ((spread s ms)^[n] [k]).Sublist ((spread s ms)^[n + 1] [k]) := by
  induction n with
  | zero => exact List.singleton_sublist.mpr (mem_spread.mpr ⟨mem, .inl (List.mem_singleton_self k)⟩)
  | succ n ih =>
    rw [Function.iterate_succ_apply' _ (n + 1), Function.iterate_succ_apply' _ n]
    rw [Function.iterate_succ_apply' _ n] at ih
    exact spread_mono (fun j _ old => ih.subset old) (iterate_inside mem n)

theorem iterate_fixed {α : Type} {f : α → α} {a : α} {i : Nat} (fixed : f^[i + 1] a = f^[i] a) {n : Nat} (later : i ≤ n) : f^[n + 1] a = f^[n] a := by
  induction n, later using Nat.le_induction with
  | base => exact fixed
  | succ n _ ih => rw [Function.iterate_succ_apply' f (n + 1) a, ih, ← Function.iterate_succ_apply' f n a, ih]

/-- R36: as many spreads as there are members reach every linked one. -/
theorem component_closed {s : State} {ms : List CoilId} {k : CoilId} (mem : k ∈ ms) : spread s ms (component s ms k) = component s ms k := by
  have still : ∃ i ≤ ms.length, (spread s ms)^[i + 1] [k] = (spread s ms)^[i] [k] := by
    by_contra moves
    push Not at moves
    have longer (i : Nat) (low : i ≤ ms.length + 1) : i + 1 ≤ ((spread s ms)^[i] [k]).length := by
      induction i with
      | zero => exact Nat.le_refl _
      | succ i ih =>
        have grows := spread_grows (s := s) mem i
        have less : ((spread s ms)^[i] [k]).length < ((spread s ms)^[i + 1] [k]).length :=
          Nat.lt_of_le_of_ne grows.length_le fun same => moves i (by omega) (grows.eq_of_length same).symm
        have short := ih (by omega)
        omega
    have few := (iterate_spread_sublist s ms ms.length [k]).length_le
    have many := longer (ms.length + 1) (Nat.le_refl _)
    omega
  obtain ⟨i, low, fixed⟩ := still
  have closed := iterate_fixed fixed low
  rw [Function.iterate_succ_apply'] at closed
  exact closed

theorem mem_component {s : State} {ms : List CoilId} {k j : CoilId} (mem : k ∈ ms) : j ∈ component s ms k ↔ Linked s ms k j :=
  ⟨iterate_linked mem ms.length j, linked_of_closed (mem_iterate_spread s mem (List.mem_singleton_self k) _) (component_closed mem)⟩

/-! ### The components of a list -/

/-- What is left of a list once a component has been taken out is linked as before. -/
theorem linked_left {s : State} {ms : List CoilId} {k i j : CoilId} (mem : k ∈ ms) (out : ¬ Linked s ms k i) :
    Linked s (ms.filter fun x => !(component s ms k).contains x) i j ↔ Linked s ms i j := by
  have left (x : CoilId) : x ∈ ms.filter (fun x => !(component s ms k).contains x) ↔ x ∈ ms ∧ ¬ Linked s ms k x := by
    simp [mem_component mem]
  refine ⟨fun h => ?_, fun h => ?_⟩
  · induction h with
    | refl => exact .refl
    | tail _ link ih =>
      obtain ⟨first, second, near⟩ := link
      exact ih.tail ⟨((left _).mp first).1, ((left _).mp second).1, near⟩
  · induction h with
    | refl => exact .refl
    | tail reach link ih =>
      obtain ⟨first, second, near⟩ := link
      have away : ∀ x, Linked s ms i x → ¬ Linked s ms k x := fun x near far => out (Relation.ReflTransGen.trans far (Linked.symm near))
      exact ih.tail ⟨(left _).mpr ⟨first, away _ reach⟩, (left _).mpr ⟨second, away _ (reach.tail ⟨first, second, near⟩)⟩, near⟩

/-- R36: the components are the classes of linked members, the one with the lowest coil first. -/
theorem components_spec {s : State} (n : Nat) {ms : List CoilId} (low : ms.length ≤ n) (ascending : ms.Pairwise (· < ·)) :
    (∀ c ∈ components s n ms, ∃ k ∈ ms, ∀ j : CoilId, j ∈ c ↔ Linked s ms k j) ∧
      (∀ k ∈ ms, ∃ c ∈ components s n ms, k ∈ c) ∧ (components s n ms).Pairwise fun c d => ∀ j ∈ d, ∃ i ∈ c, i ≤ j := by
  induction n generalizing ms with
  | zero =>
    have none : ms = [] := List.eq_nil_of_length_eq_zero (Nat.le_zero.mp low)
    subst none
    exact ⟨fun c mem => absurd mem List.not_mem_nil, fun k mem => absurd mem List.not_mem_nil, .nil⟩
  | succ n ih =>
    cases ms with
    | nil => exact ⟨fun c mem => absurd mem List.not_mem_nil, fun k mem => absurd mem List.not_mem_nil, .nil⟩
    | cons k rest =>
      have here : k ∈ k :: rest := List.mem_cons_self ..
      let left : List CoilId := (k :: rest).filter fun x => !(component s (k :: rest) k).contains x
      have mem_left (x : CoilId) : x ∈ left ↔ x ∈ k :: rest ∧ ¬ Linked s (k :: rest) k x := by
        simp [left, mem_component here]
      have shorter : left.length ≤ n := by
        have sub : left.Sublist rest := by
          have out : (!(component s (k :: rest) k).contains k) = false := by
            simp [mem_component here, Linked, Relation.ReflTransGen.refl]
          simp only [left, List.filter_cons, out, Bool.false_eq_true, if_false]
          exact List.filter_sublist
        exact Nat.le_trans sub.length_le (Nat.le_of_succ_le_succ low)
      obtain ⟨classes, covers, ordered⟩ := ih shorter (ascending.filter _)
      have split : components s (n + 1) (k :: rest) = component s (k :: rest) k :: components s n left := rfl
      rw [split]
      refine ⟨fun c mem => ?_, fun i mem => ?_, List.pairwise_cons.mpr ⟨fun d mem j inside => ⟨k, (mem_component here).mpr .refl, ?_⟩, ordered⟩⟩
      · rcases List.mem_cons.mp mem with rfl | later
        · exact ⟨k, here, fun j => mem_component here⟩
        · obtain ⟨i, mem, linked⟩ := classes c later
          obtain ⟨inside, out⟩ := (mem_left i).mp mem
          exact ⟨i, inside, fun j => (linked j).trans (linked_left here out)⟩
      · by_cases near : Linked s (k :: rest) k i
        · exact ⟨_, List.mem_cons_self .., (mem_component here).mpr near⟩
        · obtain ⟨c, later, inside⟩ := covers i ((mem_left i).mpr ⟨mem, near⟩)
          exact ⟨c, List.mem_cons_of_mem _ later, inside⟩
      · have member : j ∈ k :: rest := ((mem_left j).mp ((mem_components mem).1.subset inside)).1
        rcases List.mem_cons.mp member with same | after
        · exact Fin.le_of_eq same.symm
        · exact Fin.le_of_lt (List.rel_of_pairwise_cons ascending after)

/-! ### The part kept -/

/-- One component is kept before another: the larger area, and of equals the one with the lower coil. -/
def KeptBefore (s : State) (c d : List CoilId) : Prop :=
  areaOf s d < areaOf s c ∨ (areaOf s d = areaOf s c ∧ ∀ j ∈ d, ∃ i ∈ c, i ≤ j)

theorem keptComponent_before {s : State} {c : List CoilId} {rest : List (List CoilId)}
    (ordered : (c :: rest).Pairwise fun c d => ∀ j ∈ d, ∃ i ∈ c, i ≤ j) :
    ∀ d ∈ c :: rest, KeptBefore s (keptComponent s (c :: rest)) d := by
  induction rest generalizing c with
  | nil =>
    intro d mem
    obtain rfl := List.mem_singleton.mp mem
    exact .inr ⟨rfl, fun j inside => ⟨j, inside, Fin.le_refl j⟩⟩
  | cons e rest ih =>
    obtain ⟨first, later⟩ := List.pairwise_cons.mp ordered
    obtain ⟨second, _⟩ := List.pairwise_cons.mp later
    have step : keptComponent s (c :: e :: rest) = keptComponent s ((if areaOf s c < areaOf s e then e else c) :: rest) := rfl
    rw [step]
    intro d mem
    by_cases larger : areaOf s c < areaOf s e
    · rw [if_pos larger]
      rcases List.mem_cons.mp mem with rfl | mem
      · rcases ih later e List.mem_cons_self with less | ⟨same, _⟩
        · exact .inl (Nat.lt_trans larger less)
        · exact .inl (same ▸ larger)
      · exact ih later d mem
    · rw [if_neg larger]
      have kept := ih (List.pairwise_cons.mpr ⟨fun d mem => first d (List.mem_cons_of_mem e mem), (List.pairwise_cons.mp later).2⟩)
      rcases List.mem_cons.mp mem with rfl | mem
      · exact kept d List.mem_cons_self
      rcases List.mem_cons.mp mem with rfl | mem
      · rcases kept c List.mem_cons_self with less | ⟨same, lower⟩
        · exact .inl (Nat.lt_of_le_of_lt (Nat.le_of_not_lt larger) less)
        · rcases Nat.lt_or_eq_of_le (Nat.le_of_not_lt larger) with less | equal
          · exact .inl (same ▸ less)
          · refine .inr ⟨equal.trans same, fun j inside => ?_⟩
            obtain ⟨i, mem, low⟩ := first d List.mem_cons_self j inside
            obtain ⟨x, mem, lowest⟩ := lower i mem
            exact ⟨x, mem, Fin.le_trans lowest low⟩
      · exact kept d (List.mem_cons_of_mem c mem)

theorem sublist_ext {ms c d : List CoilId} (ascending : ms.Pairwise (· < ·)) (first : c.Sublist ms) (second : d.Sublist ms)
    (same : ∀ j, j ∈ c ↔ j ∈ d) : c = d :=
  (ascending.sublist first).eq_of_mem_iff (ascending.sublist second) fun {j} => same j

theorem keptComponent_keptPart {s : State} {ms : List CoilId} (some : ms ≠ []) (ascending : ms.Pairwise (· < ·)) (few : ms.length ≤ 12) :
    KeptPart s ms (keptComponent s (components s 12 ms)) := by
  obtain ⟨classes, covers, ordered⟩ := components_spec (s := s) 12 few ascending
  obtain ⟨first, here⟩ := List.exists_mem_of_ne_nil ms some
  obtain ⟨_, mem, _⟩ := covers first here
  obtain ⟨c, rest, list⟩ := List.exists_cons_of_ne_nil (List.ne_nil_of_mem mem)
  have kept : keptComponent s (components s 12 ms) ∈ components s 12 ms := list ▸ keptComponent_mem s c rest
  have before : ∀ d ∈ components s 12 ms, KeptBefore s (keptComponent s (components s 12 ms)) d := by
    rw [list] at ordered ⊢
    exact keptComponent_before ordered
  refine ⟨(mem_components kept).1, ?_, fun k inside other sub members => ?_⟩
  · obtain ⟨k, inside, linkedTo⟩ := classes _ kept
    exact ⟨k, inside, fun j => (linkedTo j).trans ⟨fun linked => ⟨linked.mem inside, linked⟩, And.right⟩⟩
  · obtain ⟨d, mem, member⟩ := covers k inside
    obtain ⟨i, _, linkedTo⟩ := classes d mem
    have same : other = d := sublist_ext ascending sub (mem_components mem).1 fun j => by
      rw [members j, linkedTo j]
      have back : Linked s ms k i := ((linkedTo k).mp member).symm
      refine ⟨fun ⟨_, linked⟩ => ((linkedTo k).mp member).trans linked, fun linked => ?_⟩
      have reach : Linked s ms k j := Relation.ReflTransGen.trans back linked
      exact ⟨reach.mem inside, reach⟩
    exact same ▸ before d mem

theorem exists_least {c : List CoilId} (some : c ≠ []) : ∃ i ∈ c, ∀ j ∈ c, i ≤ j :=
  ⟨c.min some, List.min_mem some, fun _ mem => List.min_le_of_mem mem⟩

/-- R36: which part a pan keeps is settled. -/
theorem KeptPart.unique {s : State} {ms a b : List CoilId} (ascending : ms.Pairwise (· < ·)) (first : KeptPart s ms a)
    (second : KeptPart s ms b) : a = b := by
  obtain ⟨subA, ⟨k, insideA, classA⟩, bestA⟩ := first
  obtain ⟨subB, ⟨l, insideB, classB⟩, bestB⟩ := second
  have lowest : ∀ j ∈ b, ∃ i ∈ a, i ≤ j := by
    rcases bestA l insideB b subB classB with less | ⟨_, low⟩
    · rcases bestB k insideA a subA classA with more | ⟨same, _⟩ <;> omega
    · exact low
  have lower : ∀ j ∈ a, ∃ i ∈ b, i ≤ j := by
    rcases bestB k insideA a subA classA with less | ⟨_, low⟩
    · rcases bestA l insideB b subB classB with more | ⟨same, _⟩ <;> omega
    · exact low
  have member : k ∈ a := (classA k).mpr ⟨insideA, .refl⟩
  obtain ⟨i, memA, least⟩ := exists_least (List.ne_nil_of_mem member)
  obtain ⟨j, memB, low⟩ := lower i memA
  obtain ⟨x, mem, under⟩ := lowest j memB
  have same : j = i := Fin.le_antisymm low (Fin.le_trans (least x mem) under)
  have linkA := ((classA i).mp memA).2
  have linkB := ((classB i).mp (same ▸ memB)).2
  refine sublist_ext ascending subA subB fun j => ?_
  rw [classA j, classB j]
  exact and_congr_right fun _ => ⟨fun h => (linkB.trans linkA.symm).trans h, fun h => (linkA.trans linkB.symm).trans h⟩

/-- R36: the part that the model keeps is the one. -/
theorem KeptPart.eq_keptOf {s : State} {p : PanSlot} {kept : List CoilId} (some : s.pans[p].pres.members ≠ [])
    (ascending : s.pans[p].pres.members.Pairwise (· < ·)) (few : s.pans[p].pres.members.length ≤ 12)
    (h : KeptPart s s.pans[p].pres.members kept) : keptOf s p = kept :=
  (keptComponent_keptPart some ascending few).unique ascending h

end Sys2Proof.Machine
end

section
/-! What a member release leaves of the pan: its end, or a part of it (R35 to R37). -/

namespace Sys2Proof.Machine

-- The default arguments `by decide` wait for the kernel: one declaration after the other holds few threads.
set_option Elab.async false

/-! ### The pan that ends -/

theorem released_eq (s : State) (k : CoilId) (p : PanSlot) : released s k p = memberGone s k p := rfl

/-- R44: a pan is lifted, before a grace of 0 retires it. -/
theorem liftTold_eq (s : State) (p : PanSlot) : liftTold s p = liftedUp s p := by
  have eq := queueNotice_as (s := s) (t := lifted s p) rfl rfl .panLifted (s.handleOf p) s.ts.work.grace 0
  rw [liftTold, eq, liftedUp, queueNotice_frame s]
  rfl

theorem endPresence_forming {s : State} {p : PanSlot} (forming : s.pans[p].pres.presence = .forming) :
    endPresence s p = { s with pans := s.pans.set p { s.pans[p] with pres := .freed s.pans[p].pres.gen } } := by
  rw [endPresence, forming]
  rfl

theorem endPresence_lifts {s : State} {p : PanSlot} (standing : s.pans[p].pres.presence = .placed ∨ s.pans[p].pres.presence = .moving) :
    endPresence s p = if s.ts.work.grace = 0 then retired (liftedUp s p) p .grace else liftedUp s p := by
  have lifts : endPresence s p = liftPan s p := by
    rcases standing with placed | moving
    · rw [endPresence, placed]
    · rw [endPresence, moving]
  rw [lifts, liftPan_eq, liftTold_eq, retire_eq]

theorem endPresence_idle {s : State} {p : PanSlot} (idle : s.pans[p].pres.presence = .free ∨ s.pans[p].pres.presence = .lifted) :
    endPresence s p = s := by
  rcases idle with free | up
  · rw [endPresence, free]
  · rw [endPresence, up]

/-! ### The pan that keeps a part -/

theorem queued_append (q ks js : List CoilId) : queued q (ks ++ js) = queued (queued q ks) js := List.foldl_append ..

theorem enqueuedAround_eq (ks : List CoilId) (s : State) :
    ks.foldl enqueueAround s = { s with pt := { s.pt with examQueue := queued s.pt.examQueue (ks.flatMap (waitingAround s)) } } := by
  induction ks generalizing s with
  | nil => rfl
  | cons k ks ih =>
    rw [List.foldl_cons, enqueueAround_eq, ih, List.flatMap_cons, queued_append]
    rfl

theorem unowned_eq (ks : List CoilId) (s : State) : ks.foldl unownClaim s = { s with coils := (ks.foldl unownClaim s).coils } := by
  induction ks generalizing s with
  | nil => rfl
  | cons k ks ih =>
    rw [List.foldl_cons, ih]
    unfold unownClaim
    split <;> rfl

/-- R36: the pan keeps a part of its members, and the others are unowned. -/
def keeping (s : State) (p : PanSlot) (kept : List CoilId) : State :=
  { s with
    coils := Vector.ofFn fun j =>
      if j ∈ (s.pans[p].pres.members.filter fun j => !kept.contains j) ∧ s.coils[j].occupancy = .member then
        { s.coils[j] with occupancy := .sensed, owner := none } else s.coils[j]
    pans := s.pans.set p { s.pans[p] with pres := splitPres kept s.pans[p].pres } }

theorem keeping_pan (s : State) (p : PanSlot) (kept : List CoilId) :
    (keeping s p kept).pans[p] = { s.pans[p] with pres := splitPres kept s.pans[p].pres } := (Laws.set_get ..).trans (if_pos rfl)

theorem splitOwned_eq (s : State) (p : PanSlot) : splitOwned s p = keeping s p (keptOf s p) := by
  have coils : (splitOwned s p).coils = (keeping s p (keptOf s p)).coils := Vector.ext fun i low => by
    have coil := unowned_get (shedOf s p) (s.modPres p (splitPres (keptOf s p))) ⟨i, low⟩
    have other : (keeping s p (keptOf s p)).coils[i] = _ := Vector.getElem_ofFn ..
    exact coil.trans other.symm
  rw [splitOwned] at coils ⊢
  rw [unowned_eq, coils]
  rfl

/-- R24, R36: the part kept has its figures, and the split is posted. -/
def keptPosted (s : State) (p : PanSlot) (kept : List CoilId) : State :=
  { keeping s p kept with
    pans := s.pans.set p { s.pans[p] with pres := figured (keeping s p kept) p }
    posts := { s.posts with
               pans := s.posts.pans ++ materialPost s p (figured (keeping s p kept) p).material
               triggers := s.posts.triggers ++ (if s.pans[p].pres.presence.standing then [.membership p] else [])
               rebuilds := s.posts.rebuilds + (if s.pans[p].pres.presence.standing then 1 else 0) } }

/-- R37: the split is told. -/
def splitPort (s : State) (p : PanSlot) (kept : List CoilId) : ControllerPort :=
  let shed : List CoilId := s.pans[p].pres.members.filter fun j => !kept.contains j
  (if s.pans[p].pres.presence.standing ∧ shed ≠ [] then queueNotice s .panSplit (s.handleOf p) shed.length kept.length else s).cp

theorem materialPost_congr {s t : State} {p : PanSlot} (standing : t.pans[p].pres.presence.standing = s.pans[p].pres.presence.standing)
    (material : t.pans[p].pres.material = s.pans[p].pres.material) : materialPost t p = materialPost s p := by
  funext m
  simp only [materialPost, standing, material]

theorem refigure_keeping (s : State) (p : PanSlot) (kept : List CoilId) :
    refigure (keeping s p kept) p =
      { keeping s p kept with
        pans := s.pans.set p { s.pans[p] with pres := figured (keeping s p kept) p }
        posts := { s.posts with pans := s.posts.pans ++ materialPost s p (figured (keeping s p kept) p).material } } := by
  have post : materialPost (keeping s p kept) p = materialPost s p :=
    materialPost_congr (by rw [keeping_pan]; exact standing_moved _) (by rw [keeping_pan]; rfl)
  have set (x : PanRecord) : (keeping s p kept).pans.set p x = s.pans.set p x := Vector.set_set ..
  rw [refigure_eq, post, keeping_pan, set]
  rfl

theorem keptPosted_eq (s : State) (p : PanSlot) :
    (if s.pans[p].pres.presence.standing then postMembership (refigure (splitOwned s p) p) p else refigure (splitOwned s p) p) =
      keptPosted s p (keptOf s p) := by
  rw [splitOwned_eq, refigure_keeping, keptPosted]
  generalize figured (keeping s p (keptOf s p)) p = f, keeping s p (keptOf s p) = g
  cases s.pans[p].pres.presence.standing with
  | true => rfl
  | false => simp only [Bool.false_eq_true, if_false, List.append_nil]; rfl

theorem keptPosted_kept (s : State) (p : PanSlot) (kept : List CoilId) :
    (keptPosted s p kept).cp = s.cp ∧ (keptPosted s p kept).fe = s.fe ∧ (keptPosted s p kept).pt = s.pt ∧ (keptPosted s p kept).ts = s.ts ∧
      (keptPosted s p kept).coils = (keeping s p kept).coils := by
  simp only [keptPosted, keeping, and_self]

theorem splitTold_eq (s : State) (p : PanSlot) :
    splitTold s p = { keptPosted s p (keptOf s p) with cp := splitPort s p (keptOf s p) } := by
  obtain ⟨cp, fe, -⟩ := keptPosted_kept s p (keptOf s p)
  have told := queueNotice_as cp (congrArg FrameEngine.frameCount fe) .panSplit (s.handleOf p) (shedOf s p).length (keptOf s p).length
  simp only [splitTold, keptPosted_eq, told, splitPort]
  generalize keptPosted s p (keptOf s p) = g at cp
  unfold shedOf
  split
  · rfl
  · rw [← cp]

theorem splitInto_eq (s : State) (k : CoilId) (p : PanSlot) :
    splitInto s k p (keptOf s p) =
      { keptPosted s p (keptOf s p) with
        pt := { s.pt with
                examQueue := queued s.pt.examQueue
                  (shedOf s p ++ waitingAround (keeping s p (keptOf s p)) k ++ aroundKept (keeping s p (keptOf s p)) (keptOf s p) ++
                    (shedOf s p).flatMap (waitingAround (keeping s p (keptOf s p)))) }
        cp := splitPort s p (keptOf s p) } := by
  unfold splitInto keptPosted splitPort aroundKept keeping splitPres shedOf
  rfl

/-- Which coils wait around is a matter of the coils and the tables. -/
theorem around_kept {u v : State} (tables : u.ts = v.ts) (coils : u.coils = v.coils) :
    waitingAround u = waitingAround v ∧ aroundKept u = aroundKept v := by
  have same : waiting u = waiting v := by unfold waiting; rw [coils]
  have near : neighbours u = neighbours v := by unfold neighbours; rw [tables]
  exact ⟨by unfold waitingAround; rw [same, near], by unfold aroundKept; rw [same, near]⟩

theorem splitTold_queue (s : State) (p : PanSlot) :
    (splitTold s p).pt = s.pt ∧ waitingAround (splitTold s p) = waitingAround (keeping s p (keptOf s p)) ∧
      aroundKept (splitTold s p) = aroundKept (keeping s p (keptOf s p)) := by
  obtain ⟨-, -, pt, tables, coils⟩ := keptPosted_kept s p (keptOf s p)
  have order : (keeping s p (keptOf s p)).ts = s.ts := by simp only [keeping]
  rw [splitTold_eq]
  generalize keptPosted s p (keptOf s p) = g, keeping s p (keptOf s p) = v at *
  generalize splitPort s p (keptOf s p) = port
  exact ⟨pt, around_kept (tables.trans order.symm) coils⟩

/-- R36, R37: the model's split. -/
theorem splitCheck_splitInto (s : State) (p : PanSlot) (k : CoilId) : splitCheck s p k = splitInto s k p (keptOf s p) := by
  have queues (v : State) (as bs cs : List CoilId) (b : CoilId) :
      cs.foldl enqueueAround (enqueue (enqueueAround (enqueue v as) b) bs) =
        { v with pt := { v.pt with examQueue := queued v.pt.examQueue (as ++ waitingAround v b ++ bs ++ cs.flatMap (waitingAround v)) } } := by
    rw [enqueue_eq, enqueueAround_eq, enqueue_eq, enqueuedAround_eq, queued_append, queued_append, queued_append]
    rfl
  obtain ⟨pt, first, second⟩ := splitTold_queue s p
  rw [splitCheck_eq, queues, first, second, pt, splitTold_eq, splitInto_eq]

end Sys2Proof.Machine
end

section
/-! What the events after a member release keep: foundings stand apart, and the coil released stays out (R11, R35 to R37). -/

namespace Sys2Proof.Machine

-- The default arguments `by decide` wait for the kernel: one declaration after the other holds few threads.
set_option Elab.async false

/-! ### A member leaves its pan without a founding -/

theorem groups_unown (s : State) (k : CoilId) : GroupsOnly s (unownClaim s k) := by
  unfold unownClaim
  exact .ite (groups_coils _ _) (.refl s)

theorem groups_liftedUp (s : State) (p : PanSlot) : GroupsOnly s (liftedUp s p) := by
  rw [← liftTold_eq]
  have raised := groups_pres s p (pres := { s.pans[p].pres with
    presence := .lifted, liftedAt := some s.fe.seconds, grace := some s.ts.work.grace }) rfl
  have listed : GroupsOnly s (lifted s p) := raised.trans (groups_pt _ { s.pt with liftOrder := s.pt.liftOrder ++ [p] })
  have noticed := listed.trans (groups_notice _ .panLifted (s.handleOf p) s.ts.work.grace 0)
  unfold liftTold
  generalize queueNotice (lifted s p) .panLifted (s.handleOf p) s.ts.work.grace 0 = v at *
  exact (noticed.trans (groups_postPan v (v.posts.pans ++ [.lift p]))).trans (groups_postMembership _ p)

theorem groups_endPresence (s : State) (p : PanSlot) : GroupsOnly s (endPresence s p) := by
  by_cases idle : s.pans[p].pres.presence = .free ∨ s.pans[p].pres.presence = .lifted
  · rw [endPresence_idle idle]
    exact .refl s
  by_cases forming : s.pans[p].pres.presence = .forming
  · rw [endPresence_forming forming]
    exact groups_pres s p rfl
  have standing : s.pans[p].pres.presence = .placed ∨ s.pans[p].pres.presence = .moving := by
    cases presence : s.pans[p].pres.presence <;> simp_all
  rw [endPresence_lifts standing]
  exact .ite ((groups_liftedUp s p).trans (groups_retired _ p .grace)) (groups_liftedUp s p)

theorem groups_enqueue (s : State) (ks : List CoilId) : GroupsOnly s (enqueue s ks) := by
  rw [enqueue_eq]
  exact groups_pt s _

theorem groups_enqueueAround (s : State) (k : CoilId) : GroupsOnly s (enqueueAround s k) := groups_enqueue s _

theorem groups_splitTold (s : State) (p : PanSlot) : GroupsOnly s (splitTold s p) := by
  have kept := groups_pres s p (pres := splitPres (keptOf s p) s.pans[p].pres) rfl
  have owned : GroupsOnly s (splitOwned s p) := kept.trans (.foldl groups_unown (shedOf s p) _)
  have figures := owned.trans (groups_refigure _ p)
  have posted : GroupsOnly s (if s.pans[p].pres.presence.standing then postMembership (refigure (splitOwned s p) p) p
      else refigure (splitOwned s p) p) := .ite (figures.trans (groups_postMembership _ p)) figures
  exact .ite (posted.trans (groups_notice ..)) posted

theorem groups_splitCheck (s : State) (p : PanSlot) (k : CoilId) : GroupsOnly s (splitCheck s p k) := by
  rw [splitCheck_eq]
  have queued := ((groups_enqueue (splitTold s p) (shedOf s p)).trans (groups_enqueueAround _ k)).trans
    (groups_enqueue _ (aroundKept (splitTold s p) (keptOf s p)))
  exact ((groups_splitTold s p).trans queued).trans (.foldl groups_enqueueAround (shedOf s p) _)

theorem groups_dropMember (s : State) (k : CoilId) (p : PanSlot) : GroupsOnly s (dropMember s k p) := by
  have pan : (vacate s k).pans[p] = s.pans[p] := rfl
  have vacated : GroupsOnly s (vacate s k) := groups_coils s _
  have gone : GroupsOnly s (released s k p) := vacated.trans (groups_pres (vacate s k) p rfl)
  rw [dropMember_eq]
  exact gone.trans (.ite ((groups_endPresence _ p).trans (groups_enqueue _ _)) (groups_splitCheck _ p k))

theorem tracks_releaseMember (s : State) (k : CoilId) (p : PanSlot) : Tracks (fun _ => False) s (releaseMember s k p) := by
  have dropped := ((groups_dropMember s k p).tracks fun _ => False).emptyQueue
  unfold releaseMember
  split
  · exact dropped.serveOrphans
  · exact dropped

/-! ### The coil released stays out -/

/-- A coil is as the release left it, and off the list of its pan. -/
structure StaysOut (k : CoilId) (p : PanSlot) (r : CoilRecord) (s : State) : Prop where
  coil : s.coils[k] = r
  member : k ∉ s.pans[p].pres.members

section
variable {k : CoilId} {p : PanSlot} {r : CoilRecord}

theorem StaysOut.same {s t : State} (h : StaysOut k p r s) (coils : t.coils = s.coils) (pres : t.pans[p].pres = s.pans[p].pres) :
    StaysOut k p r t := ⟨coils ▸ h.coil, pres ▸ h.member⟩

theorem StaysOut.founds {s : State} (h : StaysOut k p r s) {j : CoilId} (other : j ≠ k) (q : PanSlot) :
    StaysOut k p r (foundedIn (readySlot s q) j q) := by
  have ready := readySlot_readied s q
  have coils : (readySlot s q).coils = s.coils := (congrArg State.coils ready.frame :)
  refine ⟨?_, ?_⟩
  · have coil : (foundedIn (readySlot s q) j q).coils[k] = (readySlot s q).coils[k] := (Laws.set_get ..).trans (if_neg other)
    rw [coil, coils]
    exact h.coil
  · by_cases here : q = p
    · subst here
      rw [foundedIn_pan, if_pos rfl]
      exact fun mem => other (List.mem_singleton.mp mem).symm
    · rw [foundedIn_other _ _ here, ready.pres]
      exact h.member

theorem StaysOut.retired {s : State} (h : StaysOut k p r s) (q : PanSlot) (reason : Reason) :
    StaysOut k p r (retired s q reason) := by
  have coils : (Machine.retired s q reason).coils = s.coils := by
    unfold Machine.retired
    simp only [queueNotice_keeps]
  refine ⟨coils ▸ h.coil, ?_⟩
  rw [retired_pan]
  split
  · exact List.not_mem_nil
  · exact h.member

theorem StaysOut.examine {s : State} (h : StaysOut k p r s) (vacant : r.occupancy = .vacant) (j : CoilId) : StaysOut k p r (examine s j) := by
  by_cases other : j = k
  · have still : waiting s j = false := by
      rw [other, waiting, h.coil, vacant]
      rfl
    rw [examine_still still]
    exact h
  refine examine_cases s j h (h.same rfl rfl) (fun q waits => ?_) (fun _ _ _ => ?_) (fun q waits _ => ?_) (fun q later waits _ _ => ?_)
  · rw [joinPan_eq waits]
    refine ⟨(Laws.set_get ..).trans ((if_neg other).trans h.coil), ?_⟩
    by_cases here : q = p
    · subst here
      have members : (joinedTo s j q).pans[q].pres.members = insertCoil j s.pans[q].pres.members := by
        rw [joinedTo_pan, if_pos rfl]
        change (figured (grownBy s j q) q).members = _
        rw [joinedTo_pres]
      rw [members, mem_insertCoil]
      exact fun mem => mem.elim (fun same => other same.symm) h.member
    · rw [joinedTo_pan, if_neg here]
      exact h.member
  · have coils : (addOrphan s j).coils = s.coils := by
      rw [addOrphan_eq]
      dsimp only
      split
      · simp only [queueNotice_keeps]
      · rfl
    exact h.same coils (pres_kept (addOrphan_touches s j) p)
  · rw [foundAt_eq waits]
    exact h.founds other q
  · have waits' : waiting (retire s q .evicted) j = true := (waiting_kept (retire_touches s q .evicted) j).trans waits
    rw [foundAt_eq waits', retire_eq]
    exact (h.retired q .evicted).founds other q

theorem StaysOut.emptyQueue {s : State} (h : StaysOut k p r s) (vacant : r.occupancy = .vacant) : StaysOut k p r (emptyQueue s) :=
  drain_keeps (P := StaysOut k p r) (fun _ _ g => g.same rfl rfl) (fun _ j g => g.examine vacant j) 4225 h

theorem StaysOut.serveOrphans {s : State} (h : StaysOut k p r s) (vacant : r.occupancy = .vacant) : StaysOut k p r (serveOrphans s) :=
  serve_keeps (P := StaysOut k p r) (fun _ _ g => g.same rfl rfl) (fun _ _ g => g.same rfl rfl) (fun _ j g => g.examine vacant j) 64 h

end

/-! ### The coil is out once its pan has been left -/

theorem liftedUp_pan (s : State) (p : PanSlot) :
    (liftedUp s p).pans[p].pres =
      { s.pans[p].pres with presence := .lifted, liftedAt := some s.fe.seconds, grace := some s.ts.work.grace } := by
  have pan : (liftedUp s p).pans[p] = _ := (Laws.set_get ..).trans (if_pos rfl)
  rw [pan]

theorem StaysOut.endPresence {k : CoilId} {p : PanSlot} {r : CoilRecord} {s : State} (h : StaysOut k p r s) :
    StaysOut k p r (endPresence s p) := by
  by_cases idle : s.pans[p].pres.presence = .free ∨ s.pans[p].pres.presence = .lifted
  · rw [endPresence_idle idle]
    exact h
  by_cases forming : s.pans[p].pres.presence = .forming
  · rw [endPresence_forming forming]
    have pan (x : PanRecord) : (s.pans.set p x)[p] = x := (Laws.set_get ..).trans (if_pos rfl)
    refine ⟨h.coil, ?_⟩
    dsimp only
    rw [pan]
    exact List.not_mem_nil
  have standing : s.pans[p].pres.presence = .placed ∨ s.pans[p].pres.presence = .moving := by
    cases presence : s.pans[p].pres.presence <;> simp_all
  have up : StaysOut k p r (liftedUp s p) := by
    have coils : (liftedUp s p).coils = s.coils := by
      unfold liftedUp
      simp only [queueNotice_keeps]
    exact ⟨coils ▸ h.coil, liftedUp_pan s p ▸ h.member⟩
  rw [endPresence_lifts standing]
  split
  · exact up.retired p .grace
  · exact up

theorem keeping_coil (s : State) (p : PanSlot) (kept : List CoilId) (j : CoilId) :
    (keeping s p kept).coils[j] =
      if j ∈ (s.pans[p].pres.members.filter fun j => !kept.contains j) ∧ s.coils[j].occupancy = .member then
        { s.coils[j] with occupancy := .sensed, owner := none } else s.coils[j] := Vector.getElem_ofFn ..

theorem StaysOut.splitCheck {k : CoilId} {p : PanSlot} {r : CoilRecord} {s : State} (h : StaysOut k p r s) (vacant : r.occupancy = .vacant) :
    StaysOut k p r (splitCheck s p k) := by
  obtain ⟨-, -, -, -, coils⟩ := keptPosted_kept s p (keptOf s p)
  have coil : (keptPosted s p (keptOf s p)).coils[k] = r := by
    rw [coils, keeping_coil, if_neg fun member => Occupancy.noConfusion (vacant.symm.trans ((congrArg _ h.coil.symm).trans member.2))]
    exact h.coil
  have pan : (keptPosted s p (keptOf s p)).pans[p] = { s.pans[p] with pres := figured (keeping s p (keptOf s p)) p } := by
    rw [keptPosted]
    exact (Laws.set_get ..).trans (if_pos rfl)
  have members : (keptPosted s p (keptOf s p)).pans[p].pres.members = keptOf s p := by
    rw [pan, figured_eq, keeping_pan]
    rfl
  have fewer : keptOf s p ⊆ s.pans[p].pres.members := by
    by_cases some : s.pans[p].pres.members = []
    · rw [keptOf, some]
      exact List.nil_subset _
    · exact (keptOf_sublist some).1.subset
  have out : k ∉ (keptPosted s p (keptOf s p)).pans[p].pres.members := fun mem => h.member (fewer (members ▸ mem))
  rw [splitCheck_splitInto, splitInto_eq]
  generalize keptPosted s p (keptOf s p) = g at *
  exact ⟨coil, out⟩

/-- R11: the coil released is VACANT and unowned, and off the list of its pan, whatever is examined after. -/
theorem releaseMember_out (s : State) (k : CoilId) (p : PanSlot) :
    StaysOut k p { s.coils[k] with occupancy := .vacant, confirm := 0, owner := none } (releaseMember s k p) := by
  have gone : StaysOut k p { s.coils[k] with occupancy := .vacant, confirm := 0, owner := none } (released s k p) := by
    refine ⟨(released_coil s k k p).trans (if_pos rfl), ?_⟩
    rw [released_here]
    exact fun mem => of_decide_eq_true (List.mem_filter.mp mem).2 rfl
  have dropped : StaysOut k p { s.coils[k] with occupancy := .vacant, confirm := 0, owner := none } (dropMember s k p) := by
    rw [dropMember_eq]
    split
    · rw [enqueueAround_eq]
      exact gone.endPresence.same rfl rfl
    · exact gone.splitCheck rfl
  unfold releaseMember
  split
  · exact (dropped.emptyQueue rfl).serveOrphans rfl
  · exact dropped.emptyQueue rfl

end Sys2Proof.Machine
end

section
/-! The releases and material changes that the Pan Tracker takes (R11, R34 to R38). -/

namespace Sys2Proof.Machine

-- The default arguments `by decide` wait for the kernel: one declaration after the other holds few threads.
set_option Elab.async false

/-! ### Where a slot became FREE -/

theorem freeCount_grows {s t : State} {p : PanSlot} (others : ∀ q : PanSlot, q ≠ p → t.pans[q].pres.presence = s.pans[q].pres.presence)
    (held : s.pans[p].pres.presence ≠ .free) (free : t.pans[p].pres.presence = .free) : freeCount s < freeCount t := by
  have more : (allPans.filter fun q => s.pans[q].pres.presence == .free).Sublist (allPans.filter fun q => t.pans[q].pres.presence == .free) := by
    refine List.monotone_filter_right allPans fun q before => ?_
    have other : q ≠ p := fun here => held (here ▸ beq_iff_eq.mp before)
    rw [others q other]
    exact before
  refine Nat.lt_of_le_of_ne more.length_le fun same => ?_
  have mem : p ∈ allPans.filter fun q => t.pans[q].pres.presence == .free :=
    List.mem_filter.mpr ⟨List.mem_finRange p, beq_iff_eq.mpr free⟩
  rw [← more.eq_of_length same] at mem
  exact held (beq_iff_eq.mp (List.mem_filter.mp mem).2)

theorem freeCount_stays {s t : State} (held : ∀ q : PanSlot, t.pans[q].pres.presence = .free → s.pans[q].pres.presence = .free) :
    ¬ freeCount s < freeCount t := by
  refine Nat.not_lt.mpr (List.Sublist.length_le ?_)
  exact List.monotone_filter_right allPans fun q free => beq_iff_eq.mpr (held q (beq_iff_eq.mp free))

theorem releaseMember_serves {s : State} {k : CoilId} {p : PanSlot} (held : s.pans[p].pres.presence ≠ .free) {v : State}
    (dropped : dropMember s k p = v) (others : ∀ q : PanSlot, q ≠ p → v.pans[q].pres.presence = s.pans[q].pres.presence)
    (free : v.pans[p].pres.presence = .free) : releaseMember s k p = serveOrphans (emptyQueue v) := by
  rw [releaseMember, dropped, if_pos (freeCount_grows others held free)]

theorem releaseMember_examines {s : State} {k : CoilId} {p : PanSlot} {v : State} (dropped : dropMember s k p = v)
    (held : ∀ q : PanSlot, v.pans[q].pres.presence = .free → s.pans[q].pres.presence = .free) : releaseMember s k p = emptyQueue v := by
  rw [releaseMember, dropped, if_neg (freeCount_stays held)]

/-! ### The rows of a member release -/

theorem memberGone_pan (s : State) (k : CoilId) (p q : PanSlot) :
    (memberGone s k p).pans[q] =
      if p = q then { s.pans[p] with pres := { s.pans[p].pres with members := s.pans[p].pres.members.filter (· ≠ k) } } else s.pans[q] :=
  Laws.set_get ..

theorem memberGone_presence (s : State) (k : CoilId) (p q : PanSlot) :
    (memberGone s k p).pans[q].pres.presence = s.pans[q].pres.presence := by
  rw [memberGone_pan]
  split
  · next here => rw [here]
  · rfl

section
variable {s : State} {k : CoilId} {p : PanSlot}

theorem dropMember_last (last : (memberGone s k p).pans[p].pres.members = []) :
    dropMember s k p = enqueueAround (endPresence (memberGone s k p) p) k := (dropMember_eq s k p).trans (if_pos last)

theorem dropMember_splits (more : (memberGone s k p).pans[p].pres.members ≠ []) :
    dropMember s k p = splitInto (memberGone s k p) k p (keptOf (memberGone s k p) p) :=
  (dropMember_eq s k p).trans ((if_neg more).trans (splitCheck_splitInto _ p k))

theorem releaseMember_forming (last : (memberGone s k p).pans[p].pres.members = []) (forming : s.pans[p].pres.presence = .forming) :
    releaseMember s k p =
      serveOrphans (emptyQueue (enqueueAround
        { memberGone s k p with
          pans := (memberGone s k p).pans.set p { (memberGone s k p).pans[p] with pres := .freed s.pans[p].pres.gen } } k)) := by
  have gen : (memberGone s k p).pans[p].pres.gen = s.pans[p].pres.gen := by rw [memberGone_pan, if_pos rfl]
  have ends := endPresence_forming ((memberGone_presence s k p p).trans forming)
  rw [gen] at ends
  have pan (q : PanSlot) (x : PanRecord) : ((memberGone s k p).pans.set p x)[q] = if p = q then x else (memberGone s k p).pans[q] :=
    Laws.set_get ..
  refine releaseMember_serves (fun free => Presence.noConfusion (forming.symm.trans free)) ((dropMember_last last).trans (by rw [ends]))
    (fun q other => ?_) ?_
  · rw [enqueueAround_eq]
    dsimp only
    rw [pan, if_neg other.symm]
    exact memberGone_presence s k p q
  · rw [enqueueAround_eq]
    dsimp only
    rw [pan, if_pos rfl]
    rfl

theorem liftedUp_other (v : State) {q : PanSlot} (other : p ≠ q) : (liftedUp v p).pans[q] = v.pans[q] :=
  (Laws.set_get ..).trans (if_neg other)

theorem releaseMember_lifts (last : (memberGone s k p).pans[p].pres.members = [])
    (standing : s.pans[p].pres.presence = .placed ∨ s.pans[p].pres.presence = .moving) (grace : 0 < s.ts.work.grace) :
    releaseMember s k p = emptyQueue (enqueueAround (liftedUp (memberGone s k p) p) k) := by
  have ends := (endPresence_lifts (s := memberGone s k p) (p := p) (by rw [memberGone_presence]; exact standing)).trans
    (if_neg (Nat.pos_iff_ne_zero.mp grace))
  refine releaseMember_examines ((dropMember_last last).trans (by rw [ends])) fun q free => ?_
  have free : (liftedUp (memberGone s k p) p).pans[q].pres.presence = .free := by
    rw [enqueueAround_eq] at free
    exact free
  by_cases here : p = q
  · subst here
    rw [liftedUp_pan] at free
    exact Presence.noConfusion free
  · rw [liftedUp_other _ here, memberGone_presence] at free
    exact free

theorem releaseMember_retires (last : (memberGone s k p).pans[p].pres.members = [])
    (standing : s.pans[p].pres.presence = .placed ∨ s.pans[p].pres.presence = .moving) (grace : s.ts.work.grace = 0) :
    releaseMember s k p =
      serveOrphans (emptyQueue (enqueueAround (retired (liftedUp (memberGone s k p) p) p .grace) k)) := by
  have ends := (endPresence_lifts (s := memberGone s k p) (p := p) (by rw [memberGone_presence]; exact standing)).trans (if_pos grace)
  have held : s.pans[p].pres.presence ≠ .free := fun free => by
    rcases standing with placed | moving
    · exact Presence.noConfusion (placed.symm.trans free)
    · exact Presence.noConfusion (moving.symm.trans free)
  have presence (q : PanSlot) : (enqueueAround (retired (liftedUp (memberGone s k p) p) p .grace) k).pans[q].pres.presence =
      if p = q then .free else s.pans[q].pres.presence := by
    rw [enqueueAround_eq]
    dsimp only
    rw [retired_pan]
    split
    · rfl
    · next other => rw [liftedUp_other _ other, memberGone_presence]
  exact releaseMember_serves held ((dropMember_last last).trans (by rw [ends]))
    (fun q other => (presence q).trans (if_neg other.symm)) ((presence p).trans (if_pos rfl))

theorem releaseMember_splits (more : (memberGone s k p).pans[p].pres.members ≠ []) :
    releaseMember s k p = emptyQueue (splitInto (memberGone s k p) k p (keptOf (memberGone s k p) p)) := by
  refine releaseMember_examines (dropMember_splits more) fun q free => ?_
  have pan : (splitInto (memberGone s k p) k p (keptOf (memberGone s k p) p)).pans[q] =
      if p = q then { (memberGone s k p).pans[p] with pres := figured (keeping (memberGone s k p) p (keptOf (memberGone s k p) p)) p }
        else (memberGone s k p).pans[q] := by
    rw [splitInto_eq, keptPosted]
    exact Laws.set_get ..
  rw [pan] at free
  rw [← memberGone_presence s k p q]
  by_cases here : p = q
  · subst here
    rw [if_pos rfl, figured_eq, keeping_pan] at free
    change (if (memberGone s k p).pans[p].pres.presence = .placed then Presence.moving
      else (memberGone s k p).pans[p].pres.presence) = .free at free
    split at free
    · exact Presence.noConfusion free
    · exact free
  · rw [if_neg here] at free
    exact free

end

/-! ### The events as commands -/

/-- R11: the release notice for the Power Output Monitor, if the coil was firing. -/
def releaseTold (k : CoilId) (firing : Bool) (v : State) : State :=
  { v with posts := { v.posts with releases := v.posts.releases ++ (if firing then [k] else []) } }

theorem releaseTold_eq (k : CoilId) (firing : Bool) (v : State) : (if firing then postRelease v k else v) = releaseTold k firing v := by
  cases firing with
  | true => rfl
  | false => simp only [Bool.false_eq_true, if_false, releaseTold, List.append_nil]

section
variable {s : State} {k : CoilId} {m : Material} {rest : List CoilEvent}

theorem action_memberRelease {former : Option PanSlot} {firing : Bool} (high : s.sup.hub ≠ .supplyLow)
    (head : s.posts.coilEvents = .memberRelease k former m firing 0 0 :: rest) :
    action .memberRelease s = takeMemberRelease { s with posts := { s.posts with coilEvents := rest } } k m firing := by
  have taken : action .memberRelease s = takeMemberRelease (popCoil s) k m firing := by
    refine (if_neg high).trans ?_
    rw [head] <;> rfl
  rw [taken, popCoil_eq head]

theorem action_memberRelease_waits {former : Option PanSlot} {firing : Bool} {frames seconds : Nat}
    (head : s.posts.coilEvents = .memberRelease k former m firing frames seconds :: rest) (waits : 0 < frames ∨ 0 < seconds) :
    action .memberRelease s = s := by
  by_cases low : s.sup.hub = .supplyLow
  · exact if_pos low
  · refine (if_neg low).trans ?_
    rw [head]
    cases frames with
    | succ n => rfl
    | zero =>
      cases seconds with
      | succ n => rfl
      | zero => exact absurd waits (by omega)

theorem action_sensedReleased (high : s.sup.hub ≠ .supplyLow) (head : s.posts.coilEvents = .released k m :: rest) :
    action .sensedReleased s = takeSensedRelease { s with posts := { s.posts with coilEvents := rest } } k := by
  have taken : action .sensedReleased s = takeSensedRelease (popCoil s) k := by
    refine (if_neg high).trans ?_
    rw [head]
  rw [taken, popCoil_eq head]

theorem action_materialChanged {p : PanSlot} (high : s.sup.hub ≠ .supplyLow) (head : s.posts.coilEvents = .materialChanged k (some p) m :: rest) :
    action .materialChanged s = refigure { s with posts := { s.posts with coilEvents := rest } } p := by
  have taken : action .materialChanged s = refigure (popCoil s) p := by
    refine (if_neg high).trans ?_
    rw [head]
  rw [taken, popCoil_eq head]

/-! ### The release of a SENSED coil (R34) -/

/-- R34: a SENSED coil's release has been taken from the queue, and the coils around it are to be examined. -/
def aroundReleased (s : State) (k : CoilId) (rest : List CoilEvent) (orphans queue : List CoilId) : State :=
  { s with
    pt := { s.pt with orphans := orphans, examQueue := queued queue (waitingAround s k) }
    posts := { s.posts with coilEvents := rest } }

theorem exec_sensedReleased_gone (on : Settled s) (high : s.sup.hub ≠ .supplyLow) (head : s.posts.coilEvents = .released k m :: rest)
    (gone : s.coils[k].occupancy = .vacant ∨ s.coils[k].occupancy = .absent) :
    exec .sensedReleased s =
      .next (emptyQueue (aroundReleased s k rest (s.pt.orphans.filter (· ≠ k)) (s.pt.examQueue.filter (· ≠ k)))) := by
  rw [exec_settled on, action_sensedReleased high head, takeSensedRelease, withdraw]
  refine congrArg (fun v => Host.Outcome.next (emptyQueue (enqueueAround v k))) (if_pos gone) |>.trans ?_
  rw [enqueueAround_eq]
  rfl

theorem exec_sensedReleased_kept (on : Settled s) (high : s.sup.hub ≠ .supplyLow) (head : s.posts.coilEvents = .released k m :: rest)
    (held : ¬(s.coils[k].occupancy = .vacant ∨ s.coils[k].occupancy = .absent)) :
    exec .sensedReleased s = .next (emptyQueue (aroundReleased s k rest s.pt.orphans s.pt.examQueue)) := by
  rw [exec_settled on, action_sensedReleased high head, takeSensedRelease, withdraw]
  refine congrArg (fun v => Host.Outcome.next (emptyQueue (enqueueAround v k))) (if_neg held) |>.trans ?_
  rw [enqueueAround_eq]
  rfl

theorem emptyQueue_released (empty : s.pt.examQueue = []) (quiet : ∀ j ∈ neighbours s k, waiting s j = false) (orphans : List CoilId) :
    emptyQueue (aroundReleased s k rest orphans []) =
      { s with pt := { s.pt with orphans := orphans }, posts := { s.posts with coilEvents := rest } } := by
  have none : queued [] (waitingAround s k) = s.pt.examQueue := by rw [waitingAround_none quiet, empty]; rfl
  rw [aroundReleased, none]
  exact emptyQueue_nil empty

end

end Sys2Proof.Machine
end

section
/-! The release of a member as the command takes it, and the settlement of O41 (R11, R34 to R38). -/

namespace Sys2Proof.Machine

-- The default arguments `by decide` wait for the kernel: one declaration after the other holds few threads.
set_option Elab.async false

section
variable {s : State} {k : CoilId} {m : Material} {former : Option PanSlot} {firing : Bool} {rest : List CoilEvent}

/-- R11: the state once the event has been taken from its queue. -/
def popped (s : State) (rest : List CoilEvent) : State := { s with posts := { s.posts with coilEvents := rest } }

theorem exec_memberRelease (on : Settled s) (high : s.sup.hub ≠ .supplyLow)
    (head : s.posts.coilEvents = .memberRelease k former m firing 0 0 :: rest) :
    exec .memberRelease s = .next (takeMemberRelease (popped s rest) k m firing) := by
  rw [exec_settled on, action_memberRelease high head, popped]

theorem takeMemberRelease_member {p : PanSlot} (member : s.coils[k].occupancy = .member) (owner : s.coils[k].owner = some p) (m : Material)
    (firing : Bool) : takeMemberRelease s k m firing = releaseTold k firing (releaseMember s k p) := by
  rw [takeMemberRelease, member, owner, ← releaseTold_eq]

theorem takeMemberRelease_sensed (sensed : s.coils[k].occupancy = .sensed) (m : Material) (firing : Bool) :
    takeMemberRelease s k m firing =
      if (classEntry s k).release ≤ s.coils[k].coverage then s
      else releaseTold k firing (postCoilEvent (vacate s k) (.released k m)) := by
  rw [takeMemberRelease, sensed, ← releaseTold_eq]

theorem takeMemberRelease_gone (gone : s.coils[k].occupancy = .vacant ∨ s.coils[k].occupancy = .absent) (m : Material) (firing : Bool) :
    takeMemberRelease s k m firing = s := by
  rcases gone with vacant | absent
  · rw [takeMemberRelease, vacant]
  · rw [takeMemberRelease, absent]

theorem exec_memberRelease_member {p : PanSlot} (on : Settled s) (high : s.sup.hub ≠ .supplyLow)
    (head : s.posts.coilEvents = .memberRelease k former m firing 0 0 :: rest) (member : s.coils[k].occupancy = .member)
    (owner : s.coils[k].owner = some p) :
    exec .memberRelease s = .next (releaseTold k firing (releaseMember (popped s rest) k p)) := by
  rw [exec_memberRelease on high head, takeMemberRelease_member (s := popped s rest) member owner]

/-- R11, R22: what the release of a member leaves alone. -/
theorem memberRelease_apart {p : PanSlot} (on : Settled s) (high : s.sup.hub ≠ .supplyLow)
    (head : s.posts.coilEvents = .memberRelease k former m firing 0 0 :: rest) (member : s.coils[k].occupancy = .member)
    (owner : s.coils[k].owner = some p) :
    ∃ u, exec .memberRelease s = .next u ∧
      u = { s with
            coils := u.coils, pans := u.pans, pt := u.pt, hs := u.hs, ba := u.ba
            posts := { s.posts with
                       coilEvents := rest, releases := s.posts.releases ++ (if firing then [k] else []), pans := u.posts.pans
                       triggers := u.posts.triggers, rebuilds := u.posts.rebuilds }
            cp := { s.cp with notices := u.cp.notices, gap := u.cp.gap } } ∧
      u.coils[k] = { s.coils[k] with occupancy := .vacant, confirm := 0, owner := none } ∧ k ∉ u.pans[p].pres.members ∧
      FoundingsApart s u := by
  have taken := exec_memberRelease_member on high head member owner
  have tracks := tracks_releaseMember (popped s rest) k p
  have out := releaseMember_out (popped s rest) k p
  generalize releaseMember (popped s rest) k p = v at taken tracks out
  have apart := tracks.apart
  have frame := tracks.frame
  refine ⟨releaseTold k firing v, taken, ?_, out.coil, out.member, ⟨apart.parts, apart.lists, apart.none, apart.fresh⟩⟩
  unfold TrackerFrame at frame
  rw [frame]
  rfl

/-! ### A lone pan, and nothing to examine -/

theorem memberGone_waiting (quiet : ∀ j : CoilId, waiting s j = false) (p : PanSlot) (j : CoilId) : waiting (memberGone s k p) j = false := by
  have coil : (memberGone s k p).coils[j] = if k = j then { s.coils[k] with occupancy := .vacant, confirm := 0, owner := none } else s.coils[j] :=
    Laws.set_get ..
  have before := quiet j
  unfold waiting at before ⊢
  rw [coil]
  split
  · rfl
  · exact before

/-- R26: with no coil waiting and the queue empty nothing is examined. -/
theorem emptyQueue_quiet {v : State} (empty : v.pt.examQueue = []) (quiet : ∀ j : CoilId, waiting v j = false) :
    emptyQueue (enqueueAround v k) = v := by
  have stays : enqueueAround v k = v := by
    rw [enqueueAround_eq, waitingAround_none fun j _ => quiet j]
    rfl
  rw [stays, emptyQueue_nil empty]

theorem memberGone_last {p : PanSlot} (last : s.pans[p].pres.members = [k]) : (memberGone s k p).pans[p].pres.members = [] := by
  rw [memberGone_pan, if_pos rfl]
  change s.pans[p].pres.members.filter (· ≠ k) = []
  rw [last]
  simp

/-- R35: the last member of a FORMING pan frees the slot. -/
theorem releaseMember_forming_quiet {p : PanSlot} (last : s.pans[p].pres.members = [k]) (empty : s.pt.examQueue = []) (idle : s.pt.orphans = [])
    (quiet : ∀ j : CoilId, waiting s j = false) (forming : s.pans[p].pres.presence = .forming) :
    releaseMember s k p =
      { s with
        coils := s.coils.set k { s.coils[k] with occupancy := .vacant, confirm := 0, owner := none }
        pans := s.pans.set p { s.pans[p] with pres := .freed s.pans[p].pres.gen } } := by
  have waits (j : CoilId) := memberGone_waiting (k := k) quiet p j
  rw [releaseMember_forming (memberGone_last last) forming, memberGone_pan, if_pos rfl]
  have set (x : PanRecord) : (memberGone s k p).pans.set p x = s.pans.set p x := Vector.set_set ..
  rw [set, emptyQueue_quiet, serveOrphans_idle]
  · rfl
  · exact .inl idle
  · exact empty
  · exact waits

/-- R44: the last member of a PLACED or MOVING pan lifts it. -/
theorem releaseMember_lifts_quiet {p : PanSlot} (last : s.pans[p].pres.members = [k]) (empty : s.pt.examQueue = [])
    (quiet : ∀ j : CoilId, waiting s j = false) (standing : s.pans[p].pres.presence = .placed ∨ s.pans[p].pres.presence = .moving)
    (grace : 0 < s.ts.work.grace) :
    releaseMember s k p =
      { queueNotice s .panLifted (s.handleOf p) s.ts.work.grace 0 with
        coils := s.coils.set k { s.coils[k] with occupancy := .vacant, confirm := 0, owner := none }
        pans := s.pans.set p
          { s.pans[p] with
            pres := { s.pans[p].pres with
                      members := [], presence := .lifted, liftedAt := some s.fe.seconds, grace := some s.ts.work.grace } }
        pt := { s.pt with liftOrder := s.pt.liftOrder ++ [p] }
        posts := { s.posts with
                   pans := s.posts.pans ++ [.lift p], triggers := s.posts.triggers ++ [.membership p]
                   rebuilds := s.posts.rebuilds + 1 } } := by
  have pan : (memberGone s k p).pans[p] = { s.pans[p] with pres := { s.pans[p].pres with members := [] } } := by
    rw [memberGone_pan, if_pos rfl, last]
    simp
  have handle : (memberGone s k p).handleOf p = s.handleOf p := by rw [State.handleOf, pan, State.handleOf]
  have set (x : PanRecord) : (memberGone s k p).pans.set p x = s.pans.set p x := Vector.set_set ..
  have noticed : queueNotice (memberGone s k p) .panLifted (s.handleOf p) (memberGone s k p).ts.work.grace 0 = _ :=
    queueNotice_as (s := s) (t := memberGone s k p) rfl rfl .panLifted (s.handleOf p) s.ts.work.grace 0
  have waits (j : CoilId) : waiting (liftedUp (memberGone s k p) p) j = false := by
    have coils : (liftedUp (memberGone s k p) p).coils = (memberGone s k p).coils := by
      unfold liftedUp
      simp only [queueNotice_keeps]
    have before := memberGone_waiting (k := k) quiet p j
    unfold waiting at before ⊢
    rw [coils]
    exact before
  rw [releaseMember_lifts (memberGone_last last) standing grace, emptyQueue_quiet (v := liftedUp (memberGone s k p) p) empty waits, liftedUp, handle, pan, set, noticed, queueNotice_frame s]
  rfl

/-! ### Material changes (R38) -/

theorem refigure_none {p : PanSlot} (none : s.pans[p].pres.members = []) : refigure s p = s := by
  have still : figured s p = s.pans[p].pres := if_pos none
  have quiet : materialPost s p s.pans[p].pres.material = [] := if_neg fun c => c.2 rfl
  have set : s.pans.set p s.pans[p] = s.pans := Laws.set_same ..
  rw [refigure_eq, still, quiet, List.append_nil]
  change ({ s with pans := s.pans.set p s.pans[p] } : State) = s
  rw [set]

theorem exec_materialChanged {p : PanSlot} (on : Settled s) (high : s.sup.hub ≠ .supplyLow)
    (head : s.posts.coilEvents = .materialChanged k (some p) m :: rest) :
    exec .materialChanged s = .next (refigure (popped s rest) p) := by
  rw [exec_settled on, action_materialChanged high head, popped]

end

/-- Settles O41: each event is taken from its queue as its rule's operation, which is a chain of the operations on coils, pans and lists that
the rows name; the part of a pan that is kept is the connected component that the loop over the components finds. -/
theorem releasesAreTaken : Obligations.ReleasesAreTaken := by
  unfold Obligations.ReleasesAreTaken
  refine ⟨fun s on low => ?_, ⟨fun s k m rest on high empty head quiet => ⟨fun gone => ?_, fun held => ?_⟩,
    fun s k p m rest on high head => ⟨fun none => ?_, fun _ => ?_⟩⟩,
    fun s k p former m firing rest on high head member owner => ?_, fun s k m rest on high head => ⟨fun gone => ?_, fun held => ?_⟩,
    fun s k former m firing frames seconds rest on head waits => ?_, fun s k former m firing rest on high head => ?_⟩
  · rw [exec_settled on, exec_settled on, exec_settled on]
    exact ⟨congrArg Host.Outcome.next (if_pos low), congrArg Host.Outcome.next (if_pos low), congrArg Host.Outcome.next (if_pos low)⟩
  · rw [exec_sensedReleased_gone on high head gone, empty]
    exact congrArg Host.Outcome.next (emptyQueue_released empty quiet _)
  · have kept : ¬(s.coils[k].occupancy = .vacant ∨ s.coils[k].occupancy = .absent) := by
      rcases held with sensed | member
      · rw [sensed]; decide
      · rw [member]; decide
    rw [exec_sensedReleased_kept on high head kept, empty]
    exact congrArg Host.Outcome.next (emptyQueue_released empty quiet _)
  · rw [exec_materialChanged on high head, refigure_none (s := popped s rest) none]
    rfl
  · rw [exec_materialChanged on high head, refigure_eq]
    rfl
  · intro released notices
    refine ⟨memberRelease_apart on high head member owner, fun last empty idle quiet => ⟨fun forming => ?_, fun standing grace => ?_⟩⟩
    · rw [exec_memberRelease_member on high head member owner,
        releaseMember_forming_quiet (s := popped s rest) last empty idle quiet forming]
      rfl
    · have noticed : queueNotice (popped s rest) .panLifted ((popped s rest).handleOf p) (popped s rest).ts.work.grace 0 = _ :=
        queueNotice_as (s := s) (t := popped s rest) rfl rfl .panLifted (s.handleOf p) s.ts.work.grace 0
      rw [exec_memberRelease_member on high head member owner,
        releaseMember_lifts_quiet (s := popped s rest) last empty quiet standing grace, noticed, queueNotice_frame s]
      rfl
  · exact exec_sensedReleased_gone on high head gone
  · exact exec_sensedReleased_kept on high head held
  · rw [exec_settled on, action_memberRelease_waits head waits]
  · intro event told around
    refine ⟨fun p member owner => ?_, fun sensed above => ?_, fun sensed below => ?_, fun gone => ?_⟩
    · intro d presence
      refine ⟨fun last => ⟨fun forming => ?_, fun standing grace => ?_, fun standing grace => ?_⟩, fun kept more ascending few part => ?_⟩
      · rw [exec_memberRelease_member on high head member owner, releaseMember_forming (s := popped s rest) last forming, enqueueAround_eq]
        rfl
      · rw [exec_memberRelease_member on high head member owner, releaseMember_lifts (s := popped s rest) last standing grace, enqueueAround_eq]
        rfl
      · rw [exec_memberRelease_member on high head member owner, releaseMember_retires (s := popped s rest) last standing grace, enqueueAround_eq]
        rfl
      · rw [exec_memberRelease_member on high head member owner, releaseMember_splits (s := popped s rest) more,
          KeptPart.eq_keptOf (s := memberGone (popped s rest) k p) more ascending few part]
        rfl
    · rw [exec_memberRelease on high head, takeMemberRelease_sensed (s := popped s rest) sensed]
      exact congrArg Host.Outcome.next (if_pos above)
    · rw [exec_memberRelease on high head, takeMemberRelease_sensed (s := popped s rest) sensed]
      exact congrArg Host.Outcome.next (if_neg (Nat.not_le.mpr below))
    · rw [exec_memberRelease on high head, takeMemberRelease_gone (s := popped s rest) gone]
      rfl

end Sys2Proof.Machine
end

section
/-! The figures of the pans at a frame-end (R24, R40). -/

namespace Sys2Proof.Machine

-- The default arguments `by decide` wait for the kernel: one declaration after the other holds few threads.
set_option Elab.async false

/-! ### The material of a pan (R24) -/

/-- R24: of the materials that most members show the first in the order of the rule is taken. -/
theorem foldl_material {held : Material → Nat} {m : Material} (most : ∀ n : Material, held n ≤ held m)
    (first : ∀ n : Material, held n = held m →
      [Material.unsuitable, .layered, .ferritic, .none].idxOf m ≤ [Material.unsuitable, .layered, .ferritic, .none].idxOf n) :
    [Material.layered, .ferritic, .none].foldl (fun best n => if held best < held n then n else best) .unsuitable = m := by
  have earlier (n : Material)
      (before : [Material.unsuitable, .layered, .ferritic, .none].idxOf n < [Material.unsuitable, .layered, .ferritic, .none].idxOf m) :
      held n < held m := Nat.lt_of_le_of_ne (most n) fun same => absurd (first n same) (Nat.not_le.mpr before)
  simp only [List.foldl_cons, List.foldl_nil]
  cases m with
  | unsuitable => rw [if_neg (Nat.not_lt.mpr (most _)), if_neg (Nat.not_lt.mpr (most _)), if_neg (Nat.not_lt.mpr (most _))]
  | layered =>
    have beats := earlier .unsuitable (by decide)
    rw [if_pos beats, if_neg (Nat.not_lt.mpr (most _)), if_neg (Nat.not_lt.mpr (most _))]
  | ferritic =>
    have beats (n : Material) (other : n = .layered ∨ n = .unsuitable) : held n < held .ferritic := by
      rcases other with rfl | rfl
      · exact earlier .layered (by decide)
      · exact earlier .unsuitable (by decide)
    have before := beats (if held .unsuitable < held .layered then .layered else .unsuitable) (by split <;> simp)
    rw [if_pos before, if_neg (Nat.not_lt.mpr (most _))]
  | none =>
    have beats (n : Material) (other : n ≠ .none) : held n < held .none := by
      cases n with
      | none => exact absurd rfl other
      | ferritic => exact earlier .ferritic (by decide)
      | layered => exact earlier .layered (by decide)
      | unsuitable => exact earlier .unsuitable (by decide)
    refine if_pos (beats _ fun none => ?_)
    split_ifs at none

theorem materialOfPan_most {s : State} {ms : List CoilId} {m : Material}
    (most : ∀ n : Material, ms.countP (fun k => decide (s.coils[k].material = n)) ≤ ms.countP fun k => decide (s.coils[k].material = m))
    (first : ∀ n : Material, (ms.countP fun k => decide (s.coils[k].material = n)) = (ms.countP fun k => decide (s.coils[k].material = m)) →
      [Material.unsuitable, .layered, .ferritic, .none].idxOf m ≤ [Material.unsuitable, .layered, .ferritic, .none].idxOf n) :
    materialOfPan s ms = m := by
  have held (n : Material) : holders s ms n = ms.countP fun k => decide (s.coils[k].material = n) := List.countP_eq_length_filter.symm
  refine foldl_material (fun n => ?_) fun n same => first n ?_
  · rw [held, held]
    exact most n
  · rw [held, held] at same
    exact same

/-! ### Every pan's figures -/

/-- A pan's figures are a matter of the coils, the tables and its own presence part. -/
theorem figured_congr {s t : State} {p : PanSlot} (coils : t.coils = s.coils) (tables : t.ts = s.ts) (pres : t.pans[p].pres = s.pans[p].pres) :
    figured t p = figured s p := by
  unfold figured centroidOf areaOf materialOfPan holders
  rw [pres, coils, tables]

theorem refigure_other (s : State) {p q : PanSlot} (other : p ≠ q) : (refigure s p).pans[q] = s.pans[q] := by
  rw [refigure_eq]
  exact (Laws.set_get ..).trans (if_neg other)

theorem foldl_refigure (ps : List PanSlot) (once : ps.Nodup) (s : State) :
    ps.foldl refigure s =
      { s with
        pans := ps.foldl (fun (v : Vector PanRecord 8) (q : PanSlot) => v.set q { v[q] with pres := figured s q }) s.pans
        posts := { s.posts with pans := s.posts.pans ++ ps.flatMap fun q => materialPost s q (figured s q).material } } := by
  induction ps generalizing s with
  | nil => simp only [List.foldl_nil, List.flatMap_nil, List.append_nil]
  | cons p ps ih =>
    obtain ⟨out, once⟩ := List.nodup_cons.mp once
    have other (q : PanSlot) (mem : q ∈ ps) : p ≠ q := fun same => out (same ▸ mem)
    have coils : (refigure s p).coils = s.coils := by rw [refigure_eq]
    have tables : (refigure s p).ts = s.ts := by rw [refigure_eq]
    have figures (q : PanSlot) (mem : q ∈ ps) : figured (refigure s p) q = figured s q :=
      figured_congr coils tables (congrArg PanRecord.pres (refigure_other s (other q mem)))
    have posts (q : PanSlot) (mem : q ∈ ps) :
        materialPost (refigure s p) q (figured (refigure s p) q).material = materialPost s q (figured s q).material := by
      have pan := refigure_other s (other q mem)
      have post : materialPost (refigure s p) q = materialPost s q := materialPost_congr (by rw [pan]) (by rw [pan])
      rw [figures q mem, post]
    have pans : ps.foldl (fun (v : Vector PanRecord 8) (q : PanSlot) => v.set q { v[q] with pres := figured (refigure s p) q }) (refigure s p).pans =
        ps.foldl (fun (v : Vector PanRecord 8) (q : PanSlot) => v.set q { v[q] with pres := figured s q }) (refigure s p).pans :=
      List.foldl_ext _ _ _ fun v q mem => by rw [figures q mem]
    have told : ps.flatMap (fun q => materialPost (refigure s p) q (figured (refigure s p) q).material) =
        ps.flatMap fun q => materialPost s q (figured s q).material := List.flatMap_congr posts
    rw [List.foldl_cons, ih once, pans, told, refigure_eq, List.foldl_cons, List.flatMap_cons]
    dsimp only
    rw [List.append_assoc]

/-- R24, R40: at a frame-end every pan's figures are computed. -/
theorem refigured_all (s : State) :
    allPans.foldl refigure s =
      { s with
        pans := Vector.ofFn fun q => { s.pans[q] with pres := figured s q }
        posts := { s.posts with pans := s.posts.pans ++ allPans.flatMap fun q => materialPost s q (figured s q).material } } := by
  have all : allPans.foldl (fun (v : Vector PanRecord 8) (q : PanSlot) => v.set q { v[q] with pres := figured s q }) s.pans =
      Vector.ofFn fun q : PanSlot => { s.pans[q] with pres := figured s q } :=
    Laws.foldl_set_all (fun (q : PanSlot) (r : PanRecord) => { r with pres := figured s q }) s.pans
  rw [foldl_refigure allPans (List.nodup_finRange 8), all]

theorem flatMap_ite {α β : Type} (as : List α) (c : α → Bool) (f : α → β) :
    (as.flatMap fun a => if c a then [f a] else []) = (as.filter c).map f := by
  induction as with
  | nil => rfl
  | cons a as ih =>
    rw [List.flatMap_cons, ih, List.filter_cons]
    split <;> rfl

theorem materialPost_all (s : State) :
    (allPans.flatMap fun q => materialPost s q (figured s q).material) =
      (allPans.filter fun q => s.pans[q].pres.presence.standing && s.pans[q].pres.material != (figured s q).material).map fun q =>
        .material q (figured s q).material := by
  rw [← flatMap_ite]
  refine List.flatMap_congr fun q _ => ?_
  rw [materialPost]
  refine if_congr ?_ rfl rfl
  rw [Bool.and_eq_true, bne_iff_ne]

/-! ### The frame-end as a command -/

/-- R11: the state once the frame-end has been taken from its queue. -/
def frameEndTaken (s : State) (rest : List (BitVec 16)) : State :=
  { s with posts := { s.posts with ptFrameEnds := rest, coilEvents := frameTaken s.posts.coilEvents } }

theorem popFrameEnd_taken {s : State} {frame : BitVec 16} {rest : List (BitVec 16)} (head : s.posts.ptFrameEnds = frame :: rest) :
    popFrameEnd s = frameEndTaken s rest := by
  rw [popFrameEnd_eq, head]
  rfl

/-- R24: the state with every pan's figures computed. -/
def framePans (s : State) (rest : List (BitVec 16)) : State :=
  { s with
    pans := Vector.ofFn fun q => { s.pans[q] with pres := figured s q }
    posts := { s.posts with
               ptFrameEnds := rest, coilEvents := frameTaken s.posts.coilEvents
               pans := s.posts.pans ++ allPans.flatMap fun q => materialPost s q (figured s q).material } }

theorem framePans_eq (s : State) (rest : List (BitVec 16)) : allPans.foldl refigure (frameEndTaken s rest) = framePans s rest := by
  have figures (q : PanSlot) : figured (frameEndTaken s rest) q = figured s q := figured_congr rfl rfl rfl
  have posts (q : PanSlot) : materialPost (frameEndTaken s rest) q = materialPost s q := materialPost_congr rfl rfl
  rw [refigured_all]
  simp only [figures, posts]
  rfl

theorem framePans_pan (s : State) (rest : List (BitVec 16)) (q : PanSlot) :
    (framePans s rest).pans[q] = { s.pans[q] with pres := figured s q } := Vector.getElem_ofFn ..

theorem exec_panTrackerFrameEnd {s : State} {frame : BitVec 16} {rest : List (BitVec 16)} (on : Settled s) (high : s.sup.hub ≠ .supplyLow)
    (head : s.posts.ptFrameEnds = frame :: rest) :
    exec .panTrackerFrameEnd s = .next (allPans.foldl settleCount (framePans s rest)) := by
  have taken : action .panTrackerFrameEnd s = panFrameEnd (popFrameEnd s) := by
    refine (if_neg high).trans ?_
    rw [takeNextFrameEnd, head]
  rw [exec_settled on, taken, popFrameEnd_taken head, panFrameEnd, framePans_eq]

theorem exec_panTrackerFrameEnd_idle {s : State} (on : Settled s) (h : s.posts.ptFrameEnds = [] ∨ s.sup.hub = .supplyLow) :
    exec .panTrackerFrameEnd s = .next s := by
  rw [exec_settled on]
  by_cases low : s.sup.hub = .supplyLow
  · exact congrArg _ (if_pos low)
  · refine congrArg _ ((if_neg low).trans ?_)
    rw [takeNextFrameEnd, h.resolve_right low]

end Sys2Proof.Machine
end

section
/-! A pan settles at a frame-end (R40 to R43, R47, R48). -/

namespace Sys2Proof.Machine

-- The default arguments `by decide` wait for the kernel: one declaration after the other holds few threads.
set_option Elab.async false

/-! ### Which record a settling pan returns to (R47, R48) -/

theorem gap_eq (a b : Nat) : gap a b = max a b - min a b := by
  unfold gap
  omega

theorem returnMatches_iff (s : State) (w p : PanSlot) :
    returnMatches s.ts.work s.pans[w].pres s.pans[p].pres = true ↔ Matches s w p := by
  unfold returnMatches Matches
  cases signature : s.pans[w].pres.signature with
  | none => exact iff_of_false Bool.false_ne_true fun ⟨_, found, _⟩ => absurd found.symm (Option.some_ne_none _)
  | some g =>
    simp only [Bool.and_eq_true, beq_iff_eq, decide_eq_true_eq, gap_eq, max_le_iff, Option.some.injEq, exists_eq_left', and_assoc]

theorem returnWinner_none {s : State} {p : PanSlot} (alone : ∀ w ∈ s.pt.liftOrder, ¬ Matches s w p) : returnWinner s p = none := by
  rw [returnWinner, List.getLast?_eq_none_iff, List.filter_eq_nil_iff]
  exact fun w mem found => alone w mem ((returnMatches_iff s w p).mp found)

theorem returnWinner_some {s : State} {p w : PanSlot} {earlier later : List PanSlot} (order : s.pt.liftOrder = earlier ++ w :: later)
    (found : Matches s w p) (last : ∀ v ∈ later, ¬ Matches s v p) : returnWinner s p = some w := by
  have rest : (later.filter fun v => returnMatches s.ts.work s.pans[v].pres s.pans[p].pres) = [] :=
    List.filter_eq_nil_iff.mpr fun v mem also => last v mem ((returnMatches_iff s v p).mp also)
  rw [returnWinner, order, List.filter_append, List.filter_cons, if_pos ((returnMatches_iff s w p).mpr found), rest]
  exact List.getLast?_concat ..

theorem returnWinner_matches {s : State} {p w : PanSlot} (winner : returnWinner s p = some w) : Matches s w p ∧ w ∈ s.pt.liftOrder := by
  obtain ⟨mem, found⟩ := List.mem_filter.mp (List.mem_of_getLast? winner)
  exact ⟨(returnMatches_iff s w p).mp found, mem⟩

/-! ### A pan is PLACED (R43) -/

theorem place_eq (s : State) (p : PanSlot) : place s p = { s with pans := placedNow s p } := rfl

theorem placedNow_pan (s : State) (p q : PanSlot) :
    (placedNow s p)[q] =
      if p = q then
        { s.pans[p] with
          pres := { s.pans[p].pres with
                    presence := .placed
                    signature := some ⟨s.pans[p].pres.x, s.pans[p].pres.y, s.pans[p].pres.area, s.pans[p].pres.material⟩ } }
      else s.pans[q] := Laws.set_get ..

theorem noticed_place (s : State) (kind : NoticeKind) (p : PanSlot) :
    noticeCentroid (place s p) kind p = { s with pans := placedNow s p, cp := centroidTold s kind p } := by
  have pan : (placedNow s p)[p] = _ := (placedNow_pan s p p).trans (if_pos rfl)
  have handle : (place s p).handleOf p = s.handleOf p := by
    rw [State.handleOf, place_eq]
    dsimp only
    rw [pan]
    rfl
  have told := queueNotice_as (s := s) (t := place s p) rfl rfl kind (s.handleOf p) (orient s.ts.work s.pans[p].pres.x s.pans[p].pres.y).1
    (orient s.ts.work s.pans[p].pres.x s.pans[p].pres.y).2
  have x : (place s p).pans[p].pres.x = s.pans[p].pres.x := by rw [place_eq]; dsimp only; rw [pan]
  have y : (place s p).pans[p].pres.y = s.pans[p].pres.y := by rw [place_eq]; dsimp only; rw [pan]
  have tables : (place s p).ts = s.ts := rfl
  rw [noticeCentroid, handle, x, y, tables, told]
  rfl

/-! ### A LIFTED record takes up the settling pan (R48) -/

theorem joins_eq (ks : List CoilId) (w : PanSlot) (s : State) :
    ks.foldl (fun s k => joinClaim s k w) s = { s with coils := (ks.foldl (fun s k => joinClaim s k w) s).coils } := by
  induction ks generalizing s with
  | nil => rfl
  | cons k ks ih =>
    rw [List.foldl_cons, ih]
    unfold joinClaim
    split <;> rfl

/-- R48: the coils once the record `w` has taken up the settling pan `p`. -/
def coilsUp (s : State) (w p : PanSlot) : Vector CoilRecord 64 :=
  Vector.ofFn fun j =>
    if j ∈ s.pans[p].pres.members ∧ (s.coils[j].occupancy = .sensed ∨ s.coils[j].occupancy = .member) then
      { s.coils[j] with occupancy := .member, owner := some w } else s.coils[j]

/-- R48: the pans once the record `w` has taken up the settling pan `p`. -/
def pansUp (s : State) (w p : PanSlot) : Vector PanRecord 8 :=
  (s.pans.set w
    { s.pans[w] with
      pres := { s.pans[w].pres with
                presence := .placed, members := s.pans[p].pres.members, settle := s.pans[p].pres.settle, changed := false
                x := s.pans[p].pres.x, y := s.pans[p].pres.y, area := s.pans[p].pres.area, material := s.pans[p].pres.material
                signature := some ⟨s.pans[p].pres.x, s.pans[p].pres.y, s.pans[p].pres.area, s.pans[p].pres.material⟩
                liftedAt := none, grace := none } }).set p { s.pans[p] with pres := .freed s.pans[p].pres.gen }

theorem coilsUp_get (s : State) (w p : PanSlot) (j : CoilId) :
    (coilsUp s w p)[j] =
      if j ∈ s.pans[p].pres.members ∧ (s.coils[j].occupancy = .sensed ∨ s.coils[j].occupancy = .member) then
        { s.coils[j] with occupancy := .member, owner := some w } else s.coils[j] := Vector.getElem_ofFn ..

theorem takenUp_eq {s : State} {w p : PanSlot} (other : w ≠ p) :
    takenUp s w p =
      { s with
        coils := coilsUp s w p, pans := pansUp s w p, pt := { s.pt with liftOrder := s.pt.liftOrder.filter (· ≠ w) } } := by
  have coils : (s.pans[p].pres.members.foldl (fun s k => joinClaim s k w) s).coils = coilsUp s w p := Vector.ext fun i low => by
    have coil := joins_get s.pans[p].pres.members w s ⟨i, low⟩
    have second := coilsUp_get s w p ⟨i, low⟩
    exact coil.trans second.symm
  have pan (x : PanRecord) : (s.pans.set w x)[p] = s.pans[p] := (Laws.set_get ..).trans (if_neg other)
  rw [takenUp]
  dsimp only
  rw [joins_eq, coils]
  generalize coilsUp s w p = cs
  simp only [State.modPres, State.modPan, State.modPt, pan, pansUp]

theorem pansUp_winner {s : State} {w p : PanSlot} (other : w ≠ p) :
    (pansUp s w p)[w].pres =
      { s.pans[w].pres with
        presence := .placed, members := s.pans[p].pres.members, settle := s.pans[p].pres.settle, changed := false
        x := s.pans[p].pres.x, y := s.pans[p].pres.y, area := s.pans[p].pres.area, material := s.pans[p].pres.material
        signature := some ⟨s.pans[p].pres.x, s.pans[p].pres.y, s.pans[p].pres.area, s.pans[p].pres.material⟩
        liftedAt := none, grace := none } := by
  have pan (x y : PanRecord) : ((s.pans.set w x).set p y)[w] = x :=
    ((Laws.set_get ..).trans (if_neg other.symm)).trans ((Laws.set_get ..).trans (if_pos rfl))
  rw [pansUp, pan]

/-- R48: the coils and pans have been regrouped. -/
def movedUp (s : State) (w p : PanSlot) : State := { s with coils := coilsUp s w p, pans := pansUp s w p }

/-- R48: the record that has taken up the pan is told. -/
def returnTold (s : State) (w p : PanSlot) : State :=
  { s with
    coils := coilsUp s w p
    pans := pansUp s w p
    pt := { s.pt with liftOrder := s.pt.liftOrder.filter (· ≠ w) }
    posts := { s.posts with
               pans := s.posts.pans ++ [.back w], triggers := s.posts.triggers ++ [.membership w]
               rebuilds := s.posts.rebuilds + 1 }
    cp := (queueNotice s .panReturned (s.handleOf w) (orient s.ts.work s.pans[p].pres.x s.pans[p].pres.y).1
      (orient s.ts.work s.pans[p].pres.x s.pans[p].pres.y).2).cp }

theorem returnTold_eq {s : State} {w p : PanSlot} (other : w ≠ p) :
    postMembership (postPan (noticeCentroid (takenUp s w p) .panReturned w) (.back w)) w = returnTold s w p := by
  have winner := pansUp_winner (s := s) other
  have told := queueNotice_as (s := s)
    (t := { s with coils := coilsUp s w p, pans := pansUp s w p, pt := { s.pt with liftOrder := s.pt.liftOrder.filter (· ≠ w) } }) rfl rfl
    .panReturned (s.handleOf w) (orient s.ts.work s.pans[p].pres.x s.pans[p].pres.y).1 (orient s.ts.work s.pans[p].pres.x s.pans[p].pres.y).2
  rw [takenUp_eq other, returnTold, noticeCentroid, State.handleOf]
  generalize pansUp s w p = ps, coilsUp s w p = cs at *
  rw [State.handleOf] at told
  dsimp only
  rw [winner]
  dsimp only
  rw [told]
  rfl

theorem returnedTo_eq (s : State) (w p : PanSlot) :
    returnedTo s w p =
      { returnTold s w p with
        pt := { s.pt with
                liftOrder := s.pt.liftOrder.filter (· ≠ w)
                examQueue := queued s.pt.examQueue
                  (s.pans[p].pres.members.flatMap (waitingAround (movedUp s w p))) } } := by
  unfold returnedTo returnTold movedUp coilsUp pansUp
  rfl

theorem returning_returnedTo {s : State} {w p : PanSlot} (other : w ≠ p) : returning s w p = returnedTo s w p := by
  have around : waitingAround (returnTold s w p) = waitingAround (movedUp s w p) :=
    (around_kept (by rw [returnTold, movedUp]) (by rw [returnTold, movedUp])).1
  have pt : (returnTold s w p).pt = { s.pt with liftOrder := s.pt.liftOrder.filter (· ≠ w) } := by rw [returnTold]
  rw [returning_eq, returnTold_eq other, enqueuedAround_eq, around, pt, returnedTo_eq]

/-! ### The rows of a settle count (R40 to R42) -/

section
variable {s : State} {p : PanSlot}

theorem unsettled_iff (r : PresencePart) : unsettled r = true ↔ r.presence = .forming ∨ r.presence = .moving := by
  rw [unsettled, Bool.or_eq_true, beq_iff_eq, beq_iff_eq]

theorem settleCount_still (still : unsettled s.pans[p].pres = false) : settleCount s p = s :=
  if_neg fun unsettled => Bool.false_ne_true (still.symm.trans ((unsettled_iff _).mpr unsettled))

/-- R40: the pan's settle count has risen. -/
def counted (s : State) (p : PanSlot) : State :=
  { s with pans := s.pans.set p { s.pans[p] with pres := { s.pans[p].pres with settle := s.pans[p].pres.settle + 1 } } }

theorem counted_pan (s : State) (p q : PanSlot) :
    (counted s p).pans[q] =
      if p = q then { s.pans[p] with pres := { s.pans[p].pres with settle := s.pans[p].pres.settle + 1 } } else s.pans[q] := Laws.set_get ..

theorem settleCount_changed (moves : unsettled s.pans[p].pres = true) (changed : s.pans[p].pres.changed = true) :
    settleCount s p = { s with pans := s.pans.set p { s.pans[p] with pres := { s.pans[p].pres with changed := false } } } :=
  (if_pos ((unsettled_iff _).mp moves)).trans (if_pos changed)

theorem settleCount_counts (moves : unsettled s.pans[p].pres = true) (still : s.pans[p].pres.changed = false) :
    settleCount s p = if s.ts.work.settleFrames ≤ s.pans[p].pres.settle + 1 then settle (counted s p) p else counted s p :=
  (if_pos ((unsettled_iff _).mp moves)).trans (if_neg (Bool.eq_false_iff.mp still))

theorem settle_moving (moving : s.pans[p].pres.presence = .moving) :
    settle s p = { s with pans := placedNow s p, cp := centroidTold s .panMoved p } := by
  rw [settle, if_pos moving, noticed_place]

theorem settle_forming (forming : s.pans[p].pres.presence = .forming) (alone : returnWinner s p = none) :
    settle s p =
      { s with
        pans := placedNow s p
        cp := centroidTold s .panPlaced p
        posts := { s.posts with triggers := s.posts.triggers ++ [.membership p], rebuilds := s.posts.rebuilds + 1 } } := by
  rw [settle, if_neg (by rw [forming]; exact Presence.noConfusion), alone]
  dsimp only
  rw [noticed_place]
  rfl

theorem settle_returns {w : PanSlot} (forming : s.pans[p].pres.presence = .forming) (winner : returnWinner s p = some w) (other : w ≠ p) :
    settle s p = serveOrphans (emptyQueue (returnedTo s w p)) := by
  rw [settle, if_neg (by rw [forming]; exact Presence.noConfusion), winner]
  dsimp only
  rw [returnPan_eq, returning_returnedTo other]

end

end Sys2Proof.Machine
end

section
/-! What a frame-end leaves alone: foundings stand apart (R22, R28, R40, R48). -/

namespace Sys2Proof.Machine

-- The default arguments `by decide` wait for the kernel: one declaration after the other holds few threads.
set_option Elab.async false

theorem groups_modPres (s : State) (p : PanSlot) {f : PresencePart → PresencePart} (gen : (f s.pans[p].pres).gen = s.pans[p].pres.gen) :
    GroupsOnly s (s.modPres p f) := groups_pres s p gen

theorem groups_joinClaim (s : State) (k : CoilId) (w : PanSlot) : GroupsOnly s (joinClaim s k w) := by
  unfold joinClaim
  exact .ite (groups_coils s _) (.refl s)

/-! ### A return founds nothing (R48) -/

section
variable (s : State) (w p : PanSlot)

theorem takenUp_pan (q : PanSlot) (winner : q ≠ w) (pan : q ≠ p) : (takenUp s w p).pans[q] = s.pans[q] := by
  have listed (v : State) (f : PanLists → PanLists) : (v.modPt f).pans = v.pans := rfl
  rw [takenUp, modPres_other pan, listed, modPres_other winner, (joins_pans _ _ _).1]

theorem takenUp_lift : (takenUp s w p).pt.liftOrder = s.pt.liftOrder.filter (· ≠ w) := by
  have joined := (joins_pans s.pans[p].pres.members w s).2
  exact congrArg (fun l : PanLists => l.liftOrder.filter (· ≠ w)) joined

theorem groups_takenUp : GroupsOnly s (takenUp s w p) := by
  have joined : GroupsOnly s (s.pans[p].pres.members.foldl (fun s k => joinClaim s k w) s) :=
    .foldl (fun v k => groups_joinClaim v k w) _ s
  rw [takenUp]
  generalize s.pans[p].pres.members.foldl (fun s k => joinClaim s k w) s = v at joined
  refine ((joined.trans (groups_modPres v w ?_)).trans (groups_pt _ _)).trans (groups_modPres _ p rfl)
  rfl

theorem groups_noticeCentroid (kind : NoticeKind) : GroupsOnly s (noticeCentroid s kind p) := groups_notice ..

theorem groups_returnTold : GroupsOnly s (postMembership (postPan (noticeCentroid (takenUp s w p) .panReturned w) (.back w)) w) := by
  have told := (groups_takenUp s w p).trans (groups_noticeCentroid _ w .panReturned)
  generalize noticeCentroid (takenUp s w p) .panReturned w = v at told
  exact (told.trans (groups_postPan v (v.posts.pans ++ [.back w]))).trans (groups_postMembership _ w)

theorem groups_returning : GroupsOnly s (returning s w p) := by
  rw [returning_eq]
  exact (groups_returnTold s w p).trans (.foldl groups_enqueueAround _ _)

theorem returning_kept : (returning s w p).pans = (takenUp s w p).pans ∧ (returning s w p).pt.liftOrder = (takenUp s w p).pt.liftOrder := by
  have pans : (noticeCentroid (takenUp s w p) .panReturned w).pans = (takenUp s w p).pans := by
    rw [noticeCentroid]
    simp only [queueNotice_keeps]
  have pt : (noticeCentroid (takenUp s w p) .panReturned w).pt = (takenUp s w p).pt := by
    rw [noticeCentroid]
    simp only [queueNotice_keeps]
  rw [returning_eq, enqueuedAround_eq]
  generalize noticeCentroid (takenUp s w p) .panReturned w = v at *
  have order : v.pt.liftOrder = (takenUp s w p).pt.liftOrder := congrArg PanLists.liftOrder pt
  exact ⟨pans, order⟩

end

/-! ### The settle counts of a frame-end -/

section
variable {done : PanSlot → Prop} {s t : State}

theorem Tracks.mono {after : PanSlot → Prop} (h : Tracks done s t) (more : ∀ q, done q → after q) : Tracks after s t :=
  h.grouped (.refl t) ⟨fun q f => ⟨f.forming, f.signature, f.changed.imp_right (more q)⟩, fun _ out => out⟩

/-- An event at a pan that was not founded, which leaves the other pans alone. -/
theorem Spares.at {u : State} {p : PanSlot} (spared : ¬ Founded done s t p) (others : ∀ q : PanSlot, p ≠ q → u.pans[q] = t.pans[q])
    (lift : u.pt.liftOrder = t.pt.liftOrder) : Spares done done s t u where
  pans q f := by
    have other : p ≠ q := fun here => spared (here ▸ f)
    rw [others q other]
    exact ⟨f.forming, f.signature, f.changed⟩
  lift q out := lift ▸ out

/-- A pan whose settle count rises was not founded since, unless it settled before. -/
theorem not_founded_still {p : PanSlot} (new : ¬ done p) (still : t.pans[p].pres.changed = false) : ¬ Founded done s t p :=
  fun f => f.changed.elim (fun changed => Bool.false_ne_true (still.symm.trans changed)) new

theorem Tracks.counted {p : PanSlot} (h : Tracks done s t) (new : ¬ done p) (still : t.pans[p].pres.changed = false) :
    Tracks done s (counted t p) :=
  h.grouped (groups_pres t p rfl) (.at (not_founded_still new still) (fun q other => (counted_pan t p q).trans (if_neg other)) rfl)

theorem groups_placed (t : State) (kind : NoticeKind) (p : PanSlot) : GroupsOnly t (noticeCentroid (place t p) kind p) :=
  (groups_modPres t p rfl).trans (groups_noticeCentroid _ p kind)

/-- R41 to R43, R47, R48: a pan that has not been founded since settles. -/
theorem Tracks.settle {p : PanSlot} (h : Tracks done s t) (spared : ¬ Founded done s t p) : Tracks done s (settle t p) := by
  have others (kind : NoticeKind) (q : PanSlot) (other : p ≠ q) : (noticeCentroid (place t p) kind p).pans[q] = t.pans[q] := by
    rw [noticed_place]
    exact (placedNow_pan t p q).trans (if_neg other)
  have lift (kind : NoticeKind) : (noticeCentroid (place t p) kind p).pt.liftOrder = t.pt.liftOrder := by rw [noticed_place]
  unfold Machine.settle
  split
  · exact h.grouped (groups_placed t _ p) (.at spared (others _) (lift _))
  · split
    · next w winner =>
      obtain ⟨⟨g, signature, -⟩, -⟩ := returnWinner_matches winner
      obtain ⟨pans, order⟩ := returning_kept t w p
      rw [returnPan_eq]
      refine (h.grouped (groups_returning t w p) (after := done) ⟨fun q f => ?_, fun q out => ?_⟩).emptyQueue.serveOrphans
      · have notWinner : q ≠ w := fun here => Option.some_ne_none g (signature.symm.trans (here ▸ f.signature))
        have notPan : q ≠ p := fun here => spared (here ▸ f)
        rw [pans, takenUp_pan t w p q notWinner notPan]
        exact ⟨f.forming, f.signature, f.changed⟩
      · rw [order, takenUp_lift]
        exact fun mem => out (List.mem_filter.mp mem).1
    · exact h.grouped ((groups_placed t _ p).trans (groups_postMembership _ p)) (.at spared (others .panPlaced) (lift .panPlaced))

/-- R40: the settle count of a pan whose turn it is. -/
theorem Tracks.settleCount {p : PanSlot} (h : Tracks done s t) (new : ¬ done p) : Tracks (fun q => done q ∨ q = p) s (settleCount t p) := by
  cases moves : unsettled t.pans[p].pres with
  | false =>
    rw [settleCount_still moves]
    exact h.mono fun q => .inl
  | true =>
    cases still : t.pans[p].pres.changed with
    | true =>
      rw [settleCount_changed moves still]
      refine h.grouped (groups_pres t p rfl) ⟨fun q f => ?_, fun _ out => out⟩
      have pan (x : PanRecord) : (t.pans.set p x)[q] = if p = q then x else t.pans[q] := Laws.set_get ..
      dsimp only
      rw [pan]
      split
      · next here =>
        subst here
        exact ⟨f.forming, f.signature, .inr (.inr rfl)⟩
      · exact ⟨f.forming, f.signature, f.changed.imp_right .inl⟩
    | false =>
      have rises := h.counted new still
      have after : (Machine.counted t p).pans[p].pres.changed = false := by
        rw [counted_pan, if_pos rfl]
        exact still
      rw [settleCount_counts moves still]
      refine Tracks.mono (done := done) ?_ fun q => .inl
      split
      · exact rises.settle (not_founded_still new after)
      · exact rises

theorem Tracks.settleCounts {ps : List PanSlot} (once : ps.Nodup) (h : Tracks done s t) (new : ∀ p ∈ ps, ¬ done p) :
    Tracks (fun q => done q ∨ q ∈ ps) s (ps.foldl Machine.settleCount t) := by
  induction ps generalizing done t with
  | nil => exact h.mono fun q => .inl
  | cons p ps ih =>
    obtain ⟨out, once⟩ := List.nodup_cons.mp once
    have first := h.settleCount (new p List.mem_cons_self)
    refine (ih once first fun q mem => ?_).mono fun q => ?_
    · rintro (before | same)
      · exact new q (List.mem_cons_of_mem p mem) before
      · exact out (same ▸ mem)
    · rw [List.mem_cons, or_assoc]
      exact id

end

/-- R22, R40: what a frame-end leaves alone. -/
theorem framePans_groups (s : State) (rest : List (BitVec 16)) : GroupsOnly (frameEndTaken s rest) (framePans s rest) := by
  rw [← framePans_eq]
  exact .foldl groups_refigure allPans _

theorem frameEnd_tracks (s : State) (rest : List (BitVec 16)) :
    Tracks (fun q => False ∨ q ∈ allPans) (frameEndTaken s rest) (allPans.foldl settleCount (framePans s rest)) :=
  ((framePans_groups s rest).tracks fun _ => False).settleCounts (List.nodup_finRange 8) fun _ _ => id

end Sys2Proof.Machine
end

section
/-! The frame-ends that the Pan Tracker takes: the rows with one settling pan, and the settlement of O42 (R24, R40 to R43, R47, R48). -/

namespace Sys2Proof.Machine

-- The default arguments `by decide` wait for the kernel: one declaration after the other holds few threads.
set_option Elab.async false

/-! ### At most one pan settles -/

theorem settleCounts_still (ps : List PanSlot) {t : State} (still : ∀ q ∈ ps, unsettled t.pans[q].pres = false) : ps.foldl settleCount t = t := by
  induction ps with
  | nil => rfl
  | cons q ps ih =>
    rw [List.foldl_cons, settleCount_still (still q List.mem_cons_self)]
    exact ih fun r mem => still r (List.mem_cons_of_mem q mem)

theorem settleCounts_one {t u : State} {p : PanSlot} (others : ∀ q : PanSlot, q ≠ p → unsettled t.pans[q].pres = false)
    (settled : settleCount t p = u) (kept : ∀ q : PanSlot, q ≠ p → unsettled u.pans[q].pres = false) : allPans.foldl settleCount t = u := by
  obtain ⟨before, after, split⟩ := List.append_of_mem (List.mem_finRange p)
  have once : (before ++ p :: after).Nodup := split ▸ List.nodup_finRange 8
  obtain ⟨-, later, apart⟩ := List.nodup_append.mp once
  have list : allPans = before ++ p :: after := split
  rw [list, List.foldl_append, List.foldl_cons, settleCounts_still before fun q mem => others q (apart q mem p List.mem_cons_self), settled]
  exact settleCounts_still after fun q mem => kept q fun same => (List.nodup_cons.mp later).1 (same ▸ mem)

section
variable {s : State} {rest : List (BitVec 16)} {p : PanSlot}

theorem figured_presence (s : State) (q : PanSlot) : (figured s q).presence = s.pans[q].pres.presence := by rw [figured_eq]

theorem figured_unsettled (s : State) (q : PanSlot) : unsettled (figured s q) = unsettled s.pans[q].pres := by
  rw [unsettled, unsettled, figured_presence]

theorem framePans_unsettled (s : State) (rest : List (BitVec 16)) (q : PanSlot) :
    unsettled (framePans s rest).pans[q].pres = unsettled s.pans[q].pres := by
  rw [framePans_pan]
  exact figured_unsettled s q

/-- The pans with their figures, one of them with a presence part of its own. -/
def figuredBut (s : State) (p : PanSlot) (pres : PresencePart) : Vector PanRecord 8 :=
  Vector.ofFn fun q => if q = p then { s.pans[q] with pres := pres } else { s.pans[q] with pres := figured s q }

theorem figuredBut_get (s : State) (p : PanSlot) (pres : PresencePart) (q : PanSlot) :
    (figuredBut s p pres)[q] = if q = p then { s.pans[q] with pres := pres } else { s.pans[q] with pres := figured s q } :=
  Vector.getElem_ofFn ..

theorem framePans_set (s : State) (rest : List (BitVec 16)) (p : PanSlot) (pres : PresencePart) :
    (framePans s rest).pans.set p { (framePans s rest).pans[p] with pres := pres } = figuredBut s p pres := by
  refine Vector.ext fun i low => ?_
  have set := Laws.set_get (framePans s rest).pans p ⟨i, low⟩ { (framePans s rest).pans[p] with pres := pres }
  have new := figuredBut_get s p pres ⟨i, low⟩
  refine Eq.trans set (Eq.trans ?_ new.symm)
  by_cases here : p = ⟨i, low⟩
  · rw [if_pos here, if_pos here.symm, framePans_pan, here]
  · rw [if_neg here, if_neg (Ne.symm here), framePans_pan]

theorem figuredBut_unsettled (others : ∀ q : PanSlot, q ≠ p → unsettled s.pans[q].pres = false) (pres : PresencePart) (q : PanSlot)
    (other : q ≠ p) : unsettled (figuredBut s p pres)[q].pres = false := by
  rw [figuredBut_get, if_neg other]
  exact (figured_unsettled s q).trans (others q other)

section
variable (others : ∀ q : PanSlot, q ≠ p → unsettled s.pans[q].pres = false) (moves : unsettled s.pans[p].pres = true)
include others moves

theorem frameEnd_changed (changed : (figured s p).changed = true) :
    allPans.foldl settleCount (framePans s rest) =
      { framePans s rest with pans := figuredBut s p { figured s p with changed := false } } := by
  have pan := framePans_pan s rest p
  refine settleCounts_one (p := p) (fun q other => (framePans_unsettled s rest q).trans (others q other))
    ((settleCount_changed ((framePans_unsettled s rest p).trans moves) (by rw [pan]; exact changed)).trans ?_)
    (figuredBut_unsettled others _)
  rw [framePans_set, pan]

/-- R40: the frame-end once the pan's settle count has risen. -/
def frameCounted (s : State) (rest : List (BitVec 16)) (p : PanSlot) : State :=
  { framePans s rest with pans := figuredBut s p { figured s p with settle := (figured s p).settle + 1 } }

omit others moves in
theorem counted_framePans (s : State) (rest : List (BitVec 16)) (p : PanSlot) : counted (framePans s rest) p = frameCounted s rest p := by
  rw [counted, framePans_set, framePans_pan, frameCounted]

omit others in
theorem settleCount_framePans (still : (figured s p).changed = false) :
    settleCount (framePans s rest) p =
      if s.ts.work.settleFrames ≤ (figured s p).settle + 1 then settle (frameCounted s rest p) p else frameCounted s rest p := by
  have pan := framePans_pan s rest p
  rw [settleCount_counts ((framePans_unsettled s rest p).trans moves) (by rw [pan]; exact still), counted_framePans, pan]
  rfl

theorem frameEnd_counts (still : (figured s p).changed = false) (few : (figured s p).settle + 1 < s.ts.work.settleFrames) :
    allPans.foldl settleCount (framePans s rest) = frameCounted s rest p := by
  refine settleCounts_one (p := p) (fun q other => (framePans_unsettled s rest q).trans (others q other))
    ((settleCount_framePans moves still).trans (if_neg (Nat.not_le.mpr few))) (figuredBut_unsettled others _)

/-- R42: the frame-end's one pan settles. -/
theorem frameEnd_settles (still : (figured s p).changed = false) (enough : s.ts.work.settleFrames ≤ (figured s p).settle + 1) {u : State}
    (settles : settle (frameCounted s rest p) p = u) (kept : ∀ q : PanSlot, q ≠ p → unsettled u.pans[q].pres = false) :
    allPans.foldl settleCount (framePans s rest) = u :=
  settleCounts_one (p := p) (fun q other => (framePans_unsettled s rest q).trans (others q other))
    ((settleCount_framePans moves still).trans ((if_pos enough).trans settles)) kept

end

theorem frameCounted_here (s : State) (rest : List (BitVec 16)) (p : PanSlot) :
    (frameCounted s rest p).pans[p] = { s.pans[p] with pres := { figured s p with settle := (figured s p).settle + 1 } } :=
  (figuredBut_get ..).trans (if_pos rfl)

theorem frameCounted_other (s : State) (rest : List (BitVec 16)) {p q : PanSlot} (other : q ≠ p) :
    (frameCounted s rest p).pans[q] = { s.pans[q] with pres := figured s q } := (figuredBut_get ..).trans (if_neg other)

/-- R43: the presence part of a pan that is PLACED at a frame-end. -/
def placedPres (g : PresencePart) : PresencePart :=
  { g with settle := g.settle + 1, presence := .placed, signature := some ⟨g.x, g.y, g.area, g.material⟩ }

theorem placedNow_frame (s : State) (rest : List (BitVec 16)) (p : PanSlot) :
    placedNow (frameCounted s rest p) p = figuredBut s p (placedPres (figured s p)) := by
  refine Vector.ext fun i low => ?_
  refine (placedNow_pan (frameCounted s rest p) p ⟨i, low⟩).trans (Eq.trans ?_ (figuredBut_get s p (placedPres (figured s p)) ⟨i, low⟩).symm)
  by_cases here : p = ⟨i, low⟩
  · rw [if_pos here, if_pos here.symm, frameCounted_here, ← here]
    rfl
  · rw [if_neg here, if_neg (Ne.symm here), frameCounted_other s rest (Ne.symm here)]

/-- R50, R171: the notice of a frame-end that gives a pan's centroid. -/
def frameNotice (s : State) (p : PanSlot) (kind : NoticeKind) (q : PanSlot) : ControllerPort :=
  (queueNotice s kind (s.handleOf q) (orient s.ts.work (figured s p).x (figured s p).y).1 (orient s.ts.work (figured s p).x (figured s p).y).2).cp

theorem frameCounted_handle (s : State) (rest : List (BitVec 16)) (p q : PanSlot) : (frameCounted s rest p).handleOf q = s.handleOf q := by
  have gen : (frameCounted s rest p).pans[q].pres.gen = s.pans[q].pres.gen := by
    by_cases here : q = p
    · rw [here, frameCounted_here]
      exact figured_gen s p
    · rw [frameCounted_other s rest here]
      exact figured_gen s q
  rw [State.handleOf, gen, State.handleOf]

theorem frameCounted_kept (s : State) (rest : List (BitVec 16)) (p : PanSlot) :
    (frameCounted s rest p).cp = s.cp ∧ (frameCounted s rest p).fe = s.fe ∧ (frameCounted s rest p).ts = s.ts ∧
      (frameCounted s rest p).pt = s.pt ∧ (frameCounted s rest p).coils = s.coils := by
  simp only [frameCounted, framePans, and_self]

theorem frameCounted_told (s : State) (rest : List (BitVec 16)) (p : PanSlot) (kind : NoticeKind) :
    centroidTold (frameCounted s rest p) kind p = frameNotice s p kind p := by
  obtain ⟨port, frames, tables, -, -⟩ := frameCounted_kept s rest p
  rw [centroidTold, frameCounted_handle, frameCounted_here, tables, frameNotice]
  exact queueNotice_cp port (congrArg FrameEngine.frameCount frames) ..

theorem placedNow_unsettled (others : ∀ q : PanSlot, q ≠ p → unsettled s.pans[q].pres = false) (q : PanSlot) (other : q ≠ p) :
    unsettled (placedNow (frameCounted s rest p) p)[q].pres = false := by
  rw [placedNow_frame]
  exact figuredBut_unsettled others _ q other

/-- R41, R43: the frame-end at which a MOVING pan is PLACED. -/
theorem frameEnd_moving (others : ∀ q : PanSlot, q ≠ p → unsettled s.pans[q].pres = false) (still : (figured s p).changed = false)
    (enough : s.ts.work.settleFrames ≤ (figured s p).settle + 1) (moving : (figured s p).presence = .moving) :
    allPans.foldl settleCount (framePans s rest) =
      { framePans s rest with pans := figuredBut s p (placedPres (figured s p)), cp := frameNotice s p .panMoved p } := by
  have moves : unsettled s.pans[p].pres = true := (unsettled_iff _).mpr (.inr ((figured_presence s p).symm.trans moving))
  have here : (frameCounted s rest p).pans[p].pres.presence = .moving := by rw [frameCounted_here]; exact moving
  rw [frameEnd_settles others moves still enough (settle_moving here) (placedNow_unsettled others), frameCounted_told, placedNow_frame]
  rfl

/-- R42, R43: the frame-end at which a FORMING pan is PLACED. -/
theorem frameEnd_forming (others : ∀ q : PanSlot, q ≠ p → unsettled s.pans[q].pres = false) (still : (figured s p).changed = false)
    (enough : s.ts.work.settleFrames ≤ (figured s p).settle + 1) (forming : (figured s p).presence = .forming)
    (none : s.pt.liftOrder = []) :
    allPans.foldl settleCount (framePans s rest) =
      { framePans s rest with
        pans := figuredBut s p (placedPres (figured s p)), cp := frameNotice s p .panPlaced p
        posts := { (framePans s rest).posts with
                   triggers := s.posts.triggers ++ [.membership p], rebuilds := s.posts.rebuilds + 1 } } := by
  have moves : unsettled s.pans[p].pres = true := (unsettled_iff _).mpr (.inl ((figured_presence s p).symm.trans forming))
  have here : (frameCounted s rest p).pans[p].pres.presence = .forming := by rw [frameCounted_here]; exact forming
  obtain ⟨-, -, -, pt, -⟩ := frameCounted_kept s rest p
  have alone : returnWinner (frameCounted s rest p) p = .none := returnWinner_none (by rw [pt, none]; exact fun w mem => absurd mem List.not_mem_nil)
  rw [frameEnd_settles others moves still enough (settle_forming here alone) (placedNow_unsettled others), frameCounted_told, placedNow_frame]
  rfl

/-! ### The one pan returns (R48) -/

/-- R48: the presence part of the record that has taken up a settling pan at a frame-end. -/
def returnedPres (r g : PresencePart) : PresencePart :=
  { r with
    presence := .placed, members := g.members, settle := g.settle + 1, changed := false, x := g.x, y := g.y, area := g.area
    material := g.material, signature := some ⟨g.x, g.y, g.area, g.material⟩, liftedAt := none, grace := none }

/-- R48: the pans once a LIFTED record has taken up the settling pan at a frame-end. -/
def pansReturned (s : State) (w p : PanSlot) : Vector PanRecord 8 :=
  Vector.ofFn fun q =>
    if q = w then { s.pans[q] with pres := returnedPres s.pans[w].pres (figured s p) }
    else if q = p then { s.pans[q] with pres := .freed (figured s p).gen }
    else { s.pans[q] with pres := figured s q }

theorem pansReturned_get (s : State) (w p q : PanSlot) :
    (pansReturned s w p)[q] =
      if q = w then { s.pans[q] with pres := returnedPres s.pans[w].pres (figured s p) }
      else if q = p then { s.pans[q] with pres := .freed (figured s p).gen }
      else { s.pans[q] with pres := figured s q } := Vector.getElem_ofFn ..

theorem pansUp_frame (s : State) (rest : List (BitVec 16)) {w p : PanSlot} (other : w ≠ p) (empty : s.pans[w].pres.members = []) :
    pansUp (frameCounted s rest p) w p = pansReturned s w p := by
  have still : figured s w = s.pans[w].pres := if_pos empty
  have each (q : PanSlot) : (pansUp (frameCounted s rest p) w p)[q] = (pansReturned s w p)[q] := by
    rw [pansReturned_get, pansUp, Laws.set_get, Laws.set_get]
    by_cases pan : p = q
    · rw [if_pos pan, if_neg fun same => other (same.symm.trans pan.symm), if_pos pan.symm, frameCounted_here, ← pan]
    · by_cases winner : w = q
      · rw [if_neg pan, if_pos winner, if_pos winner.symm, frameCounted_here, frameCounted_other s rest other, ← winner, still]
        rfl
      · rw [if_neg pan, if_neg winner, if_neg (Ne.symm winner), if_neg (Ne.symm pan), frameCounted_other s rest (Ne.symm pan)]
  exact Vector.ext fun i low => each ⟨i, low⟩

/-- R48: the frame-end at which one LIFTED record takes up the settling pan, and no coil waits. -/
theorem frameEnd_returns {w : PanSlot} {old : Signature} (others : ∀ q : PanSlot, q ≠ p → unsettled s.pans[q].pres = false)
    (still : (figured s p).changed = false) (enough : s.ts.work.settleFrames ≤ (figured s p).settle + 1)
    (forming : (figured s p).presence = .forming) (order : s.pt.liftOrder = [w]) (empty : s.pans[w].pres.members = [])
    (lifted : s.pans[w].pres.presence = .lifted) (signature : s.pans[w].pres.signature = some old)
    (material : old.material = (figured s p).material)
    (area : 100 * (max old.area (figured s p).area - min old.area (figured s p).area) ≤ s.ts.work.areaTolerance * old.area)
    (radius : max (max old.x (figured s p).x - min old.x (figured s p).x) (max old.y (figured s p).y - min old.y (figured s p).y) ≤
      s.ts.work.returnRadius)
    (queue : s.pt.examQueue = []) (orphans : s.pt.orphans = []) (quiet : ∀ j : CoilId, waiting s j = false) :
    allPans.foldl settleCount (framePans s rest) = returnTold (frameCounted s rest p) w p := by
  have moves : unsettled s.pans[p].pres = true := (unsettled_iff _).mpr (.inl ((figured_presence s p).symm.trans forming))
  have here : (frameCounted s rest p).pans[p].pres.presence = .forming := by rw [frameCounted_here]; exact forming
  obtain ⟨-, -, tables, pt, coils⟩ := frameCounted_kept s rest p
  have other : w ≠ p := fun same =>
    Presence.noConfusion (lifted.symm.trans ((congrArg (fun q : PanSlot => s.pans[q].pres.presence) same).trans
      ((figured_presence s p).symm.trans forming)))
  have same : figured s w = s.pans[w].pres := if_pos empty
  have found : Matches (frameCounted s rest p) w p := by
    unfold Matches
    rw [frameCounted_here, frameCounted_other s rest other, same, tables]
    exact ⟨old, signature, material, area, (max_le_iff.mp radius).1, (max_le_iff.mp radius).2⟩
  have winner : returnWinner (frameCounted s rest p) p = some w :=
    returnWinner_some (earlier := []) (later := []) (pt ▸ order) found fun v mem => absurd mem List.not_mem_nil
  have waits (j : CoilId) : waiting (movedUp (frameCounted s rest p) w p) j = false := by
    have before := quiet j
    unfold waiting movedUp at *
    dsimp only
    rw [coilsUp_get, coils]
    split
    · rfl
    · exact before
  have none (ks : List CoilId) : (ks.flatMap (waitingAround (movedUp (frameCounted s rest p) w p))) = [] :=
    List.flatMap_eq_nil_iff.mpr fun k _ => waitingAround_none fun j _ => waits j
  have queued : ({ (frameCounted s rest p).pt with
      liftOrder := (frameCounted s rest p).pt.liftOrder.filter (· ≠ w), examQueue := queued (frameCounted s rest p).pt.examQueue [] } : PanLists) =
      (returnTold (frameCounted s rest p) w p).pt := by
    rw [returnTold]
    rfl
  have returned : returnedTo (frameCounted s rest p) w p = returnTold (frameCounted s rest p) w p := by
    rw [returnedTo_eq, none, queued]
  have lists : (returnTold (frameCounted s rest p) w p).pt = { s.pt with liftOrder := s.pt.liftOrder.filter (· ≠ w) } := by
    rw [returnTold]
    dsimp only
    rw [pt]
  have settles : settle (frameCounted s rest p) p = returnTold (frameCounted s rest p) w p := by
    rw [settle_returns here winner other, returned, emptyQueue_nil, serveOrphans_idle]
    · rw [lists]
      exact .inl orphans
    · rw [lists]
      exact queue
  refine frameEnd_settles others moves still enough settles fun q apart => ?_
  have pan : (returnTold (frameCounted s rest p) w p).pans[q] = (pansUp (frameCounted s rest p) w p)[q] := by rw [returnTold]
  rw [pan]
  by_cases won : q = w
  · rw [won, pansUp_winner other]
    rfl
  · rw [pansUp, Laws.set_get, if_neg apart.symm, Laws.set_get, if_neg (Ne.symm won), frameCounted_other s rest apart]
    exact (figured_unsettled s q).trans (others q apart)

end

/-! ### The rows -/

theorem framePans_posts (s : State) (rest : List (BitVec 16)) :
    (framePans s rest).posts =
      { s.posts with
        ptFrameEnds := rest, coilEvents := frameTaken s.posts.coilEvents
        pans := s.posts.pans ++
          (allPans.filter fun q => s.pans[q].pres.presence.standing && s.pans[q].pres.material != (figured s q).material).map fun q =>
            .material q (figured s q).material } := by
  rw [framePans]
  dsimp only
  rw [materialPost_all]

theorem framePans_kept (s : State) (rest : List (BitVec 16)) :
    (framePans s rest).coils = s.coils ∧ (framePans s rest).pt = s.pt ∧ (framePans s rest).cp = s.cp ∧
      (framePans s rest).posts.triggers = s.posts.triggers ∧ (framePans s rest).posts.rebuilds = s.posts.rebuilds := by
  simp only [framePans, and_self]

/-- R22, R40: what a frame-end leaves alone. -/
theorem frameEnd_apart (s : State) (rest : List (BitVec 16)) {u : State} (taken : allPans.foldl settleCount (framePans s rest) = u) :
    u = { s with
          coils := u.coils, pans := u.pans, pt := u.pt, hs := u.hs, ba := u.ba
          cp := { s.cp with notices := u.cp.notices, gap := u.cp.gap }
          posts := { s.posts with
                     ptFrameEnds := rest, coilEvents := frameTaken s.posts.coilEvents, pans := u.posts.pans, triggers := u.posts.triggers
                     rebuilds := u.posts.rebuilds } } ∧
      FoundingsApart s u := by
  have tracks := frameEnd_tracks s rest
  rw [taken] at tracks
  have apart := tracks.apart
  have frame := tracks.frame
  refine ⟨?_, ⟨apart.parts, apart.lists, apart.none, apart.fresh⟩⟩
  unfold TrackerFrame at frame
  rw [frame]
  rfl

/-- R48: the state once one LIFTED record has taken up the settling pan. -/
theorem returnTold_frame (s : State) (rest : List (BitVec 16)) {w p : PanSlot} {told : List PanPost} (other : w ≠ p)
    (empty : s.pans[w].pres.members = []) (posts : (framePans s rest).posts.pans = told) (order : s.pt.liftOrder = [w])
    (members : ∀ j ∈ (figured s p).members, s.coils[j].occupancy = .member) :
    let u := returnTold (frameCounted s rest p) w p
    u.pans = pansReturned s w p ∧
      (∀ j : CoilId, u.coils[j] = if j ∈ (figured s p).members then { s.coils[j] with owner := some w } else s.coils[j]) ∧
      u.pt = { s.pt with liftOrder := [] } ∧ u.cp = frameNotice s p .panReturned w ∧
      u.posts.triggers = s.posts.triggers ++ [.membership w] ∧ u.posts.rebuilds = s.posts.rebuilds + 1 ∧
      u.posts.pans = told ++ [.back w] := by
  obtain ⟨port, frames, tables, pt, coils⟩ := frameCounted_kept s rest p
  obtain ⟨-, -, -, triggers, rebuilds⟩ := framePans_kept s rest
  have counted : (frameCounted s rest p).posts = (framePans s rest).posts := by rw [frameCounted]
  have notice := queueNotice_cp port (congrArg FrameEngine.frameCount frames) .panReturned (s.handleOf w)
    (orient s.ts.work (figured s p).x (figured s p).y).1 (orient s.ts.work (figured s p).x (figured s p).y).2
  rw [returnTold, counted, pt, posts, triggers, rebuilds, frameCounted_handle, tables, frameCounted_here, pansUp_frame s rest other empty]
  refine ⟨rfl, fun j => ?_, ?_, notice, rfl, rfl, rfl⟩
  · dsimp only
    rw [coilsUp_get, frameCounted_here, coils]
    by_cases mem : j ∈ (figured s p).members
    · have held := members j mem
      rw [if_pos ⟨mem, .inr held⟩, if_pos mem, ← held]
    · rw [if_neg fun c => mem c.1, if_neg mem]
  · rw [order]
    simp

theorem settleCount_rows (s : State) (p : PanSlot) :
    (s.pans[p].pres.presence ≠ .forming → s.pans[p].pres.presence ≠ .moving → settleCount s p = s) ∧
    (s.pans[p].pres.presence = .forming ∨ s.pans[p].pres.presence = .moving →
      (s.pans[p].pres.changed = true →
        settleCount s p = { s with pans := s.pans.set p { s.pans[p] with pres := { s.pans[p].pres with changed := false } } }) ∧
      (s.pans[p].pres.changed = false → s.pans[p].pres.settle + 1 < s.ts.work.settleFrames → settleCount s p = counted s p)) := by
  refine ⟨fun settled quiet => if_neg fun moves => moves.elim settled quiet, fun moves => ⟨fun changed => ?_, fun still few => ?_⟩⟩
  · exact settleCount_changed ((unsettled_iff _).mpr moves) changed
  · exact (settleCount_counts ((unsettled_iff _).mpr moves) still).trans (if_neg (Nat.not_le.mpr few))

theorem settleCount_settles {s : State} {p : PanSlot} (still : s.pans[p].pres.changed = false)
    (enough : s.ts.work.settleFrames ≤ s.pans[p].pres.settle + 1) :
    (s.pans[p].pres.presence = .moving →
      settleCount s p = { counted s p with pans := placedNow (counted s p) p, cp := centroidTold (counted s p) .panMoved p }) ∧
    (s.pans[p].pres.presence = .forming → (∀ w ∈ s.pt.liftOrder, ¬ Matches (counted s p) w p) →
      settleCount s p =
        { counted s p with
          pans := placedNow (counted s p) p
          cp := centroidTold (counted s p) .panPlaced p
          posts := { s.posts with
                     triggers := s.posts.triggers ++ [.membership p], rebuilds := s.posts.rebuilds + 1 } }) ∧
    ∀ (earlier later : List PanSlot) (w : PanSlot), s.pans[p].pres.presence = .forming → s.pt.liftOrder = earlier ++ w :: later → w ≠ p →
      Matches (counted s p) w p → (∀ v ∈ later, ¬ Matches (counted s p) v p) →
      settleCount s p = serveOrphans (emptyQueue (returnedTo (counted s p) w p)) := by
  have presence : (counted s p).pans[p].pres.presence = s.pans[p].pres.presence := by rw [counted_pan, if_pos rfl]
  have settles (moves : unsettled s.pans[p].pres = true) : settleCount s p = settle (counted s p) p :=
    (settleCount_counts moves still).trans (if_pos enough)
  refine ⟨fun moving => ?_, fun forming alone => ?_, fun earlier later w forming order other found last => ?_⟩
  · rw [settles ((unsettled_iff _).mpr (.inr moving)), settle_moving (presence.trans moving)]
  · rw [settles ((unsettled_iff _).mpr (.inl forming)), settle_forming (presence.trans forming) (returnWinner_none alone)]
    rfl
  · rw [settles ((unsettled_iff _).mpr (.inl forming)),
      settle_returns (presence.trans forming) (returnWinner_some order found last) other]

/-- Settles O42: a frame-end is the fold of the settle counts over the pans with their figures; a pan that is neither FORMING nor MOVING is
passed over, and what the coils examined found has a changed mark, so that the same frame-end does not settle it. -/
theorem pansSettleAtFrameEnds : Obligations.PansSettleAtFrameEnds := by
  unfold Obligations.PansSettleAtFrameEnds
  refine ⟨fun s ms _ => ?_, ⟨fun s on idle => exec_panTrackerFrameEnd_idle on idle, fun s frame rest on high head still => ?_,
    fun s frame rest p on high head others moves => ?_⟩, fun s frame rest on high head => ?_, fun s p => ?_⟩
  · intro area mean held place
    exact ⟨rfl, rfl, rfl, fun m most first => materialOfPan_most most first⟩
  · have all : allPans.foldl settleCount (framePans s rest) = framePans s rest :=
      settleCounts_still allPans fun q _ => (framePans_unsettled s rest q).trans (still q)
    rw [exec_panTrackerFrameEnd on high head, all, ← framePans_posts]
    rfl
  · intro g signature news notice
    obtain ⟨frame, apart⟩ := frameEnd_apart s rest rfl
    obtain ⟨coils, pt, port, triggers, rebuilds⟩ := framePans_kept s rest
    have told : (framePans s rest).posts.pans = s.posts.pans ++ news := congrArg Posts.pans (framePans_posts s rest)
    refine ⟨_, exec_panTrackerFrameEnd on high head, frame, apart, fun changed => ?_, fun still few => ?_, fun still enough quiet => ?_,
      fun w old still enough forming order empty lifted signed material area radius queue orphans waits members => ?_⟩
    · rw [frameEnd_changed others moves changed]
      exact ⟨rfl, coils, pt, port, told, triggers, rebuilds⟩
    · rw [frameEnd_counts others moves still few]
      exact ⟨rfl, coils, pt, port, told, triggers, rebuilds⟩
    · cases moving : decide (g.presence = .moving) with
      | true =>
        have moving := of_decide_eq_true moving
        rw [frameEnd_moving others still enough moving]
        exact ⟨rfl, coils, pt, told, fun _ => ⟨rfl, triggers, rebuilds⟩, fun forming => Presence.noConfusion (moving.symm.trans forming)⟩
      | false =>
        have settled := of_decide_eq_false moving
        have forming : g.presence = .forming :=
          ((unsettled_iff g).mp ((figured_unsettled s p).trans moves)).resolve_right settled
        rw [frameEnd_forming others still enough forming (quiet.resolve_left settled)]
        exact ⟨rfl, coils, pt, told, fun moving => absurd moving settled, fun _ => ⟨rfl, rfl, rfl⟩⟩
    · rw [frameEnd_returns others still enough forming order empty lifted signed material area radius queue orphans waits]
      have other : w ≠ p := fun same =>
        Presence.noConfusion (lifted.symm.trans ((congrArg (fun q : PanSlot => s.pans[q].pres.presence) same).trans
          ((figured_presence s p).symm.trans forming)))
      exact returnTold_frame s rest other empty told order members
  · exact exec_panTrackerFrameEnd on high head
  · intro r t
    obtain ⟨passed, counts⟩ := settleCount_rows s p
    exact ⟨passed, counts, fun still enough => settleCount_settles still enough⟩

end Sys2Proof.Machine
end

section
/-! How the Pan Tracker's operations leave the coils: what a release does to one, and nothing but claims to the others (R1, R12). -/

namespace Sys2Proof.Machine

-- The default arguments `by decide` wait for the kernel: one declaration after the other holds few threads.
set_option Elab.async false

/-- R12: a coil has kept all but its claim; one that is ABSENT or VACANT has not been claimed. -/
structure CoilStays (c d : CoilRecord) : Prop where
  rest : d = { c with occupancy := d.occupancy, owner := d.owner }
  out : c.occupancy = .absent ∨ c.occupancy = .vacant → d = c
  claimed : c.occupancy = .sensed ∨ c.occupancy = .member → d.occupancy = .sensed ∨ d.occupancy = .member

theorem CoilStays.refl (c : CoilRecord) : CoilStays c c := ⟨rfl, fun _ => rfl, id⟩

theorem CoilStays.trans {c d e : CoilRecord} (h : CoilStays c d) (g : CoilStays d e) : CoilStays c e where
  rest := by
    have second := g.rest
    rw [h.rest] at second
    exact second
  out away := by
    have same := h.out away
    rw [g.out (same ▸ away), same]
  claimed sensed := g.claimed (h.claimed sensed)

/-- R12: a claim of a SENSED or MEMBER coil. -/
theorem CoilStays.claim {c : CoilRecord} (held : c.occupancy = .sensed ∨ c.occupancy = .member) {occupancy : Occupancy}
    (claims : occupancy = .sensed ∨ occupancy = .member) (owner : Option PanSlot) : CoilStays c { c with occupancy := occupancy, owner := owner } where
  rest := rfl
  out away := by
    rcases held with sensed | member <;> rcases away with absent | vacant <;> simp_all
  claimed _ := claims

/-- R12: no coil is changed but by claims. -/
def CoilsStay (s u : State) : Prop := ∀ k : CoilId, CoilStays s.coils[k] u.coils[k]

theorem CoilsStay.refl (s : State) : CoilsStay s s := fun _ => .refl _

theorem CoilsStay.trans {s t u : State} (h : CoilsStay s t) (g : CoilsStay t u) : CoilsStay s u := fun k => (h k).trans (g k)

theorem CoilsStay.ite {c : Prop} [Decidable c] {s t u : State} (h : CoilsStay s t) (g : CoilsStay s u) : CoilsStay s (if c then t else u) := by
  split
  · exact h
  · exact g

theorem CoilsStay.foldl {α : Type} {f : State → α → State} (h : ∀ v a, CoilsStay v (f v a)) (as : List α) (s : State) :
    CoilsStay s (as.foldl f s) := by
  induction as generalizing s with
  | nil => exact refl s
  | cons a as ih => exact (h s a).trans (ih (f s a))

theorem CoilsStay.of_same {s u : State} (coils : u.coils = s.coils) : CoilsStay s u := fun k => by
  rw [coils]
  exact .refl _

theorem coil_kept {l : List Part} {s u : State} (t : Touches l s u) (k : CoilId) (a : Part.owners ∉ l := by decide)
    (b : Part.readings ∉ l := by decide) : u.coils[k] = s.coils[k] := by
  have owner := congrFun (t.kept .owners a) k
  have reading := congrFun (t.kept .readings b) k
  dsimp only at owner reading
  revert owner reading
  generalize u.coils[k] = c, s.coils[k] = d
  cases c
  cases d
  simp_all

theorem CoilsStay.of_touches {l : List Part} {s u : State} (t : Touches l s u) (a : Part.owners ∉ l := by decide)
    (b : Part.readings ∉ l := by decide) : CoilsStay s u := fun k => by
  rw [coil_kept t k a b]
  exact .refl _

theorem CoilsStay.set {s u : State} {k : CoilId} {r : CoilRecord} (coils : u.coils = s.coils.set k r) (h : CoilStays s.coils[k] r) :
    CoilsStay s u := fun j => by
  have coil : u.coils[j] = if k = j then r else s.coils[j] := by rw [coils, Laws.set_get]
  rw [coil]
  split
  · next here => exact here ▸ h
  · exact .refl _

/-! ### The claims -/

theorem joinClaim_stays (s : State) (k : CoilId) (w : PanSlot) : CoilsStay s (joinClaim s k w) := by
  unfold joinClaim
  split
  · next held => exact .set rfl (.claim held (.inr rfl) _)
  · exact .refl s

theorem unownClaim_stays (s : State) (k : CoilId) : CoilsStay s (unownClaim s k) := by
  unfold unownClaim
  split
  · next held => exact .set rfl (.claim (.inr held) (.inl rfl) _)
  · exact .refl s

theorem examine_stays (s : State) (k : CoilId) : CoilsStay s (examine s k) := by
  have sensed (waits : waiting s k = true) : s.coils[k].occupancy = .sensed := ((waiting_iff s k).mp waits).1
  have founds {v : State} (q : PanSlot) (waits : waiting v k = true) : CoilsStay v (foundAt v k q) := by
    have coils : (readySlot v q).coils = v.coils := (congrArg State.coils (readySlot_readied v q).frame :)
    have held : v.coils[k].occupancy = .sensed := ((waiting_iff v k).mp waits).1
    have founded : (foundedIn (readySlot v q) k q).coils = v.coils.set k { v.coils[k] with occupancy := .member, owner := some q } := by
      rw [foundedIn]
      dsimp only
      rw [coils]
    rw [foundAt_eq waits]
    exact .set founded (.claim (.inl held) (.inr rfl) _)
  refine examine_cases s k (.refl s) (.of_touches (leaveOrphans_touches s k)) (fun q waits => ?_) (fun _ _ _ => ?_) (fun q waits _ => founds q waits)
    (fun q later waits _ _ => ?_)
  · rw [joinPan_eq waits]
    exact .set rfl (.claim (.inl (sensed waits)) (.inr rfl) _)
  · exact .of_touches (addOrphan_touches s k)
  · exact (CoilsStay.of_touches (retire_touches s q .evicted)).trans (founds q ((waiting_kept (retire_touches s q .evicted) k).trans waits))

theorem emptyQueue_stays (s : State) : CoilsStay s (emptyQueue s) :=
  drain_keeps (P := CoilsStay s) (fun _ _ g => g.trans (.of_same rfl)) (fun v k g => g.trans (examine_stays v k)) 4225 (.refl s)

theorem serveOrphans_stays (s : State) : CoilsStay s (serveOrphans s) :=
  serve_keeps (P := CoilsStay s) (fun _ _ g => g.trans (.of_same rfl)) (fun _ _ g => g.trans (.of_same rfl))
    (fun v k g => g.trans (examine_stays v k)) 64 (.refl s)

theorem settled_stays (s : State) : CoilsStay s (serveOrphans (emptyQueue s)) := (emptyQueue_stays s).trans (serveOrphans_stays _)

/-! ### A member that is released -/

theorem splitTold_stays (s : State) (p : PanSlot) : CoilsStay s (splitTold s p) := by
  have kept : CoilsStay s (s.modPres p (splitPres (keptOf s p))) := .of_same rfl
  have owned : CoilsStay s (splitOwned s p) := kept.trans (.foldl unownClaim_stays _ _)
  have figures := owned.trans (.of_touches (refigure_touches _ p))
  have posted : CoilsStay s (if s.pans[p].pres.presence.standing then postMembership (refigure (splitOwned s p) p) p
      else refigure (splitOwned s p) p) := .ite (figures.trans (.of_touches (postMembership_touches _ p))) figures
  exact .ite (posted.trans (.of_touches (queueNotice_touches _ _ _ _ _))) posted

/-- R11: the release of a member leaves the other coils their readings. -/
theorem dropMember_stays (s : State) (k : CoilId) (p : PanSlot) : CoilsStay (released s k p) (dropMember s k p) := by
  rw [dropMember_eq]
  refine .ite ?_ ?_
  · exact (CoilsStay.of_touches (endPresence_touches _ p)).trans (.of_touches (enqueueAround_touches _ k))
  · rw [splitCheck_eq]
    have queued := ((CoilsStay.of_touches (enqueue_touches (splitTold (released s k p) p) (shedOf (released s k p) p))).trans
      (.of_touches (enqueueAround_touches _ k))).trans
      (.of_touches (enqueue_touches _ (aroundKept (splitTold (released s k p) p) (keptOf (released s k p) p))))
    exact ((splitTold_stays _ p).trans queued).trans (.foldl (fun v j => .of_touches (enqueueAround_touches v j)) _ _)

theorem dropMember_coil (s : State) {j k : CoilId} (p : PanSlot) (other : j ≠ k) : CoilStays s.coils[j] (dropMember s k p).coils[j] := by
  have stays := dropMember_stays s k p j
  rw [released_coil, if_neg other] at stays
  exact stays

theorem dropMember_here (s : State) (k : CoilId) (p : PanSlot) :
    (dropMember s k p).coils[k] = { s.coils[k] with occupancy := .vacant, confirm := 0, owner := none } := by
  have stays := dropMember_stays s k p k
  rw [released_coil, if_pos rfl] at stays
  exact stays.out (.inr rfl)

end Sys2Proof.Machine
end

section
/-! The Coil Monitor and the Pan Tracker at a change of the structural-valid flag (R1, R32, R39). -/

namespace Sys2Proof.Machine

-- The default arguments `by decide` wait for the kernel: one declaration after the other holds few threads.
set_option Elab.async false

/-- R1: the coils that lose their presence. -/
def lostCoils (s : State) (valid : Bool) : List CoilId := allCoils.filter (losesPresence s valid)

theorem mem_lostCoils {s : State} {valid : Bool} {k : CoilId} :
    k ∈ lostCoils s valid ↔ s.coils[k].occupancy ≠ .absent ∧ presentBy s valid k = false := by
  rw [lostCoils, List.mem_filter, losesPresence, presentBy, Bool.and_eq_true, bne_iff_ne, Bool.not_eq_true']
  exact and_iff_right (List.mem_finRange k)

/-! ### The members that are released -/

theorem groups_forceRelease (s : State) (k : CoilId) : GroupsOnly s (forceRelease s k) := by
  unfold forceRelease
  split
  · exact groups_dropMember s k _
  · exact .refl s

theorem forceRelease_coil (s : State) {j k : CoilId} (other : j ≠ k) : CoilStays s.coils[j] (forceRelease s k).coils[j] := by
  unfold forceRelease
  split
  · exact dropMember_coil s _ other
  · exact .refl _

theorem forceReleases_coil (ks : List CoilId) (s : State) {j : CoilId} (out : j ∉ ks) : CoilStays s.coils[j] (ks.foldl forceRelease s).coils[j] := by
  induction ks generalizing s with
  | nil => exact .refl _
  | cons k ks ih =>
    rw [List.mem_cons, not_or] at out
    exact (forceRelease_coil s out.1).trans (ih _ out.2)

theorem groups_forcedOut (s : State) (valid : Bool) : GroupsOnly s (forcedOut s valid) := .foldl groups_forceRelease _ s

/-! ### The coils that become ABSENT -/

/-- R1, R32: a coil is ABSENT and no longer listed. -/
def dropCoil (s : State) (k : CoilId) : State := leaveQueue (leaveOrphans (removeCoil s k) k) k

/-- Coils, hot set and the Pan Tracker's lists alone have changed. -/
def CoilsOnly (s u : State) : Prop := u = { s with coils := u.coils, pu := { s.pu with hot := u.pu.hot }, pt := u.pt }

theorem CoilsOnly.trans {s t u : State} (h : CoilsOnly s t) (g : CoilsOnly t u) : CoilsOnly s u := by
  unfold CoilsOnly at h g ⊢
  rw [h] at g
  exact g

theorem CoilsOnly.ts {s u : State} (h : CoilsOnly s u) : u.ts = s.ts := by
  unfold CoilsOnly at h
  exact (congrArg State.ts h :)

theorem dropCoil_only (s : State) (k : CoilId) : CoilsOnly s (dropCoil s k) := rfl

theorem dropCoils_only (ks : List CoilId) (s : State) : CoilsOnly s (ks.foldl dropCoil s) := by
  induction ks generalizing s with
  | nil => rfl
  | cons k ks ih => exact (dropCoil_only s k).trans (ih _)

theorem dropCoil_get (s : State) (k j : CoilId) :
    (dropCoil s k).coils[j] = (if j = k then .reset else s.coils[j]) ∧ (dropCoil s k).pu.hot[j] = if j = k then false else s.pu.hot[j] := by
  refine ⟨removeCoil_coil s k j, ?_⟩
  have hot : (dropCoil s k).pu.hot[j] = if k = j then false else s.pu.hot[j] := Laws.set_get ..
  rw [hot]
  exact if_congr eq_comm rfl rfl

theorem dropCoils_get (ks : List CoilId) (s : State) (j : CoilId) :
    (ks.foldl dropCoil s).coils[j] = (if j ∈ ks then .reset else s.coils[j]) ∧
      (ks.foldl dropCoil s).pu.hot[j] = if j ∈ ks then false else s.pu.hot[j] := by
  induction ks generalizing s with
  | nil => exact ⟨(if_neg List.not_mem_nil).symm, (if_neg List.not_mem_nil).symm⟩
  | cons k ks ih =>
    obtain ⟨coil, hot⟩ := ih (dropCoil s k)
    obtain ⟨first, second⟩ := dropCoil_get s k j
    rw [List.foldl_cons, coil, hot, first, second]
    by_cases later : j ∈ ks
    · simp only [later, List.mem_cons, or_true, if_true, and_self]
    · simp only [later, List.mem_cons, or_false, if_false, and_self]

/-! ### The coils that become VACANT -/

theorem addCoil_only (s : State) (k : CoilId) : CoilsOnly s (addCoil s k) := by
  unfold addCoil
  split <;> rfl

theorem addCoil_rest (s : State) (k : CoilId) : (addCoil s k).pu = s.pu ∧ (addCoil s k).pt = s.pt ∧ (addCoil s k).ts = s.ts := by
  unfold addCoil
  split <;> exact ⟨rfl, rfl, rfl⟩

theorem addCoil_get (s : State) (k j : CoilId) :
    (addCoil s k).coils[j] =
      if j = k ∧ s.coils[j].occupancy = .absent ∧ s.ts.work.t1[j].present then { CoilRecord.reset with occupancy := .vacant }
      else s.coils[j] := by
  unfold addCoil
  by_cases new : s.coils[k].occupancy = .absent ∧ s.ts.work.t1[k].present
  · have coil : (s.modCoil k fun _ => { CoilRecord.reset with occupancy := .vacant }).coils[j] =
        if k = j then { CoilRecord.reset with occupancy := .vacant } else s.coils[j] := Laws.set_get ..
    rw [if_pos new, coil]
    by_cases here : k = j
    · subst here
      rw [if_pos rfl, if_pos ⟨rfl, new⟩]
    · rw [if_neg here, if_neg fun c => here c.1.symm]
  · rw [if_neg new, if_neg]
    rintro ⟨rfl, absent⟩
    exact new absent

theorem addCoils_get (ks : List CoilId) (s : State) (j : CoilId) :
    (ks.foldl addCoil s).coils[j] =
      if j ∈ ks ∧ s.coils[j].occupancy = .absent ∧ s.ts.work.t1[j].present then { CoilRecord.reset with occupancy := .vacant }
      else s.coils[j] := by
  induction ks generalizing s with
  | nil => exact (if_neg fun c => List.not_mem_nil c.1).symm
  | cons k ks ih =>
    obtain ⟨-, -, tables⟩ := addCoil_rest s k
    have coil := addCoil_get s k j
    rw [List.foldl_cons, ih, tables]
    by_cases new : s.coils[j].occupancy = .absent ∧ s.ts.work.t1[j].present
    · by_cases here : j = k
      · rw [if_pos ⟨here, new⟩] at coil
        rw [coil, if_pos (⟨List.mem_cons.mpr (.inl here), new⟩ : j ∈ k :: ks ∧ _)]
        exact if_neg fun c => Occupancy.noConfusion c.2.1
      · rw [if_neg fun c => here c.1] at coil
        rw [coil]
        refine if_congr ?_ rfl rfl
        rw [List.mem_cons, or_iff_right here]
    · rw [if_neg fun c => new c.2] at coil
      rw [coil, if_neg fun c => new c.2, if_neg fun c => new c.2]

theorem addCoils_only (ks : List CoilId) (s : State) :
    CoilsOnly s (ks.foldl addCoil s) ∧ (ks.foldl addCoil s).pu = s.pu ∧ (ks.foldl addCoil s).pt = s.pt := by
  induction ks generalizing s with
  | nil => exact ⟨rfl, rfl, rfl⟩
  | cons k ks ih =>
    obtain ⟨only, hot, lists⟩ := ih (addCoil s k)
    obtain ⟨first, second, -⟩ := addCoil_rest s k
    exact ⟨(addCoil_only s k).trans only, hot.trans first, lists.trans second⟩

/-! ### The coils at the change -/

section
variable (s : State) (valid : Bool)

theorem removedFrom_eq : removedFrom s valid = (lostCoils s valid).foldl dropCoil (forcedOut s valid) := rfl

theorem structured_only : CoilsOnly (forcedOut s valid) (structured s valid) := by
  have removed : CoilsOnly (forcedOut s valid) (removedFrom s valid) := dropCoils_only _ _
  have added : CoilsOnly (forcedOut s valid) (addedTo s valid) := by
    unfold addedTo
    split
    · exact removed.trans (addCoils_only _ _).1
    · exact removed
  exact added.trans rfl

theorem forcedOut_kept : (forcedOut s valid).ts = s.ts ∧ (forcedOut s valid).pu = s.pu := by
  have frame := (groups_forcedOut s valid).frame
  exact ⟨(congrArg State.ts frame :), (congrArg State.pu frame :)⟩

theorem removedFrom_get (k : CoilId) :
    (removedFrom s valid).coils[k] = (if k ∈ lostCoils s valid then .reset else (forcedOut s valid).coils[k]) ∧
      (removedFrom s valid).pu.hot[k] = if k ∈ lostCoils s valid then false else s.pu.hot[k] := by
  obtain ⟨coil, hot⟩ := dropCoils_get (lostCoils s valid) (forcedOut s valid) k
  rw [(forcedOut_kept s valid).2] at hot
  exact ⟨coil, hot⟩

theorem structured_hot (k : CoilId) : (structured s valid).pu.hot[k] = if k ∈ lostCoils s valid then false else s.pu.hot[k] := by
  have listed : (structured s valid).pu = (addedTo s valid).pu := rfl
  have added : (addedTo s valid).pu = (removedFrom s valid).pu := by
    unfold addedTo
    split
    · exact (addCoils_only allCoils (removedFrom s valid)).2.1
    · rfl
  rw [listed, added]
  exact (removedFrom_get s valid k).2

theorem structured_get (k : CoilId) :
    (structured s valid).coils[k] =
      if (removedFrom s valid).coils[k].occupancy = .absent ∧ presentBy s valid k = true then { CoilRecord.reset with occupancy := .vacant }
      else (removedFrom s valid).coils[k] := by
  have tables : (removedFrom s valid).ts = s.ts := by
    have only : CoilsOnly (forcedOut s valid) (removedFrom s valid) := dropCoils_only _ _
    exact only.ts.trans (forcedOut_kept s valid).1
  have same : (structured s valid).coils = (addedTo s valid).coils := rfl
  rw [same, addedTo, presentBy]
  cases valid with
  | false => exact (if_neg fun c => Bool.false_ne_true c.2).symm
  | true =>
    rw [if_pos rfl, addCoils_get, tables, Bool.true_and]
    exact if_congr (and_iff_right (List.mem_finRange k)) rfl rfl

/-- R1: an ABSENT coil that is present becomes VACANT. -/
theorem structured_added {k : CoilId} (present : presentBy s valid k = true) (absent : s.coils[k].occupancy = .absent) :
    (structured s valid).coils[k] = { CoilRecord.reset with occupancy := .vacant } := by
  have out : k ∉ lostCoils s valid := fun mem => (mem_lostCoils.mp mem).1 absent
  have coil : (removedFrom s valid).coils[k] = s.coils[k] := by
    rw [(removedFrom_get s valid k).1, if_neg out]
    exact (forceReleases_coil _ s out).out (.inl absent)
  rw [structured_get, coil, if_pos ⟨absent, present⟩]

/-- R1: a coil that is not present is ABSENT. -/
theorem structured_removed {k : CoilId} (missing : presentBy s valid k = false) :
    (structured s valid).coils[k] = (if s.coils[k].occupancy = .absent then s.coils[k] else .reset) ∧
      (structured s valid).pu.hot[k] = if s.coils[k].occupancy = .absent then s.pu.hot[k] else false := by
  have stays : (structured s valid).coils[k] = (removedFrom s valid).coils[k] := by
    rw [structured_get, if_neg fun c => Bool.false_ne_true (missing.symm.trans c.2)]
  rw [stays, structured_hot, (removedFrom_get s valid k).1]
  by_cases absent : s.coils[k].occupancy = .absent
  · have out : k ∉ lostCoils s valid := fun mem => (mem_lostCoils.mp mem).1 absent
    rw [if_neg out, if_neg out, if_pos absent, if_pos absent]
    exact ⟨(forceReleases_coil _ s out).out (.inl absent), rfl⟩
  · have lost : k ∈ lostCoils s valid := mem_lostCoils.mpr ⟨absent, missing⟩
    rw [if_pos lost, if_pos lost, if_neg absent, if_neg absent]
    exact ⟨rfl, rfl⟩

theorem structured_absent {k : CoilId} (missing : presentBy s valid k = false) : (structured s valid).coils[k].occupancy = .absent := by
  rw [(structured_removed s valid missing).1]
  split
  · next absent => exact absent
  · rfl

/-- R1, R39: a coil that stays present keeps all but its claim. -/
theorem structured_kept {k : CoilId} (present : presentBy s valid k = true) (held : s.coils[k].occupancy ≠ .absent) :
    CoilStays s.coils[k] (structured s valid).coils[k] := by
  have out : k ∉ lostCoils s valid := fun mem => Bool.false_ne_true ((mem_lostCoils.mp mem).2.symm.trans present)
  have coil : (removedFrom s valid).coils[k] = (forcedOut s valid).coils[k] := by rw [(removedFrom_get s valid k).1, if_neg out]
  have stays : CoilStays s.coils[k] (forcedOut s valid).coils[k] := forceReleases_coil _ s out
  have still : (forcedOut s valid).coils[k].occupancy ≠ .absent := fun absent => by
    cases occupancy : s.coils[k].occupancy with
    | absent => exact held occupancy
    | vacant => exact held ((congrArg _ (stays.out (.inr occupancy)).symm).trans absent)
    | sensed => rcases stays.claimed (.inl occupancy) with c | c <;> exact Occupancy.noConfusion (absent.symm.trans c)
    | member => rcases stays.claimed (.inr occupancy) with c | c <;> exact Occupancy.noConfusion (absent.symm.trans c)
  rw [structured_get, coil, if_neg fun c => still c.1]
  exact stays

theorem structured_present_hot {k : CoilId} (present : presentBy s valid k = true) : (structured s valid).pu.hot[k] = s.pu.hot[k] := by
  rw [structured_hot, if_neg fun mem => Bool.false_ne_true ((mem_lostCoils.mp mem).2.symm.trans present)]

theorem structured_orphans {k : CoilId} (mem : k ∈ (structured s valid).pt.orphans) : (structured s valid).coils[k].occupancy = .sensed :=
  beq_iff_eq.mp (List.mem_filter.mp mem).2

end

end Sys2Proof.Machine
end

section
/-! What setting or clearing the structural-valid flag leaves: coils, lists, foundings, boards and posts (R1, R32, R39, R141). -/

namespace Sys2Proof.Machine

-- The default arguments `by decide` wait for the kernel: one declaration after the other holds few threads.
set_option Elab.async false

/-! ### Foundings stand apart -/

theorem GroupsOnly.coilsOnly {s t u : State} (h : GroupsOnly s t) (g : CoilsOnly t u) : GroupsOnly { s with pu := u.pu } u := by
  unfold CoilsOnly at g
  have pans : u.pans = t.pans := (congrArg State.pans g :)
  have heats : u.hs = t.hs := (congrArg State.hs g :)
  have budget : u.ba = t.ba := (congrArg State.ba g :)
  have posts : u.posts = t.posts := (congrArg State.posts g :)
  refine ⟨?_, ⟨heats.trans h.lists.1, budget.trans h.lists.2⟩, fun q => ?_, fun q => ?_, ?_⟩
  · have frame := h.frame
    unfold TrackerFrame at frame ⊢
    rw [frame] at g
    rw [g]
  · rw [pans]
    exact h.pans q
  · rw [pans]
    exact h.gens q
  · rw [posts]
    exact h.posts

theorem structured_groups (s : State) (valid : Bool) : GroupsOnly { s with pu := (structured s valid).pu } (structured s valid) :=
  (groups_forcedOut s valid).coilsOnly (structured_only s valid)

/-- R28, R39: what the change of the flag leaves alone. -/
theorem takePresence_tracks (s : State) (valid : Bool) :
    Tracks (fun _ => False) { s with pu := (structured s valid).pu } (takePresence s valid) := by
  rw [takePresence_eq]
  exact ((structured_groups s valid).tracks fun _ => False).emptyQueue.serveOrphans

/-! ### A coil that is ABSENT waits nowhere -/

/-- A coil is ABSENT and no orphan. -/
structure StaysAway (k : CoilId) (s : State) : Prop where
  absent : s.coils[k].occupancy = .absent
  orphan : k ∉ s.pt.orphans

theorem StaysAway.examine {k : CoilId} {s : State} (h : StaysAway k s) (j : CoilId) : StaysAway k (examine s j) := by
  by_cases other : j = k
  · have still : waiting s j = false := by
      rw [other, waiting, h.absent]
      rfl
    rw [examine_still still]
    exact h
  have coil : (Machine.examine s j).coils[k].occupancy = .absent :=
    (congrArg CoilRecord.occupancy ((examine_stays s j k).out (.inl h.absent))).trans h.absent
  refine ⟨coil, examine_cases (motive := fun v => k ∉ v.pt.orphans) s j h.orphan ?_ (fun q waits => ?_) (fun _ _ _ => ?_) (fun q waits _ => ?_)
    (fun q later waits _ _ => ?_)⟩
  · exact fun mem => h.orphan (List.mem_filter.mp mem).1
  · rw [joinPan_eq waits]
    exact fun mem => h.orphan (List.mem_filter.mp mem).1
  · rw [addOrphan_eq]
    exact fun mem => (mem_insertCoil.mp mem).elim (fun same => other same.symm) h.orphan
  · rw [foundAt_orphans waits]
    exact h.orphan
  · have retired : (retire s q .evicted).pt.orphans = s.pt.orphans := (retire_touches s q .evicted).kept .orphans
    rw [foundAt_orphans ((waiting_kept (retire_touches s q .evicted) j).trans waits), retired]
    exact h.orphan

theorem StaysAway.settled {k : CoilId} {s : State} (h : StaysAway k s) : StaysAway k (serveOrphans (emptyQueue s)) := by
  have pops (v : State) (rest : List CoilId) (g : StaysAway k v) : StaysAway k { v with pt := { v.pt with examQueue := rest } } :=
    ⟨g.absent, g.orphan⟩
  have emptied : StaysAway k (emptyQueue s) := drain_keeps pops (fun _ j g => g.examine j) 4225 h
  have served (n : Nat) : ∀ v : State, StaysAway k v → StaysAway k (serve n v) := by
    induction n with
    | zero => exact fun v g => g
    | succ n ih =>
      intro v g
      have left (j : CoilId) : StaysAway k (leaveOrphans v j) := ⟨g.absent, fun mem => g.orphan (List.mem_filter.mp mem).1⟩
      unfold serve
      split
      · exact ih _ (drain_keeps pops (fun _ j g => g.examine j) 4225 ((left _).examine _))
      · exact g
  exact served 64 _ emptied

/-! ### The coils and lists after the change -/

section
variable (s : State) (valid : Bool)

theorem takePresence_stays : CoilsStay (structured s valid) (takePresence s valid) := by
  rw [takePresence_eq]
  exact settled_stays _

theorem takePresence_frame : TrackerFrame { s with pu := (structured s valid).pu } (takePresence s valid) := (takePresence_tracks s valid).frame

theorem takePresence_hot : (takePresence s valid).pu = (structured s valid).pu := by
  have frame := takePresence_frame s valid
  unfold TrackerFrame at frame
  exact (congrArg State.pu frame :)

theorem takePresence_away {k : CoilId} (missing : presentBy s valid k = false) : StaysAway k (takePresence s valid) := by
  have absent := structured_absent s valid missing
  rw [takePresence_eq]
  exact StaysAway.settled ⟨absent, fun mem => Occupancy.noConfusion (absent.symm.trans (structured_orphans s valid mem))⟩

end

/-! ### The boards (R141) -/

/-- R141: a Board Port takes the configured field. -/
def configuredPort (s : State) (valid : Bool) (b : BoardId) : BoardPort :=
  if configuredBy s valid b then (if s.boards[b].state = .unconfigured then beginCensus s.boards[b] else s.boards[b])
  else if s.boards[b].state = .unconfigured then s.boards[b] else unconfigure s.boards[b]

/-- R141: the board is removed while ONLINE. -/
def removes (s : State) (valid : Bool) (b : BoardId) : Bool := !configuredBy s valid b && s.boards[b].state == .online

/-- R141: Board Ports have taken the configured field, and removals are posted. -/
def boardsTaken (s : State) (ports : Vector BoardPort 4) (removed : List BoardId) : State :=
  { s with
    boards := ports
    posts := { s.posts with
               cmBoards := s.posts.cmBoards ++ removed.map (fun b => (b, .out false))
               puBoards := s.posts.puBoards ++ removed.map (fun b => (b, .removal))
               triggers := s.posts.triggers ++ removed.map .boardState } }

theorem takeConfiguration_eq (s : State) (valid : Bool) (b : BoardId) :
    takeConfiguration valid s b = boardsTaken s (s.boards.set b (configuredPort s valid b)) (if removes s valid b then [b] else []) := by
  have same : s.boards.set b s.boards[b] = s.boards := Laws.set_same ..
  have still (t : State) : boardsTaken t t.boards [] = t := by simp [boardsTaken]
  have posted (ports : Vector BoardPort 4) : boardsTaken s ports [] = { s with boards := ports } := by simp [boardsTaken]
  unfold takeConfiguration configuredPort removes configuredBy
  cases valid && s.ts.work.t0[b].configured with
  | true =>
    rw [if_pos rfl, if_pos rfl]
    split
    · exact (posted _).symm
    · rw [same]
      exact (still s).symm
  | false =>
    rw [if_neg Bool.false_ne_true, if_neg Bool.false_ne_true]
    split
    · next state =>
      rw [same, state]
      exact (still s).symm
    · split
      · next state =>
        rw [state]
        rfl
      · next state =>
        have off : (s.boards[b].state == .online) = false := beq_eq_false_iff_ne.mpr state
        rw [off]
        exact (posted _).symm

theorem takeConfigurations_eq (valid : Bool) (bs : List BoardId) (once : bs.Nodup) (s : State) :
    bs.foldl (takeConfiguration valid) s =
      boardsTaken s (bs.foldl (fun (v : Vector BoardPort 4) (b : BoardId) => v.set b (configuredPort s valid b)) s.boards) (bs.filter (removes s valid)) := by
  induction bs generalizing s with
  | nil => simp [boardsTaken]
  | cons b bs ih =>
    obtain ⟨out, once⟩ := List.nodup_cons.mp once
    let t : State := takeConfiguration valid s b
    have eq : t = boardsTaken s (s.boards.set b (configuredPort s valid b)) (if removes s valid b then [b] else []) :=
      takeConfiguration_eq s valid b
    have tables : t.ts = s.ts := by rw [eq, boardsTaken]
    have other (c : BoardId) (mem : c ∈ bs) : t.boards[c] = s.boards[c] := by
      rw [eq, boardsTaken]
      exact (Laws.set_get ..).trans (if_neg fun same : b = c => out (same ▸ mem))
    have ports (c : BoardId) (mem : c ∈ bs) : configuredPort t valid c = configuredPort s valid c := by
      rw [configuredPort, configuredPort, configuredBy, configuredBy, tables, other c mem]
    have removals : bs.filter (removes t valid) = bs.filter (removes s valid) := List.filter_congr fun c mem => by
      rw [removes, removes, configuredBy, configuredBy, tables, other c mem]
    have folds : bs.foldl (fun (v : Vector BoardPort 4) (c : BoardId) => v.set c (configuredPort t valid c)) t.boards =
        bs.foldl (fun (v : Vector BoardPort 4) (c : BoardId) => v.set c (configuredPort s valid c)) t.boards :=
      List.foldl_ext _ _ _ fun v c mem => by rw [ports c mem]
    have split : (b :: bs).filter (removes s valid) = (if removes s valid b then [b] else []) ++ bs.filter (removes s valid) := by
      rw [List.filter_cons]
      split <;> rfl
    rw [List.foldl_cons, ih once t, folds, removals, eq, split]
    simp [boardsTaken]

theorem takeBoards_eq (s : State) (valid : Bool) :
    takeBoards s valid = boardsTaken s (Vector.ofFn (configuredPort s valid)) (removedBoards s valid) := by
  have all : allBoards.foldl (fun (v : Vector BoardPort 4) (b : BoardId) => v.set b (configuredPort s valid b)) s.boards =
      Vector.ofFn (configuredPort s valid) :=
    Laws.foldl_set_all (fun (b : BoardId) (_ : BoardPort) => configuredPort s valid b) s.boards
  rw [takeBoards, takeConfigurations_eq valid allBoards (List.nodup_finRange 4), all]
  rfl

/-! ### The change as a whole -/

section
variable (s : State) (valid : Bool)

theorem takePresence_kept :
    (takePresence s valid).ts = s.ts ∧ (takePresence s valid).boards = s.boards ∧
      (takePresence s valid).posts = { s.posts with
                                       pans := (takePresence s valid).posts.pans, triggers := (takePresence s valid).posts.triggers
                                       rebuilds := (takePresence s valid).posts.rebuilds } := by
  have frame := takePresence_frame s valid
  unfold TrackerFrame at frame
  exact ⟨(congrArg State.ts frame :), (congrArg State.boards frame :), (congrArg State.posts frame :)⟩

theorem takePresence_boards :
    takeBoards (takePresence s valid) valid =
      boardsTaken (takePresence s valid) (Vector.ofFn (configuredPort s valid)) (removedBoards s valid) := by
  obtain ⟨tables, boards, -⟩ := takePresence_kept s valid
  have configured (b : BoardId) : configuredBy (takePresence s valid) valid b = configuredBy s valid b := by
    rw [configuredBy, configuredBy, tables]
  have ports : configuredPort (takePresence s valid) valid = configuredPort s valid := funext fun b => by
    rw [configuredPort, configuredPort, configured, boards]
  have removals : removedBoards (takePresence s valid) valid = removedBoards s valid := List.filter_congr fun b _ => by
    rw [configured, boards]
  rw [takeBoards_eq, ports, removals]

/-- R1, R32, R39, R141: the state once the flag's change has been taken by coils, pans and boards. -/
def structureSet : State := takeBoards (takePresence s valid) valid

theorem structureSet_eq :
    structureSet s valid =
      boardsTaken (takePresence s valid) (Vector.ofFn (configuredPort s valid)) (removedBoards s valid) := takePresence_boards s valid

theorem structureSet_kept :
    (structureSet s valid).coils = (takePresence s valid).coils ∧ (structureSet s valid).pu = (takePresence s valid).pu ∧
      (structureSet s valid).pt = (takePresence s valid).pt ∧ (structureSet s valid).pans = (takePresence s valid).pans ∧
      (structureSet s valid).hs = (takePresence s valid).hs ∧ (structureSet s valid).ba = (takePresence s valid).ba := by
  rw [structureSet_eq, boardsTaken]
  exact ⟨rfl, rfl, rfl, rfl, rfl, rfl⟩

theorem structureSet_board (b : BoardId) : (structureSet s valid).boards[b] = configuredPort s valid b := by
  rw [structureSet_eq, boardsTaken]
  exact Vector.getElem_ofFn ..

theorem structureSet_posts :
    (structureSet s valid).posts =
      { (takePresence s valid).posts with
        cmBoards := (takePresence s valid).posts.cmBoards ++ (removedBoards s valid).map (fun b => (b, .out false))
        puBoards := (takePresence s valid).posts.puBoards ++ (removedBoards s valid).map (fun b => (b, .removal))
        triggers := (takePresence s valid).posts.triggers ++ (removedBoards s valid).map .boardState } := by
  rw [structureSet_eq, boardsTaken]

theorem structureSet_apart : FoundingsApart s (structureSet s valid) := by
  obtain ⟨-, -, -, pans, heats, budget⟩ := structureSet_kept s valid
  have apart := (takePresence_tracks s valid).apart
  refine ⟨fun q => ?_, ?_, fun same => ?_, fun q differs => ?_⟩
  · rw [pans]
    exact apart.parts q
  · rw [heats, budget]
    exact apart.lists
  · rw [pans] at same
    rw [pans, heats, budget]
    exact apart.none same
  · rw [pans] at differs ⊢
    exact apart.fresh q differs

theorem takePresence_triggers :
    ∃ new : List Trigger, (takePresence s valid).posts.triggers = s.posts.triggers ++ new ∧
      (∀ e ∈ new, (∃ p : PanSlot, e = .membership p) ∨ ∃ ps : List PanSlot, e = .heatChange ps) ∧
      ((∀ p : PanSlot, (takePresence s valid).pans[p].pres.gen = s.pans[p].pres.gen) →
        ∃ pans : List PanSlot, new = pans.map .membership ∧ (takePresence s valid).posts.rebuilds = s.posts.rebuilds + pans.length) := by
  have tracks := takePresence_tracks s valid
  rcases tracks.quiet with ⟨q, founded⟩ | quiet
  · obtain ⟨new, triggers, kinds⟩ := tracks.triggers
    exact ⟨new, triggers, kinds, fun same => absurd (same q) founded.gen_ne⟩
  · obtain ⟨ps, triggers, rebuilds⟩ := quiet.posts
    refine ⟨ps.map .membership, triggers, fun e mem => .inl ?_, fun _ => ⟨ps, rfl, rebuilds⟩⟩
    obtain ⟨p, -, rfl⟩ := List.mem_map.mp mem
    exact ⟨p, rfl⟩

/-- R1, R32, R39, R141: the model's change of the structural-valid flag does what the rules say. -/
theorem structureSet_taken : StructureTaken s valid (structureSet s valid) := by
  obtain ⟨coils, hot, lists, pans, -, -⟩ := structureSet_kept s valid
  have hot := hot.trans (takePresence_hot s valid)
  have stays := takePresence_stays s valid
  obtain ⟨-, -, posts⟩ := takePresence_kept s valid
  refine ⟨fun k present absent => ?_, fun k missing => ?_, fun k present held => ?_, fun k present => ?_, structureSet_apart s valid, fun b => ?_, ?_⟩
  · have added := structured_added s valid present absent
    rw [coils, (stays k).out (.inr (congrArg CoilRecord.occupancy added)), added]
  · obtain ⟨coil, cold⟩ := structured_removed s valid missing
    have away := (stays k).out (.inl (structured_absent s valid missing))
    rw [coils, hot, lists, away, coil, cold]
    refine ⟨fun held => ?_, fun absent => ?_, (takePresence_away s valid missing).orphan⟩
    · rw [if_neg held, if_neg held]
      exact ⟨rfl, rfl⟩
    · rw [if_pos absent, if_pos absent]
      exact ⟨rfl, rfl⟩
  · have kept := (structured_kept s valid present held).trans (stays k)
    rw [coils]
    refine ⟨kept.rest, fun vacant => kept.out (.inr vacant), fun other => kept.claimed ?_⟩
    cases occupancy : s.coils[k].occupancy with
    | absent => exact absurd occupancy held
    | vacant => exact absurd occupancy other
    | sensed => exact .inl rfl
    | member => exact .inr rfl
  · rw [hot]
    exact structured_present_hot s valid present
  · rw [structureSet_board, configuredPort]
    refine ⟨fun configured new => ?_, fun configured old => ?_, fun missing old => ?_, fun missing off => ?_⟩
    · rw [if_pos configured, if_pos new]
      rfl
    · rw [if_pos configured, if_neg old]
    · rw [if_neg (Bool.eq_false_iff.mp missing), if_neg old]
      rfl
    · rw [if_neg (Bool.eq_false_iff.mp missing), if_pos off]
  · obtain ⟨new, triggers, kinds, quiet⟩ := takePresence_triggers s valid
    have told := structureSet_posts s valid
    rw [pans]
    refine ⟨?_, ?_, ?_, new, ?_, kinds, fun same => ?_⟩
    · rw [told, posts]
    · rw [told, posts]
    · rw [told, posts]
    · rw [told, triggers]
    · obtain ⟨ps, eq, rebuilds⟩ := quiet same
      rw [told]
      exact ⟨ps, eq, rebuilds⟩

/-- The rest of the state. -/
theorem structureSet_frame :
    structureSet s valid =
      { s with
        coils := (structureSet s valid).coils, pans := (structureSet s valid).pans, pt := (structureSet s valid).pt
        hs := (structureSet s valid).hs, ba := (structureSet s valid).ba
        pu := { s.pu with hot := (structureSet s valid).pu.hot }, boards := (structureSet s valid).boards
        posts := (structureSet s valid).posts
        cp := { s.cp with notices := (structureSet s valid).cp.notices, gap := (structureSet s valid).cp.gap } } := by
  have frame := takePresence_frame s valid
  have hot : (structured s valid).pu = { s.pu with hot := (structured s valid).pu.hot } := by
    have only := structured_only s valid
    unfold CoilsOnly at only
    have first : (structured s valid).pu = { (forcedOut s valid).pu with hot := (structured s valid).pu.hot } := (congrArg State.pu only :)
    rw [(forcedOut_kept s valid).2] at first
    exact first
  have told := structureSet_eq s valid
  unfold TrackerFrame at frame
  rw [hot] at frame
  generalize takePresence s valid = v, structureSet s valid = u at *
  rw [told, frame]
  rfl

end

theorem takeStructure_eq (s : State) (f : TableStore → TableStore) :
    takeStructure s f = structureSet ((finishReleases s (f s.ts).work (f s.ts).valid).modTs f) (f s.ts).valid := rfl

end Sys2Proof.Machine
end

section
/-! What waits for the Pan Tracker is taken before a release of R1 (R11, R20; log 56). -/

namespace Sys2Proof.Machine

-- The default arguments `by decide` wait for the kernel: one declaration after the other holds few threads.
set_option Elab.async false

/-! ### The order in which it is taken -/

theorem takeNextFrameEnd_posts {s : State} {frame : BitVec 16} {rest : List (BitVec 16)} (head : s.posts.ptFrameEnds = frame :: rest) :
    takeNextFrameEnd s = allPans.foldl settleCount (framePans s rest) := by
  rw [takeNextFrameEnd, head]
  dsimp only
  rw [popFrameEnd_taken head, panFrameEnd, framePans_eq]

/-- R40: a frame-end taken leaves the other events of the Pan Tracker where they are. -/
theorem takeNextFrameEnd_waits {s : State} {frame : BitVec 16} {rest : List (BitVec 16)} (head : s.posts.ptFrameEnds = frame :: rest) :
    (takeNextFrameEnd s).posts.ptFrameEnds = rest ∧ (takeNextFrameEnd s).posts.ptSeconds = s.posts.ptSeconds ∧
      (takeNextFrameEnd s).posts.coilEvents = frameTaken s.posts.coilEvents := by
  have taken := (frameEnd_apart s rest (takeNextFrameEnd_posts head).symm).1
  have posts := congrArg State.posts taken
  exact ⟨(congrArg Posts.ptFrameEnds posts :), (congrArg Posts.ptSeconds posts :), (congrArg Posts.coilEvents posts :)⟩

theorem expireGrace_posts (s : State) :
    (expireGrace s).posts = { s.posts with
                              pans := (expireGrace s).posts.pans, triggers := (expireGrace s).posts.triggers
                              rebuilds := (expireGrace s).posts.rebuilds } := by
  unfold expireGrace
  split
  · rfl
  · next p rest due =>
    split
    · have listed : GroupsOnly s (s.modPt fun l => { l with graceDue := rest }) := groups_pt s _
      have retired : GroupsOnly s (retire (s.modPt fun l => { l with graceDue := rest }) p .grace) := by
        rw [retire_eq]
        exact listed.trans (groups_retired _ p .grace)
      have frame := ((retired.tracks fun _ => False).serveOrphans).frame
      unfold TrackerFrame at frame
      exact (congrArg State.posts frame :)
    · rfl

theorem iterate_expireGrace_posts (n : Nat) (s : State) :
    (expireGrace^[n] s).posts = { s.posts with
                                  pans := (expireGrace^[n] s).posts.pans, triggers := (expireGrace^[n] s).posts.triggers
                                  rebuilds := (expireGrace^[n] s).posts.rebuilds } := by
  induction n generalizing s with
  | zero => rfl
  | succ n ih =>
    rw [Function.iterate_succ_apply]
    have second := ih (expireGrace s)
    rw [expireGrace_posts s] at second
    exact second

/-- R45: a one-second event taken leaves the other events of the Pan Tracker where they are. -/
theorem takeWholeSecond_waits {s : State} (some : 0 < s.posts.ptSeconds) :
    (takeWholeSecond s).posts.ptFrameEnds = s.posts.ptFrameEnds ∧ (takeWholeSecond s).posts.ptSeconds = s.posts.ptSeconds - 1 ∧
      (takeWholeSecond s).posts.coilEvents = secondTaken s.posts.coilEvents := by
  have events : s.posts.coilEvents.map (·.afterSecond) = secondTaken s.posts.coilEvents := List.map_congr_left fun e _ => by cases e <;> rfl
  have taken : takeNextSecond s = panSecond (popSecond s) := if_neg some.ne'
  have posts : (takeNextSecond s).posts = (popSecond s).posts := by rw [taken, panSecond_eq]
  have whole := iterate_expireGrace_posts (takeNextSecond s).pt.graceDue.length (takeNextSecond s)
  rw [posts] at whole
  refine ⟨(congrArg Posts.ptFrameEnds whole :), (congrArg Posts.ptSeconds whole :), ?_⟩
  rw [← events]
  exact (congrArg Posts.coilEvents whole :)

/-! ### How many coil-change events are taken -/

/-- How many coil-change events an event makes at most, itself included (log 15). -/
def eventWeight : CoilEvent → Nat
  | .memberRelease .. => 2
  | .becameSensed .. | .released .. | .materialChanged .. => 1

/-- How many coil-change events are still to be taken, at most. -/
def eventsLeft (s : State) : Nat := (s.posts.coilEvents.map eventWeight).sum

theorem eventWeight_le (e : CoilEvent) : 1 ≤ eventWeight e ∧ eventWeight e ≤ 2 := by cases e <;> simp [eventWeight]

theorem eventsLeft_le (s : State) : eventsLeft s ≤ 2 * s.posts.coilEvents.length := by
  have bound (es : List CoilEvent) : (es.map eventWeight).sum ≤ 2 * es.length := by
    induction es with
    | nil => exact Nat.le_refl 0
    | cons e es ih =>
      have one := (eventWeight_le e).2
      simp only [List.map_cons, List.sum_cons, List.length_cons]
      omega
  exact bound _

/-- What an event taken leaves of the queues of the Pan Tracker: its own successor at most. -/
structure EventTaken (s u : State) (weight : Nat) : Prop where
  frames : u.posts.ptFrameEnds = s.posts.ptFrameEnds
  seconds : u.posts.ptSeconds = s.posts.ptSeconds
  events : ∃ more : List CoilEvent, u.posts.coilEvents = s.posts.coilEvents ++ more ∧ (more.map eventWeight).sum < weight

theorem EventTaken.of_frame {s u : State} (h : TrackerFrame s u) {weight : Nat} (some : 0 < weight) : EventTaken s u weight := by
  unfold TrackerFrame at h
  have posts : u.posts = _ := (congrArg State.posts h :)
  exact ⟨(congrArg Posts.ptFrameEnds posts :), (congrArg Posts.ptSeconds posts :), [],
    (congrArg Posts.coilEvents posts :).trans (List.append_nil _).symm, some⟩

theorem takeMemberRelease_taken (s : State) (k : CoilId) (m : Material) (firing : Bool) : EventTaken s (takeMemberRelease s k m firing) 2 := by
  cases occupancy : s.coils[k].occupancy with
  | absent =>
    rw [takeMemberRelease_gone (.inr occupancy)]
    exact .of_frame (GroupsOnly.refl s).frame Nat.zero_lt_two
  | vacant =>
    rw [takeMemberRelease_gone (.inl occupancy)]
    exact .of_frame (GroupsOnly.refl s).frame Nat.zero_lt_two
  | sensed =>
    rw [takeMemberRelease_sensed occupancy]
    split
    · exact .of_frame (GroupsOnly.refl s).frame Nat.zero_lt_two
    · exact ⟨rfl, rfl, [.released k m], rfl, Nat.one_lt_two⟩
  | member =>
    cases owner : s.coils[k].owner with
    | none =>
      have stays : takeMemberRelease s k m firing = s := by rw [takeMemberRelease, occupancy, owner]
      rw [stays]
      exact .of_frame (GroupsOnly.refl s).frame Nat.zero_lt_two
    | some p =>
      rw [takeMemberRelease_member occupancy owner]
      obtain ⟨frames, seconds, events⟩ := EventTaken.of_frame (tracks_releaseMember s k p).frame Nat.zero_lt_two
      generalize releaseMember s k p = v at *
      exact ⟨frames, seconds, events⟩

theorem takeCoilEvent_taken (s : State) (e : CoilEvent) : EventTaken s (takeCoilEvent s e) (eventWeight e) := by
  cases e with
  | becameSensed k m =>
    have queued := (groups_enqueue s [k]).trans (groups_enqueueAround _ k)
    exact .of_frame (queued.tracks fun _ => False).emptyQueue.frame Nat.zero_lt_one
  | released k m =>
    have withdrawn : GroupsOnly s (withdraw s k) := by
      unfold withdraw
      exact .ite ((groups_pt s _).trans (groups_pt _ _)) (.refl s)
    exact .of_frame ((withdrawn.trans (groups_enqueueAround _ k)).tracks fun _ => False).emptyQueue.frame Nat.zero_lt_one
  | materialChanged k p m =>
    cases p with
    | none => exact .of_frame (GroupsOnly.refl s).frame Nat.zero_lt_one
    | some p => exact .of_frame (groups_refigure s p).frame Nat.zero_lt_one
  | memberRelease k p m firing frames seconds => exact takeMemberRelease_taken s k m firing

theorem takeNextCoilEvent_cons {s : State} {e : CoilEvent} {rest : List CoilEvent} (head : s.posts.coilEvents = e :: rest) :
    takeNextCoilEvent s = takeCoilEvent (popped s rest) e := by
  rw [takeNextCoilEvent, head]
  dsimp only
  rw [popCoil_eq head, popped]

theorem takeNextCoilEvent_waits {s : State} (some : s.posts.coilEvents ≠ []) :
    (takeNextCoilEvent s).posts.ptFrameEnds = s.posts.ptFrameEnds ∧ (takeNextCoilEvent s).posts.ptSeconds = s.posts.ptSeconds ∧
      eventsLeft (takeNextCoilEvent s) < eventsLeft s := by
  obtain ⟨e, rest, head⟩ := List.exists_cons_of_ne_nil some
  obtain ⟨frames, seconds, more, events, less⟩ := takeCoilEvent_taken (popped s rest) e
  have waits : (popped s rest).posts.coilEvents = rest := rfl
  rw [takeNextCoilEvent_cons head, eventsLeft, eventsLeft, events, head, waits]
  refine ⟨frames, seconds, ?_⟩
  simp only [List.map_append, List.sum_append, List.map_cons, List.sum_cons]
  omega

theorem takeNextCoilEvent_nil {s : State} (none : s.posts.coilEvents = []) : takeNextCoilEvent s = s := by
  rw [takeNextCoilEvent, none]

/-- Once as many events have been taken as can be there, no more are. -/
theorem takeNextCoilEvents_enough (n m : Nat) {s : State} (first : eventsLeft s ≤ n) (second : eventsLeft s ≤ m) :
    takeNextCoilEvent^[n] s = takeNextCoilEvent^[m] s := by
  induction n generalizing m s with
  | zero =>
    have none : s.posts.coilEvents = [] := by
      cases events : s.posts.coilEvents with
      | nil => rfl
      | cons e rest =>
        have one := (eventWeight_le e).1
        rw [eventsLeft, events, List.map_cons, List.sum_cons] at first
        omega
    exact (Function.iterate_fixed (takeNextCoilEvent_nil none) m).symm
  | succ n ih =>
    by_cases none : s.posts.coilEvents = []
    · rw [Function.iterate_fixed (takeNextCoilEvent_nil none), Function.iterate_fixed (takeNextCoilEvent_nil none)]
    · obtain ⟨-, -, less⟩ := takeNextCoilEvent_waits none
      cases m with
      | zero => omega
      | succ m =>
        rw [Function.iterate_succ_apply, Function.iterate_succ_apply]
        exact ih m (by omega) (by omega)

/-! ### The rows (log 56) -/

/-- R20: the coil-change events are taken last. -/
theorem finishTracker_events {s : State} (frames : s.posts.ptFrameEnds = []) (seconds : s.posts.ptSeconds = 0) :
    finishTracker s = takeNextCoilEvent^[2 * s.posts.coilEvents.length] s := by
  have first : takeNextFrameEnd^[s.posts.ptFrameEnds.length] s = s := by rw [frames]; rfl
  have second : takeWholeSecond^[s.posts.ptSeconds] s = s := by rw [seconds]; rfl
  rw [finishTracker, first, second]

theorem finishTracker_frame {s : State} (some : s.posts.ptFrameEnds ≠ []) : finishTracker s = finishTracker (takeNextFrameEnd s) := by
  obtain ⟨frame, rest, head⟩ := List.exists_cons_of_ne_nil some
  obtain ⟨left, -, -⟩ := takeNextFrameEnd_waits head
  have first : takeNextFrameEnd^[s.posts.ptFrameEnds.length] s =
      takeNextFrameEnd^[(takeNextFrameEnd s).posts.ptFrameEnds.length] (takeNextFrameEnd s) := by
    rw [left, head, List.length_cons, Function.iterate_succ_apply]
  rw [finishTracker, finishTracker, first]

theorem finishTracker_second {s : State} (frames : s.posts.ptFrameEnds = []) (some : 0 < s.posts.ptSeconds) :
    finishTracker s = finishTracker (takeWholeSecond s) := by
  obtain ⟨before, left, -⟩ := takeWholeSecond_waits some
  have none (v : State) (empty : v.posts.ptFrameEnds = []) : takeNextFrameEnd^[v.posts.ptFrameEnds.length] v = v := by rw [empty]; rfl
  have first : takeWholeSecond^[s.posts.ptSeconds] s = takeWholeSecond^[(takeWholeSecond s).posts.ptSeconds] (takeWholeSecond s) := by
    rw [left, ← Function.iterate_succ_apply, Nat.succ_eq_add_one, Nat.sub_one_add_one some.ne']
  rw [finishTracker, finishTracker, none s frames, none _ (before.trans frames), first]

theorem finishTracker_event {s : State} (frames : s.posts.ptFrameEnds = []) (seconds : s.posts.ptSeconds = 0)
    (some : s.posts.coilEvents ≠ []) : finishTracker s = finishTracker (takeNextCoilEvent s) := by
  obtain ⟨before, later, less⟩ := takeNextCoilEvent_waits some
  have all := eventsLeft_le s
  obtain ⟨n, count⟩ : ∃ n, 2 * s.posts.coilEvents.length = n + 1 := Nat.exists_eq_succ_of_ne_zero (by omega)
  rw [finishTracker_events frames seconds, finishTracker_events (before.trans frames) (later.trans seconds), count,
    Function.iterate_succ_apply]
  exact takeNextCoilEvents_enough n _ (by omega) (eventsLeft_le _)

theorem releasesMember_iff (s : State) (work : Tables) (valid : Bool) :
    releasesMember s work valid = true ↔ ∃ k : CoilId, s.coils[k].occupancy = .member ∧ ¬(valid = true ∧ work.t1[k].present = true) := by
  rw [releasesMember, List.any_eq_true]
  refine exists_congr fun k => ?_
  rw [and_iff_right (show k ∈ allCoils from List.mem_finRange k), Bool.and_eq_true, beq_iff_eq, Bool.not_eq_true', Bool.eq_false_iff, ne_eq, Bool.and_eq_true]

theorem finishReleases_takes {s : State} {work : Tables} {valid : Bool}
    (releases : ∃ k : CoilId, s.coils[k].occupancy = .member ∧ ¬(valid = true ∧ work.t1[k].present = true)) :
    finishReleases s work valid = finishTracker s := if_pos ((releasesMember_iff s work valid).mpr releases)

theorem finishReleases_stays {s : State} {work : Tables} {valid : Bool}
    (stay : ∀ k : CoilId, s.coils[k].occupancy = .member → valid = true ∧ work.t1[k].present = true) : finishReleases s work valid = s := by
  refine finishReleases_idle (Bool.eq_false_iff.mpr fun releases => ?_)
  obtain ⟨k, member, lost⟩ := (releasesMember_iff s work valid).mp releases
  exact lost (stay k member)

end Sys2Proof.Machine
end

section
/-! The Pan Tracker's operations do not look at the supervisor's record (sections 3.4 and 3.6). -/

namespace Sys2Proof.Machine

-- The default arguments `by decide` wait for the kernel: one declaration after the other holds few threads.
set_option Elab.async false

/-- The state with another supervisor's record. -/
def withSup (x : Supply) (s : State) : State := { s with sup := x }

/-- An operation that neither reads nor changes the supervisor's record. -/
def SupFree (f : State → State) : Prop := ∀ (s : State) (x : Supply), f (withSup x s) = withSup x (f s)

theorem SupFree.comp {f g : State → State} (hg : SupFree g) (hf : SupFree f) : SupFree fun s => g (f s) := fun s x => by
  have inner := hf s x
  dsimp only
  rw [inner]
  exact hg (f s) x

theorem SupFree.id : SupFree fun s => s := fun _ _ => rfl

theorem SupFree.ite {c : State → Prop} [∀ s, Decidable (c s)] {f g : State → State} (same : ∀ (s : State) (x : Supply), c (withSup x s) ↔ c s)
    (hf : SupFree f) (hg : SupFree g) : SupFree fun s => if c s then f s else g s := fun s x => by
  rw [apply_ite (withSup x)]
  exact if_congr (same s x) (hf s x) (hg s x)

theorem SupFree.foldl {α : Type} {f : State → α → State} (h : ∀ a, SupFree fun s => f s a) (as : List α) : SupFree fun s => as.foldl f s := by
  intro s x
  induction as generalizing s with
  | nil => rfl
  | cons a as ih =>
    have first : f (withSup x s) a = withSup x (f s a) := h a s x
    change as.foldl f (f (withSup x s) a) = _
    rw [first]
    exact ih _

theorem SupFree.iterate {f : State → State} (h : SupFree f) (n : Nat) : SupFree f^[n] := by
  intro s x
  induction n generalizing s with
  | zero => rfl
  | succ n ih => rw [Function.iterate_succ_apply, h s x, ih, Function.iterate_succ_apply]

/-- A list that an operation folds over may come from the state. -/
theorem SupFree.folds {α : Type} {f : State → α → State} {as : State → List α} (same : ∀ (s : State) (x : Supply), as (withSup x s) = as s)
    (h : ∀ a, SupFree fun s => f s a) : SupFree fun s => (as s).foldl f s := fun s x => by
  dsimp only
  rw [same s x]
  exact SupFree.foldl h (as s) s x

theorem SupFree.iterates {f : State → State} {n : State → Nat} (same : ∀ (s : State) (x : Supply), n (withSup x s) = n s) (h : SupFree f) :
    SupFree fun s => f^[n s] s := fun s x => by
  dsimp only
  rw [same s x]
  exact h.iterate (n s) s x

/-! ### Notices, claims and figures -/

theorem queueNotice_supFree (kind : NoticeKind) (subject : Byte) (first second : Nat) :
    SupFree fun s => queueNotice s kind subject first second := by
  have full : SupFree fun s => s.modCp fun cp => { cp with gap := true } := fun _ _ => rfl
  have fits : SupFree fun s => s.modCp fun cp =>
      { cp with
        notices := cp.notices ++ [⟨kind, subject, BitVec.ofNat 16 first, BitVec.ofNat 16 second, s.fe.frameCount, cp.gap⟩]
        gap := false } := fun _ _ => rfl
  exact .ite (fun _ _ => Iff.rfl) (.ite (fun _ _ => Iff.rfl) fits full) .id

theorem noticeCentroid_supFree (kind : NoticeKind) (p : PanSlot) : SupFree fun s => noticeCentroid s kind p := fun s x =>
  queueNotice_supFree kind (s.handleOf p) (orient s.ts.work s.pans[p].pres.x s.pans[p].pres.y).1
    (orient s.ts.work s.pans[p].pres.x s.pans[p].pres.y).2 s x

theorem joinClaim_supFree (k : CoilId) (p : PanSlot) : SupFree fun s => joinClaim s k p :=
  .ite (fun _ _ => Iff.rfl) (fun _ _ => rfl) .id

theorem unownClaim_supFree (k : CoilId) : SupFree fun s => unownClaim s k := .ite (fun _ _ => Iff.rfl) (fun _ _ => rfl) .id

theorem refigure_supFree (p : PanSlot) : SupFree fun s => refigure s p := fun s x => by
  have figures : figured (withSup x s) p = figured s p := figured_congr rfl rfl rfl
  dsimp only
  rw [refigure_eq, refigure_eq, figures]
  rfl

theorem postMembership_supFree (p : PanSlot) : SupFree fun s => postMembership s p := fun _ _ => rfl

theorem enqueue_supFree (ks : List CoilId) : SupFree fun s => enqueue s ks := fun _ _ => rfl

theorem enqueueAround_supFree (k : CoilId) : SupFree fun s => enqueueAround s k := fun _ _ => rfl

theorem leaveOrphans_supFree (k : CoilId) : SupFree fun s => leaveOrphans s k := fun _ _ => rfl

theorem addOrphan_supFree (k : CoilId) : SupFree fun s => addOrphan s k := by
  have listed : SupFree fun s => s.modPt fun l => { l with orphans := insertCoil k l.orphans } := fun _ _ => rfl
  exact .ite (fun _ _ => Iff.rfl) (.comp (queueNotice_supFree .tableFull (BitVec.ofNat 8 k.val) 0 0) listed) listed

theorem retire_supFree (p : PanSlot) (reason : Reason) : SupFree fun s => retire s p reason := fun s x =>
  queueNotice_supFree .panRetired (s.handleOf p) reason.code 0
    (postPan ((s.modPres p fun r => .freed r.gen).modPt fun l => { l with liftOrder := l.liftOrder.filter (· ≠ p) }) (.retirement p)) x

/-! ### Contexts and allocations -/

theorem noticeLevel_supFree (before : State) (p : PanSlot) : SupFree fun s => noticeLevel before s p := fun s x => by
  have basis : (withSup x s).pans[p].alloc.basis = s.pans[p].alloc.basis := rfl
  dsimp only
  rw [noticeLevel, noticeLevel, basis]
  cases s.pans[p].alloc.basis with
  | none => rfl
  | some pair =>
    exact SupFree.ite (c := fun _ => levelChanged (before.pans[p].alloc.basis.getD (pair.1, pair.1)) pair = true) (fun _ _ => Iff.rfl)
      (queueNotice_supFree .levelChanged (s.handleOf p) pair.1 pair.2) .id s x

theorem refiguredBudget_supFree : SupFree refiguredBudget := fun _ _ => rfl

theorem recompute_supFree : SupFree recompute := fun s x => by
  have taken (v : State) : recompute v =
      if figuresChanged v (refiguredBudget v) then postRebuild (v.hs.requests.foldl (noticeLevel v) (refiguredBudget v))
      else v.hs.requests.foldl (noticeLevel v) (refiguredBudget v) := rfl
  have before : noticeLevel (withSup x s) = noticeLevel s := rfl
  have told : (withSup x s).hs.requests.foldl (noticeLevel (withSup x s)) (refiguredBudget (withSup x s)) =
      withSup x (s.hs.requests.foldl (noticeLevel s) (refiguredBudget s)) := by
    rw [before, refiguredBudget_supFree s x]
    exact SupFree.foldl (noticeLevel_supFree s) s.hs.requests (refiguredBudget s) x
  have same : figuresChanged (withSup x s) (refiguredBudget (withSup x s)) = figuresChanged s (refiguredBudget s) := rfl
  rw [taken, taken, told, same, apply_ite (withSup x)]
  rfl

/-- R71: a heat change is posted by what has changed. -/
theorem postHeatChange_sup (before after : State) (p : PanSlot) (x : Supply) :
    postHeatChange (withSup x before) (withSup x after) p = withSup x (postHeatChange before after p) := by
  rw [postHeatChange, postHeatChange, apply_ite (withSup x)]
  rfl

theorem refuseHeat_supFree (handle : Byte) (reason : HeatReason) (level : Nat) : SupFree fun s => refuseHeat s handle reason level :=
  queueNotice_supFree .heatRefused (handle &&& 0x7F#8) reason.code level

theorem takePanPost_supFree (e : PanPost) : SupFree fun s => takePanPost s e := by
  have refused (p : PanSlot) : SupFree fun s => postHeatChange s (refuseHeat (toIdle s p) (s.handleOf p) .unsuitable s.pans[p].heat.level) p :=
    fun s x => by
      have told : refuseHeat (toIdle (withSup x s) p) ((withSup x s).handleOf p) .unsuitable (withSup x s).pans[p].heat.level =
          withSup x (refuseHeat (toIdle s p) (s.handleOf p) .unsuitable s.pans[p].heat.level) :=
        refuseHeat_supFree (s.handleOf p) .unsuitable s.pans[p].heat.level (toIdle s p) x
      dsimp only
      rw [told]
      exact postHeatChange_sup s _ p x
  cases e with
  | lift p =>
    have held : SupFree fun s => postHeatChange s (hold s p .suspended) p := fun s x => postHeatChange_sup s (hold s p .suspended) p x
    exact .ite (fun _ _ => Iff.rfl) held .id
  | back p =>
    have resumed : SupFree fun s => postHeatChange s (resumeContext s p) p := fun s x => postHeatChange_sup s (resumeContext s p) p x
    exact .ite (fun _ _ => Iff.rfl) (.ite (fun _ _ => Iff.rfl) (refused p) resumed) .id
  | retirement p => exact fun s x => postHeatChange_sup s ((toIdle s p).modPan p fun r => { r with program := [] }) p x
  | material p m => exact .ite (fun _ _ => Iff.rfl) (refused p) .id

theorem finishPans_supFree : SupFree finishPans := fun s x =>
  SupFree.foldl takePanPost_supFree s.posts.pans (s.modPosts fun q => { q with pans := [] }) x

theorem clearContext_supFree (p : PanSlot) : SupFree fun s => clearContext s p := by
  have retired : SupFree fun s => heatRetired s p := takePanPost_supFree (.retirement p)
  exact retired.comp (.ite (fun _ _ => Iff.rfl) finishPans_supFree .id)

theorem readySlot_supFree (p : PanSlot) : SupFree fun s => readySlot s p := by
  have clear := clearContext_supFree p
  refine .ite (fun s x => ?_) clear (recompute_supFree.comp clear)
  have pans : (clearContext (withSup x s) p).pans = (clearContext s p).pans := (congrArg State.pans (clear s x) :)
  rw [pans]

/-! ### Foundings, joinings and examinations -/

theorem foundAt_supFree (k : CoilId) (p : PanSlot) : SupFree fun s => foundAt s k p := by
  have formed : SupFree fun s => s.modPres p fun r =>
      { PresencePart.freed (r.gen + 1) with presence := .forming, members := [k], changed := true } := fun _ _ => rfl
  exact (enqueueAround_supFree k).comp ((refigure_supFree p).comp (formed.comp ((joinClaim_supFree k p).comp (readySlot_supFree p))))

theorem found_supFree (k : CoilId) : SupFree fun s => found s k := fun s x => by
  have free : firstFree (withSup x s) = firstFree s := rfl
  have order : (withSup x s).pt.liftOrder = s.pt.liftOrder := rfl
  dsimp only
  rw [found, found, free, order]
  cases firstFree s with
  | some p => exact foundAt_supFree k p s x
  | none =>
    cases s.pt.liftOrder with
    | nil => exact addOrphan_supFree k s x
    | cons p later => exact (foundAt_supFree k p).comp (retire_supFree p .evicted) s x

theorem joinPan_supFree (k : CoilId) (p : PanSlot) : SupFree fun s => joinPan s k p := by
  let grow (r : PresencePart) : PresencePart :=
    { r with
      members := insertCoil k r.members
      settle := 0
      changed := true
      presence := if r.presence = .placed then .moving else r.presence }
  have grown : SupFree fun s => s.modPres p grow := fun _ _ => rfl
  have figures : SupFree fun s => refigure ((joinClaim s k p).modPres p grow) p :=
    (refigure_supFree p).comp (grown.comp (joinClaim_supFree k p))
  exact (enqueueAround_supFree k).comp
    (.ite (c := fun s => s.pans[p].pres.presence.standing = true) (fun _ _ => Iff.rfl) ((postMembership_supFree p).comp figures) figures)

theorem examine_supFree (k : CoilId) : SupFree fun s => examine s k := fun s x => by
  have outer {f : State → State} (near : SupFree f) : SupFree fun v =>
      if waiting v k = false then v
      else if bestCount v k = 0 then if v.pt.orphans.contains k then v else found v k
      else f v :=
    .ite (fun _ _ => Iff.rfl) .id (.ite (fun _ _ => Iff.rfl) (.ite (fun _ _ => Iff.rfl) .id (found_supFree k)) near)
  have leading : leaders (withSup x s) k = leaders s k := rfl
  have leaves := leaveOrphans_supFree k
  dsimp only
  rw [examine, examine, leading]
  cases leaders s k with
  | nil => exact outer leaves s x
  | cons p more =>
    cases more with
    | nil =>
      have joins : SupFree fun v => if v.pans[p].pres.members.length < 12 then joinPan (leaveOrphans v k) k p else leaveOrphans v k :=
        .ite (fun _ _ => Iff.rfl) ((joinPan_supFree k p).comp leaves) leaves
      exact outer joins s x
    | cons q rest => exact outer leaves s x

theorem drain_supFree (n : Nat) : SupFree (drain n) := fun s x => by
  induction n generalizing s with
  | zero => rfl
  | succ n ih =>
    have queue : (withSup x s).pt.examQueue = s.pt.examQueue := rfl
    rw [drain, drain, queue]
    cases s.pt.examQueue with
    | nil => rfl
    | cons k rest =>
      have examined := examine_supFree k (s.modPt fun l => { l with examQueue := rest }) x
      exact (congrArg (drain n) examined).trans (ih _)

theorem emptyQueue_supFree : SupFree emptyQueue := drain_supFree 4225

theorem serve_supFree (n : Nat) : SupFree (serve n) := fun s x => by
  induction n generalizing s with
  | zero => rfl
  | succ n ih =>
    have waits : (withSup x s).pt.orphans = s.pt.orphans := rfl
    have free : firstFree (withSup x s) = firstFree s := rfl
    rw [serve, serve, waits, free]
    cases s.pt.orphans with
    | nil => rfl
    | cons k rest =>
      cases firstFree s with
      | none => rfl
      | some p =>
        have served := emptyQueue_supFree.comp ((examine_supFree k).comp (leaveOrphans_supFree k)) s x
        exact (congrArg (serve n) served).trans (ih _)

theorem serveOrphans_supFree : SupFree serveOrphans := serve_supFree 64

/-! ### Releases and splits -/

theorem liftPan_supFree (p : PanSlot) : SupFree fun s => liftPan s p := by
  have told : SupFree fun s => liftTold s p := fun s x =>
    congrArg (fun v => postMembership (postPan v (.lift p)) p)
      (queueNotice_supFree .panLifted (s.handleOf p) s.ts.work.grace 0 (lifted s p) x)
  exact .ite (fun _ _ => Iff.rfl) ((retire_supFree p .grace).comp told) told

theorem endPresence_supFree (p : PanSlot) : SupFree fun s => endPresence s p := fun s x => by
  have presence : (withSup x s).pans[p].pres.presence = s.pans[p].pres.presence := rfl
  have lifts := liftPan_supFree p s x
  dsimp only
  rw [endPresence, endPresence, presence]
  cases s.pans[p].pres.presence with
  | free => rfl
  | forming => rfl
  | placed => exact lifts
  | moving => exact lifts
  | lifted => rfl

theorem components_sup (s : State) (x : Supply) (n : Nat) (ms : List CoilId) : components (withSup x s) n ms = components s n ms := by
  have same : component (withSup x s) = component s := rfl
  induction n generalizing ms with
  | zero => rfl
  | succ n ih =>
    cases ms with
    | nil => rfl
    | cons k rest => rw [components, components, same, ih]

theorem keptComponent_sup (s : State) (x : Supply) (cs : List (List CoilId)) : keptComponent (withSup x s) cs = keptComponent s cs := by
  cases cs <;> rfl

theorem splitCheck_supFree (p : PanSlot) (k : CoilId) : SupFree fun s => splitCheck s p k := fun s x => by
  have kept : keptOf (withSup x s) p = keptOf s p := by
    rw [keptOf, components_sup, keptComponent_sup]
    rfl
  have shed : shedOf (withSup x s) p = shedOf s p := by
    rw [shedOf, kept]
    rfl
  have owned : refigure (splitOwned (withSup x s) p) p = withSup x (refigure (splitOwned s p) p) := by
    rw [splitOwned, splitOwned, shed, kept]
    exact (refigure_supFree p).comp (.foldl unownClaim_supFree (shedOf s p)) (s.modPres p (splitPres (keptOf s p))) x
  have posted : (if (withSup x s).pans[p].pres.presence.standing then postMembership (refigure (splitOwned (withSup x s) p) p) p
      else refigure (splitOwned (withSup x s) p) p) =
      withSup x (if s.pans[p].pres.presence.standing then postMembership (refigure (splitOwned s p) p) p
        else refigure (splitOwned s p) p) := by
    rw [owned, apply_ite (withSup x)]
    rfl
  have told : splitTold (withSup x s) p = withSup x (splitTold s p) := by
    unfold splitTold
    rw [posted, shed, kept]
    exact SupFree.ite (c := fun _ => s.pans[p].pres.presence.standing ∧ shedOf s p ≠ []) (fun _ _ => Iff.rfl)
      (queueNotice_supFree .panSplit (s.handleOf p) (shedOf s p).length (keptOf s p).length) .id _ x
  have around (v : State) : aroundKept (withSup x v) = aroundKept v := rfl
  dsimp only
  rw [splitCheck_eq, splitCheck_eq, shed, kept, told, around]
  exact SupFree.foldl enqueueAround_supFree (shedOf s p)
    (enqueue (enqueueAround (enqueue (splitTold s p) (shedOf s p)) k) (aroundKept (splitTold s p) (keptOf s p))) x

theorem dropMember_supFree (k : CoilId) (p : PanSlot) : SupFree fun s => dropMember s k p := by
  have gone : SupFree fun s => released s k p := fun _ _ => rfl
  exact .ite (c := fun s => (released s k p).pans[p].pres.members = []) (fun _ _ => Iff.rfl)
    ((enqueueAround_supFree k).comp ((endPresence_supFree p).comp gone)) ((splitCheck_supFree p k).comp gone)

theorem releaseMember_supFree (k : CoilId) (p : PanSlot) : SupFree fun s => releaseMember s k p := by
  have dropped := dropMember_supFree k p
  have emptied := emptyQueue_supFree.comp dropped
  refine .ite (fun s x => ?_) (serveOrphans_supFree.comp emptied) emptied
  have drop : dropMember (withSup x s) k p = withSup x (dropMember s k p) := dropped s x
  rw [drop]
  exact Iff.rfl

theorem takeMemberRelease_supFree (k : CoilId) (m : Material) (firing : Bool) : SupFree fun s => takeMemberRelease s k m firing := fun s x => by
  have coil : (withSup x s).coils[k] = s.coils[k] := rfl
  have told {f : State → State} (h : SupFree f) : SupFree fun s => if firing then postRelease (f s) k else f s :=
    .ite (fun _ _ => Iff.rfl) (SupFree.comp (g := fun s => postRelease s k) (fun _ _ => rfl) h) h
  have vacated : SupFree fun s => postCoilEvent (vacate s k) (.released k m) := fun _ _ => rfl
  have entry : classEntry (withSup x s) k = classEntry s k := rfl
  dsimp only
  rw [takeMemberRelease, takeMemberRelease, coil, entry]
  cases s.coils[k].occupancy with
  | absent => rfl
  | vacant => rfl
  | member =>
    cases s.coils[k].owner with
    | none => rfl
    | some p => exact told (releaseMember_supFree k p) s x
  | sensed =>
    exact SupFree.ite (c := fun _ => (classEntry s k).release ≤ s.coils[k].coverage) (fun _ _ => Iff.rfl) .id (told vacated) s x

theorem takeCoilEvent_supFree (e : CoilEvent) : SupFree fun s => takeCoilEvent s e := by
  cases e with
  | becameSensed k m => exact emptyQueue_supFree.comp (f := fun s => enqueueAround (enqueue s [k]) k) fun _ _ => rfl
  | released k m =>
    have withdrawn : SupFree fun s => withdraw s k :=
      .ite (fun _ _ => Iff.rfl) (f := fun s => leaveQueue (leaveOrphans s k) k) (fun _ _ => rfl) .id
    exact emptyQueue_supFree.comp ((enqueueAround_supFree k).comp withdrawn)
  | materialChanged k p m =>
    cases p with
    | none => exact .id
    | some p => exact refigure_supFree p
  | memberRelease k p m firing frames seconds => exact takeMemberRelease_supFree k m firing

theorem takeNextCoilEvent_supFree : SupFree takeNextCoilEvent := fun s x => by
  have waits : (withSup x s).posts.coilEvents = s.posts.coilEvents := rfl
  rw [takeNextCoilEvent, takeNextCoilEvent, waits]
  cases s.posts.coilEvents with
  | nil => rfl
  | cons e rest => exact takeCoilEvent_supFree e (popCoil s) x

/-! ### Frame-ends and seconds -/

theorem place_supFree (p : PanSlot) : SupFree fun s => place s p := fun _ _ => rfl

theorem returning_supFree (w p : PanSlot) : SupFree fun s => returning s w p := fun s x => by
  have joined : takenUp (withSup x s) w p = withSup x (takenUp s w p) :=
    congrArg (fun v : State => ((v.modPres w fun r =>
      { r with
        presence := .placed
        members := s.pans[p].pres.members
        settle := s.pans[p].pres.settle
        changed := false
        x := s.pans[p].pres.x
        y := s.pans[p].pres.y
        area := s.pans[p].pres.area
        material := s.pans[p].pres.material
        signature := some ⟨s.pans[p].pres.x, s.pans[p].pres.y, s.pans[p].pres.area, s.pans[p].pres.material⟩
        liftedAt := none
        grace := none }).modPt fun l => { l with liftOrder := l.liftOrder.filter (· ≠ w) }).modPres p fun r => .freed r.gen)
      (SupFree.foldl (fun k => joinClaim_supFree k w) s.pans[p].pres.members s x)
  have told : SupFree fun v => postMembership (postPan (noticeCentroid v .panReturned w) (.back w)) w := fun v x =>
    congrArg (fun v => postMembership (postPan v (.back w)) w) (noticeCentroid_supFree .panReturned w v x)
  dsimp only
  rw [returning_eq, returning_eq, joined]
  exact (SupFree.foldl enqueueAround_supFree s.pans[p].pres.members).comp told (takenUp s w p) x

theorem settle_supFree (p : PanSlot) : SupFree fun s => settle s p := fun s x => by
  have winner : returnWinner (withSup x s) p = returnWinner s p := rfl
  have placed (kind : NoticeKind) : SupFree fun s => noticeCentroid (place s p) kind p := (noticeCentroid_supFree kind p).comp (place_supFree p)
  have outer {f : State → State} (forms : SupFree f) : SupFree fun s =>
      if s.pans[p].pres.presence = .moving then noticeCentroid (place s p) .panMoved p else f s :=
    .ite (fun _ _ => Iff.rfl) (placed .panMoved) forms
  dsimp only
  rw [settle, settle, winner]
  cases returnWinner s p with
  | none => exact outer ((postMembership_supFree p).comp (placed .panPlaced)) s x
  | some w =>
    exact outer (f := fun s => returnPan s w p) (serveOrphans_supFree.comp (emptyQueue_supFree.comp (returning_supFree w p))) s x

theorem settleCount_supFree (p : PanSlot) : SupFree fun s => settleCount s p := by
  have cleared : SupFree fun s => s.modPres p fun r => { r with changed := false } := fun _ _ => rfl
  have counts : SupFree fun s => s.modPres p fun r => { r with settle := r.settle + 1 } := fun _ _ => rfl
  exact .ite (c := fun s => s.pans[p].pres.presence = .forming ∨ s.pans[p].pres.presence = .moving) (fun _ _ => Iff.rfl)
    (.ite (c := fun s => s.pans[p].pres.changed = true) (fun _ _ => Iff.rfl) cleared
      (.ite (c := fun s => s.ts.work.settleFrames ≤ s.pans[p].pres.settle + 1) (fun _ _ => Iff.rfl) ((settle_supFree p).comp counts) counts)) .id

theorem takeNextFrameEnd_supFree : SupFree takeNextFrameEnd := fun s x => by
  have waits : (withSup x s).posts.ptFrameEnds = s.posts.ptFrameEnds := rfl
  rw [takeNextFrameEnd, takeNextFrameEnd, waits]
  cases s.posts.ptFrameEnds with
  | nil => rfl
  | cons frame rest =>
    exact (SupFree.foldl settleCount_supFree allPans).comp (.foldl refigure_supFree allPans) (popFrameEnd s) x

theorem expireGrace_supFree : SupFree expireGrace := fun s x => by
  have due : (withSup x s).pt.graceDue = s.pt.graceDue := rfl
  rw [expireGrace, expireGrace, due]
  cases s.pt.graceDue with
  | nil => rfl
  | cons p rest =>
    have listed : SupFree fun s => s.modPt fun l => { l with graceDue := rest } := fun _ _ => rfl
    exact SupFree.ite (c := fun s => graceOver s p = true) (fun _ _ => Iff.rfl)
      (serveOrphans_supFree.comp ((retire_supFree p .grace).comp listed)) listed s x

theorem takeNextSecond_supFree : SupFree takeNextSecond :=
  .ite (fun _ _ => Iff.rfl) .id (f := fun s => s) (g := fun s => panSecond (popSecond s)) fun _ _ => rfl

theorem takeWholeSecond_supFree : SupFree takeWholeSecond := fun s x => by
  have taken := takeNextSecond_supFree s x
  rw [takeWholeSecond, takeWholeSecond, taken]
  exact expireGrace_supFree.iterate (takeNextSecond s).pt.graceDue.length (takeNextSecond s) x

theorem finishTracker_supFree : SupFree finishTracker := by
  have frames : SupFree fun s => takeNextFrameEnd^[s.posts.ptFrameEnds.length] s := .iterates (fun _ _ => rfl) takeNextFrameEnd_supFree
  have seconds : SupFree fun s => takeWholeSecond^[s.posts.ptSeconds] s := .iterates (fun _ _ => rfl) takeWholeSecond_supFree
  have events : SupFree fun s => takeNextCoilEvent^[2 * s.posts.coilEvents.length] s := .iterates (fun _ _ => rfl) takeNextCoilEvent_supFree
  exact events.comp (seconds.comp frames)

theorem finishReleases_supFree (work : Tables) (valid : Bool) : SupFree fun s => finishReleases s work valid :=
  .ite (fun _ _ => Iff.rfl) finishTracker_supFree .id

end Sys2Proof.Machine
end

section
/-! What is taken before a release of R1 brings no coil back (R1, R20; log 56), and how StructureTaken reads a state. -/

namespace Sys2Proof.Machine

-- The default arguments `by decide` wait for the kernel: one declaration after the other holds few threads.
set_option Elab.async false

/-! ### Frame-ends and seconds change coils by claims only -/

theorem returning_stays (s : State) (w p : PanSlot) : CoilsStay s (returning s w p) := by
  have joined : CoilsStay s (takenUp s w p) := by
    have claims : CoilsStay s (s.pans[p].pres.members.foldl (fun s k => joinClaim s k w) s) := .foldl (fun v k => joinClaim_stays v k w) _ s
    exact claims.trans (.of_same rfl)
  have told : CoilsStay s (postMembership (postPan (noticeCentroid (takenUp s w p) .panReturned w) (.back w)) w) :=
    ((joined.trans (.of_touches (noticeCentroid_touches _ _ _))).trans (.of_touches (postPan_touches _ _))).trans
      (.of_touches (postMembership_touches _ _))
  rw [returning_eq]
  exact told.trans (.foldl (fun v k => .of_touches (enqueueAround_touches v k)) _ _)

theorem settle_stays (s : State) (p : PanSlot) : CoilsStay s (settle s p) := by
  have placed (kind : NoticeKind) : CoilsStay s (noticeCentroid (place s p) kind p) :=
    (CoilsStay.of_same (u := place s p) rfl).trans (.of_touches (noticeCentroid_touches _ _ _))
  unfold settle
  refine .ite (placed _) ?_
  split
  · rw [returnPan_eq]
    exact (returning_stays s _ p).trans (settled_stays _)
  · exact (placed _).trans (.of_touches (postMembership_touches _ p))

theorem settleCount_stays (s : State) (p : PanSlot) : CoilsStay s (settleCount s p) := by
  have counts : CoilsStay s (s.modPres p fun r => { r with settle := r.settle + 1 }) := .of_same rfl
  exact .ite (.ite (.of_same rfl) (.ite (counts.trans (settle_stays _ p)) counts)) (.refl s)

theorem takeNextFrameEnd_stays (s : State) : CoilsStay s (takeNextFrameEnd s) := by
  unfold takeNextFrameEnd
  split
  · exact .refl s
  · have popped : CoilsStay s (popFrameEnd s) := .of_same rfl
    exact (popped.trans (.foldl (fun v p => .of_touches (refigure_touches v p)) _ _)).trans (.foldl settleCount_stays _ _)

theorem expireGrace_stays (s : State) : CoilsStay s (expireGrace s) := by
  unfold expireGrace
  split
  · exact .refl s
  · next p rest _ =>
    have listed : CoilsStay s (s.modPt fun l => { l with graceDue := rest }) := .of_same rfl
    exact .ite ((listed.trans (.of_touches (retire_touches _ p .grace))).trans (serveOrphans_stays _)) listed

theorem CoilsStay.iterate {f : State → State} (h : ∀ v, CoilsStay v (f v)) (n : Nat) (s : State) : CoilsStay s (f^[n] s) := by
  induction n generalizing s with
  | zero => exact .refl s
  | succ n ih =>
    rw [Function.iterate_succ_apply]
    exact (h s).trans (ih _)

theorem takeWholeSecond_stays (s : State) : CoilsStay s (takeWholeSecond s) := by
  have second : CoilsStay s (takeNextSecond s) := by
    unfold takeNextSecond
    exact .ite (.refl s) (.of_same rfl)
  exact second.trans (.iterate expireGrace_stays _ _)

/-! ### A coil that is ABSENT stays so -/

theorem CoilsStay.absent {s u : State} (h : CoilsStay s u) {k : CoilId} (absent : s.coils[k].occupancy = .absent) :
    u.coils[k].occupancy = .absent := by
  rw [(h k).out (.inl absent)]
  exact absent

theorem releaseMember_absent {s : State} {j k : CoilId} (p : PanSlot) (other : j ≠ k) (absent : s.coils[j].occupancy = .absent) :
    (releaseMember s k p).coils[j].occupancy = .absent := by
  have dropped : (dropMember s k p).coils[j].occupancy = .absent := by
    rw [(dropMember_coil s p other).out (.inl absent)]
    exact absent
  have emptied := (emptyQueue_stays (dropMember s k p)).absent dropped
  unfold releaseMember
  split
  · exact (serveOrphans_stays _).absent emptied
  · exact emptied

theorem takeMemberRelease_absent {s : State} {j : CoilId} (absent : s.coils[j].occupancy = .absent) (k : CoilId) (m : Material) (firing : Bool) :
    (takeMemberRelease s k m firing).coils[j].occupancy = .absent := by
  have other {o : Occupancy} (held : s.coils[k].occupancy = o) (away : o ≠ .absent) : j ≠ k := fun same =>
    away (held.symm.trans (same ▸ absent))
  cases occupancy : s.coils[k].occupancy with
  | absent => rw [takeMemberRelease_gone (.inr occupancy), absent]
  | vacant => rw [takeMemberRelease_gone (.inl occupancy), absent]
  | sensed =>
    have vacated : (vacate s k).coils[j] = s.coils[j] := (Laws.set_get ..).trans (if_neg (other occupancy Occupancy.noConfusion).symm)
    rw [takeMemberRelease_sensed occupancy]
    split
    · exact absent
    · exact (congrArg CoilRecord.occupancy vacated).trans absent
  | member =>
    cases owner : s.coils[k].owner with
    | none => rw [takeMemberRelease, occupancy, owner, absent]
    | some p =>
      have out := releaseMember_absent p (other occupancy Occupancy.noConfusion) absent
      rw [takeMemberRelease_member occupancy owner]
      generalize releaseMember s k p = v at *
      exact out

theorem takeNextCoilEvent_absent {s : State} {j : CoilId} (absent : s.coils[j].occupancy = .absent) :
    (takeNextCoilEvent s).coils[j].occupancy = .absent := by
  cases events : s.posts.coilEvents with
  | nil => rw [takeNextCoilEvent_nil events, absent]
  | cons e rest =>
    have waits : (popped s rest).coils[j].occupancy = .absent := absent
    rw [takeNextCoilEvent_cons events]
    generalize popped s rest = v at waits
    cases e with
    | becameSensed k m =>
      have queued : (enqueueAround (enqueue v [k]) k).coils[j].occupancy = .absent := waits
      exact (emptyQueue_stays _).absent queued
    | released k m =>
      have withdrawn : CoilsStay v (enqueueAround (withdraw v k) k) := by
        have left : CoilsStay v (withdraw v k) := by
          unfold withdraw
          exact .ite (.of_same rfl) (.refl v)
        exact left.trans (.of_touches (enqueueAround_touches _ k))
      exact (withdrawn.trans (emptyQueue_stays _)).absent waits
    | materialChanged k p m =>
      cases p with
      | none => exact waits
      | some p => exact (CoilsStay.of_touches (refigure_touches v p)).absent waits
    | memberRelease k p m firing frames seconds => exact takeMemberRelease_absent waits k m firing

/-- R1: what is taken before the change of the flag leaves ABSENT coils ABSENT. -/
theorem finishReleases_absent {s : State} {j : CoilId} (absent : s.coils[j].occupancy = .absent) (work : Tables) (valid : Bool) :
    (finishReleases s work valid).coils[j].occupancy = .absent := by
  have frames := (CoilsStay.iterate takeNextFrameEnd_stays s.posts.ptFrameEnds.length s).absent absent
  unfold finishReleases finishTracker
  split
  · generalize takeNextFrameEnd^[s.posts.ptFrameEnds.length] s = v at frames
    have seconds := (CoilsStay.iterate takeWholeSecond_stays v.posts.ptSeconds v).absent frames
    exact Function.Iterate.rec (fun v : State => v.coils[j].occupancy = .absent) seconds (fun _ g => takeNextCoilEvent_absent g) _
  · exact absent

/-! ### What StructureTaken reads -/

/-- StructureTaken reads the working tables, but neither the rest of the store nor the supervisor's record. -/
theorem StructureTaken.of_work {r u : State} {valid : Bool} {x y : Supply} {first second : TableStore} (work : first.work = second.work)
    (h : StructureTaken { r with sup := x, ts := first } valid u) : StructureTaken { r with sup := y, ts := second } valid u := by
  have present : presentBy { r with sup := x, ts := first } valid = presentBy { r with sup := y, ts := second } valid :=
    funext fun k => congrArg (fun w : Tables => valid && w.t1[k].present) work
  have configured : configuredBy { r with sup := x, ts := first } valid = configuredBy { r with sup := y, ts := second } valid :=
    funext fun b => congrArg (fun w : Tables => valid && w.t0[b].configured) work
  have removed : removedBoards { r with sup := x, ts := first } valid = removedBoards { r with sup := y, ts := second } valid := by
    rw [removedBoards, removedBoards, configured]
  obtain ⟨added, gone, kept, hot, pans, boards, posts⟩ := h
  rw [present] at added gone kept hot
  rw [configured] at boards
  rw [removed] at posts
  exact ⟨added, gone, kept, hot, ⟨pans.parts, pans.lists, pans.none, pans.fresh⟩, boards, posts⟩

/-- R1: what becomes of a coil that is not present. -/
theorem StructureTaken.absent {r u : State} {valid : Bool} (h : StructureTaken r valid u) {k : CoilId} (lost : presentBy r valid k = false) :
    u.coils[k].occupancy = .absent := by
  obtain ⟨held, gone, -⟩ := h.removed k lost
  by_cases absent : r.coils[k].occupancy = .absent
  · rw [(gone absent).1, absent]
  · rw [(held absent).1]
    rfl

/-- R141: what becomes of a board that is not configured. -/
theorem StructureTaken.unconfigured {r u : State} {valid : Bool} (h : StructureTaken r valid u) {b : BoardId}
    (out : configuredBy r valid b = false) : u.boards[b].state = .unconfigured := by
  obtain ⟨-, -, leaves, stays⟩ := h.boards b
  by_cases off : r.boards[b].state = .unconfigured
  · rw [stays out off, off]
  · rw [leaves out off]

/-! ### The change of the flag in one piece -/

section
variable {s : State} {f : TableStore → TableStore}

/-- R20, log 56: what is taken before the change of the flag. -/
def changeFrom (s : State) (f : TableStore → TableStore) : State := finishReleases s (f s.ts).work (f s.ts).valid

theorem changeFrom_kept (s : State) (f : TableStore → TableStore) :
    (changeFrom s f).ts = s.ts ∧ (changeFrom s f).boards = s.boards := by
  have touches := finishReleases_touches s (f s.ts).work (f s.ts).valid
  exact ⟨ts_kept touches, touches.kept .boards⟩

/-- R1, R39, R141: the change of the flag, and what it leaves. -/
theorem takeStructure_taken (s : State) (f : TableStore → TableStore) :
    takeStructure s f = { changeFrom s f with
                          ts := f s.ts
                          coils := (takeStructure s f).coils, pans := (takeStructure s f).pans, pt := (takeStructure s f).pt
                          hs := (takeStructure s f).hs, ba := (takeStructure s f).ba
                          pu := { (changeFrom s f).pu with hot := (takeStructure s f).pu.hot }
                          boards := (takeStructure s f).boards, posts := (takeStructure s f).posts
                          cp := { (changeFrom s f).cp with
                                  notices := (takeStructure s f).cp.notices, gap := (takeStructure s f).cp.gap } } ∧
      ∀ second : TableStore, second.work = (f s.ts).work →
        StructureTaken { changeFrom s f with ts := second } (f s.ts).valid (takeStructure s f) := by
  have flagged : (finishReleases s (f s.ts).work (f s.ts).valid).modTs f = { changeFrom s f with ts := f s.ts } := by
    have tables : (finishReleases s (f s.ts).work (f s.ts).valid).ts = s.ts := (changeFrom_kept s f).1
    rw [State.modTs, tables]
    rfl
  have frame := structureSet_frame { changeFrom s f with ts := f s.ts } (f s.ts).valid
  have taken := structureSet_taken { changeFrom s f with ts := f s.ts } (f s.ts).valid
  rw [takeStructure_eq, flagged]
  generalize structureSet { changeFrom s f with ts := f s.ts } (f s.ts).valid = u at *
  generalize changeFrom s f = r at *
  exact ⟨frame, fun second work => taken.of_work (x := r.sup) (y := r.sup) work.symm⟩

end

end Sys2Proof.Machine
end

section
/-! The strap release, and what it takes before (R173; logs 56, 57). -/

namespace Sys2Proof.Machine

-- The default arguments `by decide` wait for the kernel: one declaration after the other holds few threads.
set_option Elab.async false

/-! ### The commands by which the Pan Tracker takes its events -/

theorem exec_takesSecond {s : State} (on : Settled s) :
    exec .panTrackerOneSecond s = .next (takeNextSecond s) ∧ takeWholeSecond s = finishDue (takeNextSecond s) := by
  refine ⟨exec_settled on _, ?_⟩
  obtain ⟨-, -, steps, cooldowns, windows⟩ := on
  have repeats (f : State → State) (n : Nat) (v : State) : repeatTail f n v = f^[n] v := by
    induction n generalizing v with
    | zero => rfl
    | succ n ih => exact ih (f v)
  have none {f : State → State} {n : Nat} (zero : n = 0) (v : State) : repeatTail f n v = v := by rw [zero]; rfl
  have taken : (takeNextSecond s).hs = s.hs ∧ (takeNextSecond s).pu = s.pu := by
    unfold takeNextSecond
    split
    · exact ⟨rfl, rfl⟩
    · rw [panSecond_eq]
      exact ⟨rfl, rfl⟩
  have tails := graces_finished (takeNextSecond s)
  rw [taken.1, taken.2, steps, cooldowns, windows, repeats] at tails
  have whole : expireGrace^[(takeNextSecond s).pt.graceDue.length] (takeNextSecond s) = takeWholeSecond s := rfl
  rw [whole] at tails
  obtain ⟨-, steps, cooldowns, windows⟩ := (drained_iff _).mpr tails
  have first : repeatTail expireGrace (takeNextSecond s).pt.graceDue.length (takeNextSecond s) = takeWholeSecond s := (repeats ..).trans whole
  rw [finishDue, first, none (congrArg List.length steps), none (congrArg List.length cooldowns), none (congrArg List.length windows)]

/-- R11, R20: the command that takes a coil-change event. -/
def AnswersTo (i : Instr) : CoilEvent → Prop
  | .becameSensed _ _ => i = .becameSensed
  | .released _ _ => i = .sensedReleased
  | .materialChanged _ _ _ => i = .materialChanged
  | .memberRelease _ _ _ _ frames seconds => i = .memberRelease ∧ frames = 0 ∧ seconds = 0

/-- R20: each command of the Pan Tracker that an event answers to takes it. -/
theorem exec_takesCoilEvent {s : State} (on : Settled s) (high : s.sup.hub ≠ .supplyLow) {i : Instr} {e : CoilEvent} {rest : List CoilEvent}
    (head : s.posts.coilEvents = e :: rest) (answers : AnswersTo i e) :
    exec i s = .next (takeNextCoilEvent s) := by
  rw [exec_settled on, takeNextCoilEvent_cons head]
  refine congrArg Host.Outcome.next ?_
  cases e with
  | becameSensed k m =>
    obtain rfl : i = .becameSensed := answers
    refine (if_neg high).trans ?_
    rw [head]
    exact congrArg (takeBecameSensed · k) (popCoil_eq head)
  | released k m =>
    obtain rfl : i = .sensedReleased := answers
    exact action_sensedReleased high head
  | materialChanged k p m =>
    obtain rfl : i = .materialChanged := answers
    cases p with
    | some p => exact action_materialChanged high head
    | none =>
      refine (if_neg high).trans ?_
      rw [head]
      exact popCoil_eq head
  | memberRelease k p m firing frames seconds =>
    obtain ⟨rfl, rfl, rfl⟩ := answers
    exact action_memberRelease high head

theorem exec_takesFrameEnd {s : State} (on : Settled s) (high : s.sup.hub ≠ .supplyLow) :
    exec .panTrackerFrameEnd s = .next (takeNextFrameEnd s) := by
  rw [exec_settled on]
  exact congrArg Host.Outcome.next (if_neg high)

/-! ### The exit that the strap forces -/

/-- R173: the store once service mode has ended by the strap. -/
def forcedStore (ts : TableStore) : TableStore := { ts with service := false, valid := (validate ts.work).isNone }

/-- R173: the supervisor's record once the strap is released. -/
def strapOff (u : Supply) : Supply := { u with strap := false }

theorem exec_strapRelease {s : State} (on : Settled s) :
    exec .serviceStrapRelease s = .next (forcedExit (withSup (strapOff s.sup) s)) := exec_settled on _

theorem strapRelease_from (s : State) (x : Supply) :
    changeFrom (withSup x s) forcedStore = withSup x (finishReleases s s.ts.work (validate s.ts.work).isNone) :=
  finishReleases_supFree s.ts.work (validate s.ts.work).isNone s x

/-- Settles O8: the exit is the change of the flag, made on what the Pan Tracker has taken before; the tracker does not look at the strap. -/
theorem strapReleaseForcesExit : Obligations.StrapReleaseForcesExit := by
  unfold Obligations.StrapReleaseForcesExit
  refine ⟨⟨fun s on off => ?_, fun s on service => ?_⟩, fun s work valid => ⟨fun releases => finishReleases_takes releases, fun stay => finishReleases_stays stay⟩,
    fun s => ⟨fun some => finishTracker_frame some, fun frames some => finishTracker_second frames some,
      fun frames seconds some => finishTracker_event frames seconds some, fun frames seconds none => finishTracker_nil frames seconds none⟩,
    fun s on high => ⟨exec_takesFrameEnd on high, (exec_takesSecond on).1, (exec_takesSecond on).2,
      fun i e rest head answers => exec_takesCoilEvent on high head (by cases e <;> exact answers)⟩⟩
  · rw [exec_strapRelease on]
    exact congrArg Host.Outcome.next (if_neg (Bool.eq_false_iff.mp off))
  · intro valid r
    obtain ⟨frame, taken⟩ := takeStructure_taken (withSup (strapOff s.sup) s) forcedStore
    have exits : forcedExit (withSup (strapOff s.sup) s) = takeStructure (withSup (strapOff s.sup) s) forcedStore := if_pos service
    rw [strapRelease_from] at frame taken
    generalize takeStructure (withSup (strapOff s.sup) s) forcedStore = u at frame taken exits
    have tables : r.ts = s.ts := (changeFrom_kept s forcedStore).1
    have structural : StructureTaken r valid u :=
      StructureTaken.of_work (r := r) (x := strapOff s.sup) (y := r.sup) (first := forcedStore s.ts) (second := r.ts)
        (congrArg TableStore.work tables).symm (taken (forcedStore s.ts) rfl)
    have present (k : CoilId) : presentBy r valid k = (valid && s.ts.work.t1[k].present) := by rw [presentBy, tables]
    have missing {k : CoilId} (lost : presentBy r valid k = false) :
        u.coils[k].occupancy = .absent ∧ (r.coils[k].occupancy ≠ .absent → u.coils[k] = CoilRecord.reset) :=
      ⟨structural.absent lost, fun some => ((structural.removed k lost).1 some).1⟩
    refine ⟨u, (exec_strapRelease on).trans (congrArg _ exits), frame, fun k clear => missing ?_, fun b clear => ?_,
      fun k set => ⟨fun here absent => ?_, fun lost => structural.absent ?_⟩, structural⟩
    · rw [present, clear]
      rfl
    · refine structural.unconfigured ?_
      rw [configuredBy, clear]
      rfl
    · exact structural.added k (by rw [present, set, here]; rfl) (finishReleases_absent absent _ _)
    · rw [present, set, lost]
      rfl

end Sys2Proof.Machine
end

section
/-! The validation of the working structural tables, row by row of R172. -/

namespace Sys2Proof.Machine

-- The default arguments `by decide` wait for the kernel: one declaration after the other holds few threads.
set_option Elab.async false

/-! ### The failures in their order -/

/-- R172: the entries that fail a row, ascending. -/
def failed {n : Nat} (bad : Fin n → Bool) : List Nat := ((List.finRange n).filter bad).map Fin.val

theorem mem_failed {n : Nat} {bad : Fin n → Bool} {entry : Nat} : entry ∈ failed bad ↔ ∃ i : Fin n, i.val = entry ∧ bad i = true := by
  simp [failed, and_comm]

theorem failed_ascending {n : Nat} (bad : Fin n → Bool) : (failed bad).Pairwise (· < ·) :=
  List.pairwise_map.mpr ((List.pairwise_lt_finRange n).filter bad)

theorem failing_eq {n : Nat} (row : Nat) (bad : Fin n → Bool) : failing row bad = ((failed bad).map fun e => (row, e)).head? := by
  rw [failing, failed, List.map_map, List.head?_map, List.head?_filter]
  rfl

/-- R172: the rows with the entries that fail them. -/
def rowFailures (w : Tables) : List (Nat × List Nat) :=
  [(1, failed (lacksReturn w)), (2, failed (listsItself w)), (3, failed (listsMissing w)), (4, failed (listTooLong w)),
    (5, failed (classTooHigh w)), (6, failed (boardMissing w)), (7, failed (referencesWrong w)), (8, failed (thresholdsWrong w))]

/-- R172: every failure as row and entry, in the order of the rows. -/
def failures (w : Tables) : List (Nat × Nat) := (rowFailures w).flatMap fun b => b.2.map fun e => (b.1, e)

theorem validate_eq (w : Tables) : validate w = (failures w).head? := by
  simp only [validate, failing_eq, failures, rowFailures, List.flatMap_cons, List.flatMap_nil, List.append_nil, List.head?_append,
    Option.orElse_eq_orElse, Option.orElse_eq_or]

theorem failures_ordered (w : Tables) : (failures w).Pairwise fun x y => x.1 < y.1 ∨ (x.1 = y.1 ∧ x.2 < y.2) := by
  refine List.pairwise_flatMap.mpr ⟨fun b mem => List.pairwise_map.mpr ?_, ?_⟩
  · have ascending : b.2.Pairwise (· < ·) := by
      simp only [rowFailures, List.mem_cons, List.not_mem_nil, or_false] at mem
      rcases mem with rfl | rfl | rfl | rfl | rfl | rfl | rfl | rfl <;> exact failed_ascending _
    exact ascending.imp fun less => .inr ⟨rfl, less⟩
  · have rows : (rowFailures w).Pairwise fun b c => b.1 < c.1 := by
      refine List.pairwise_map.mp (?_ : ((rowFailures w).map Prod.fst).Pairwise (· < ·))
      have list : (rowFailures w).map Prod.fst = [1, 2, 3, 4, 5, 6, 7, 8] := rfl
      rw [list]
      decide
    refine rows.imp fun less x first y second => .inl ?_
    obtain ⟨d, -, rfl⟩ := List.mem_map.mp first
    obtain ⟨e, -, rfl⟩ := List.mem_map.mp second
    exact less

/-! ### What each row says -/

section
variable (w : Tables) (k : CoilId) (c : Fin 3)

theorem lacksReturn_iff : lacksReturn w k = true ↔ ∃ j ∈ w.t2[k], k ∉ w.t2[j] := by simp [lacksReturn]

theorem listsItself_iff : listsItself w k = true ↔ k ∈ w.t2[k] := by simp [listsItself]

theorem listsMissing_iff : listsMissing w k = true ↔ ∃ j ∈ w.t2[k], w.t1[j].present = false := by simp [listsMissing]

theorem listTooLong_iff : listTooLong w k = true ↔ 6 < w.t2[k].length := by simp [listTooLong]

theorem classTooHigh_iff : classTooHigh w k = true ↔ w.t1[k].present = true ∧ 2 < w.t1[k].cls.val := by simp [classTooHigh]

theorem boardMissing_iff : boardMissing w k = true ↔ w.t1[k].present = true ∧ w.t0[coilBoard k].configured = false := by simp [boardMissing]

theorem referencesWrong_iff : referencesWrong w c = true ↔ w.t3[c].full ≤ w.t3[c].empty := by simp [referencesWrong]

theorem thresholdsWrong_iff : thresholdsWrong w c = true ↔
    ¬(w.t3[c].release < w.t3[c].detect ∧ w.t3[c].detect ≤ w.t3[c].fire ∧ w.t3[c].fire ≤ 200) := by
  rw [thresholdsWrong, Bool.not_eq_true', decide_eq_false_iff_not]

end

theorem mem_failures (w : Tables) (row entry : Nat) : (row, entry) ∈ failures w ↔ FailsRow w row entry := by
  have listed : (row, entry) ∈ failures w ↔ ∃ b ∈ rowFailures w, entry ∈ b.2 ∧ b.1 = row := by
    simp [failures]
  rw [listed]
  simp only [rowFailures, List.mem_cons, List.not_mem_nil, or_false, exists_eq_or_imp, exists_eq_left, mem_failed, lacksReturn_iff,
    listsItself_iff, listsMissing_iff, listTooLong_iff, classTooHigh_iff, boardMissing_iff, referencesWrong_iff, thresholdsWrong_iff]
  unfold FailsRow
  constructor
  · rintro (⟨⟨k, at_, bad⟩, rfl⟩ | ⟨⟨k, at_, bad⟩, rfl⟩ | ⟨⟨k, at_, bad⟩, rfl⟩ | ⟨⟨k, at_, bad⟩, rfl⟩ | ⟨⟨k, at_, bad⟩, rfl⟩ |
      ⟨⟨k, at_, bad⟩, rfl⟩ | ⟨⟨c, at_, bad⟩, rfl⟩ | ⟨⟨c, at_, bad⟩, rfl⟩)
    · exact .inl ⟨k, at_, .inl ⟨rfl, bad⟩⟩
    · exact .inl ⟨k, at_, .inr (.inl ⟨rfl, bad⟩)⟩
    · exact .inl ⟨k, at_, .inr (.inr (.inl ⟨rfl, bad⟩))⟩
    · exact .inl ⟨k, at_, .inr (.inr (.inr (.inl ⟨rfl, bad⟩)))⟩
    · exact .inl ⟨k, at_, .inr (.inr (.inr (.inr (.inl ⟨rfl, bad⟩))))⟩
    · exact .inl ⟨k, at_, .inr (.inr (.inr (.inr (.inr ⟨rfl, bad⟩))))⟩
    · exact .inr ⟨c, at_, .inl ⟨rfl, bad⟩⟩
    · exact .inr ⟨c, at_, .inr ⟨rfl, bad⟩⟩
  · rintro (⟨k, at_, ⟨rfl, bad⟩ | ⟨rfl, bad⟩ | ⟨rfl, bad⟩ | ⟨rfl, bad⟩ | ⟨rfl, bad⟩ | ⟨rfl, bad⟩⟩ | ⟨c, at_, ⟨rfl, bad⟩ | ⟨rfl, bad⟩⟩)
    · exact .inl ⟨⟨k, at_, bad⟩, rfl⟩
    · exact .inr (.inl ⟨⟨k, at_, bad⟩, rfl⟩)
    · exact .inr (.inr (.inl ⟨⟨k, at_, bad⟩, rfl⟩))
    · exact .inr (.inr (.inr (.inl ⟨⟨k, at_, bad⟩, rfl⟩)))
    · exact .inr (.inr (.inr (.inr (.inl ⟨⟨k, at_, bad⟩, rfl⟩))))
    · exact .inr (.inr (.inr (.inr (.inr (.inl ⟨⟨k, at_, bad⟩, rfl⟩)))))
    · exact .inr (.inr (.inr (.inr (.inr (.inr (.inl ⟨⟨c, at_, bad⟩, rfl⟩))))))
    · exact .inr (.inr (.inr (.inr (.inr (.inr (.inr ⟨⟨c, at_, bad⟩, rfl⟩))))))

/-! ### The first failure -/

/-- The head of an ordered list is its least member. -/
theorem head?_eq_some_iff {l : List (Nat × Nat)} (ordered : l.Pairwise fun x y => x.1 < y.1 ∨ (x.1 = y.1 ∧ x.2 < y.2)) (x : Nat × Nat) :
    l.head? = some x ↔ x ∈ l ∧ ∀ y ∈ l, ¬(y.1 < x.1 ∨ (y.1 = x.1 ∧ y.2 < x.2)) := by
  cases l with
  | nil => simp
  | cons a l =>
    have first {y : Nat × Nat} (later : y ∈ l) : a.1 < y.1 ∨ (a.1 = y.1 ∧ a.2 < y.2) := List.rel_of_pairwise_cons ordered later
    constructor
    · intro head
      obtain rfl : a = x := Option.some.inj head
      refine ⟨List.mem_cons_self, fun y mem => ?_⟩
      rcases List.mem_cons.mp mem with rfl | later
      · omega
      · have less := first later
        omega
    · rintro ⟨mem, least⟩
      rcases List.mem_cons.mp mem with rfl | later
      · rfl
      · exact absurd (first later) (least a List.mem_cons_self)

theorem validate_some_iff (w : Tables) (row entry : Nat) :
    validate w = some (row, entry) ↔
      FailsRow w row entry ∧ (∀ e : Nat, e < entry → ¬ FailsRow w row e) ∧ ∀ r e : Nat, r < row → ¬ FailsRow w r e := by
  rw [validate_eq, head?_eq_some_iff (failures_ordered w), mem_failures]
  refine and_congr_right fun _ => ⟨fun least => ⟨fun e less fails => ?_, fun r e less fails => ?_⟩, fun ⟨same, before⟩ y mem => ?_⟩
  · exact least (row, e) ((mem_failures w row e).mpr fails) (.inr ⟨rfl, less⟩)
  · exact least (r, e) ((mem_failures w r e).mpr fails) (.inl less)
  · obtain ⟨r, e⟩ := y
    have fails := (mem_failures w r e).mp mem
    rintro (less | ⟨here, less⟩)
    · exact before r e less fails
    · obtain rfl : r = row := here
      exact same e less fails

theorem validate_none_iff_fails (w : Tables) : validate w = none ↔ ∀ row entry : Nat, ¬ FailsRow w row entry := by
  rw [validate_eq, List.head?_eq_none_iff, List.eq_nil_iff_forall_not_mem]
  exact ⟨fun none row entry fails => none (row, entry) ((mem_failures w row entry).mpr fails),
    fun none y mem => none y.1 y.2 ((mem_failures w y.1 y.2).mp mem)⟩

theorem failsRow_range {w : Tables} {row entry : Nat} (fails : FailsRow w row entry) : 1 ≤ row ∧ row ≤ 8 := by
  rcases fails with ⟨k, -, rows⟩ | ⟨c, -, rows⟩ <;> omega

/-- R172: the tables validate when no row fails. -/
theorem validate_none_iff (w : Tables) :
    validate w = none ↔
      (∀ k : CoilId, (∀ j ∈ w.t2[k], k ∈ w.t2[j] ∧ j ≠ k ∧ w.t1[j].present = true) ∧ w.t2[k].length ≤ 6) ∧
      (∀ k : CoilId, w.t1[k].present = true → w.t1[k].cls.val ≤ 2 ∧ w.t0[coilBoard k].configured = true) ∧
      ∀ c : Fin 3, w.t3[c].empty < w.t3[c].full ∧ w.t3[c].release < w.t3[c].detect ∧ w.t3[c].detect ≤ w.t3[c].fire ∧
        w.t3[c].fire ≤ 200 := by
  rw [validate_none_iff_fails]
  refine ⟨fun none => ⟨fun k => ⟨fun j mem => ⟨?_, ?_, ?_⟩, ?_⟩, fun k present => ⟨?_, ?_⟩, fun c => ⟨?_, ?_⟩⟩, fun ⟨lists, coils, classes⟩ row entry fails => ?_⟩
  · by_contra lacks
    exact none 1 k (.inl ⟨k, rfl, .inl ⟨rfl, j, mem, lacks⟩⟩)
  · rintro rfl
    exact none 2 j (.inl ⟨j, rfl, .inr (.inl ⟨rfl, mem⟩)⟩)
  · by_contra missing
    exact none 3 k (.inl ⟨k, rfl, .inr (.inr (.inl ⟨rfl, j, mem, Bool.eq_false_iff.mpr missing⟩))⟩)
  · by_contra long
    exact none 4 k (.inl ⟨k, rfl, .inr (.inr (.inr (.inl ⟨rfl, Nat.lt_of_not_le long⟩)))⟩)
  · by_contra high
    exact none 5 k (.inl ⟨k, rfl, .inr (.inr (.inr (.inr (.inl ⟨rfl, present, Nat.lt_of_not_le high⟩))))⟩)
  · by_contra missing
    exact none 6 k (.inl ⟨k, rfl, .inr (.inr (.inr (.inr (.inr ⟨rfl, present, Bool.eq_false_iff.mpr missing⟩))))⟩)
  · by_contra wrong
    exact none 7 c (.inr ⟨c, rfl, .inl ⟨rfl, Nat.le_of_not_lt wrong⟩⟩)
  · by_contra wrong
    exact none 8 c (.inr ⟨c, rfl, .inr ⟨rfl, wrong⟩⟩)
  · rcases fails with ⟨k, -, ⟨-, j, mem, lacks⟩ | ⟨-, self⟩ | ⟨-, j, mem, missing⟩ | ⟨-, long⟩ | ⟨-, present, high⟩ | ⟨-, present, missing⟩⟩ |
      ⟨c, -, ⟨-, wrong⟩ | ⟨-, wrong⟩⟩
    · exact lacks ((lists k).1 j mem).1
    · exact ((lists k).1 k self).2.1 rfl
    · exact Bool.false_ne_true (missing.symm.trans ((lists k).1 j mem).2.2)
    · exact Nat.not_le.mpr long (lists k).2
    · exact Nat.not_le.mpr high (coils k present).1
    · exact Bool.false_ne_true (missing.symm.trans (coils k present).2)
    · exact Nat.not_le.mpr (classes c).1 wrong
    · exact wrong (classes c).2

end Sys2Proof.Machine
end

section
/-! The service orders (R172). -/

namespace Sys2Proof.Machine

-- The default arguments `by decide` wait for the kernel: one declaration after the other holds few threads.
set_option Elab.async false

/-! ### SERVICE ENTER -/

theorem exec_serviceEnter {s : State} (free : OrderFree s) (t : Time) (tag : Byte) (strap : Bool) :
    exec (.serviceEnter t tag strap) s = .next (judgeEnter (withSup { s.sup with strap := strap } (taken s t tag 18))) := by
  have seen : OrderFree (withSup { s.sup with strap := strap } s) := free
  have judged : takeOrder (withSup { s.sup with strap := strap } s) t tag 18 judgeEnter =
      judgeEnter (withSup { s.sup with strap := strap } (taken s t tag 18)) := takeOrder_free seen t tag 18 judgeEnter
  exact (exec_settled free.1 _).trans (congrArg Host.Outcome.next judged)

theorem serviceEnter_judged {s : State} (free : OrderFree s) (t : Time) (tag : Byte) :
    (exec (.serviceEnter t tag false) s = .next
      (endedCheck { taken s t tag 18 with sup := { s.sup with strap := false } } tag .notPermitted 0 1)) ∧
    (s.fe.hob = .running →
      exec (.serviceEnter t tag true) s = .next
        (endedCheck { taken s t tag 18 with sup := { s.sup with strap := true } } tag .notPermitted 0 2)) ∧
    (s.fe.hob ≠ .running →
      exec (.serviceEnter t tag true) s = .next
        (endedGood
          { taken s t tag 18 with sup := { s.sup with strap := true }, ts := { s.ts with service := true } } tag)) := by
  have order : (taken s t tag 18).cp.order = some ⟨18, tag, 0, 0, .plain⟩ := rfl
  refine ⟨?_, fun running => ?_, fun still => ?_⟩ <;> rw [exec_serviceEnter free]
  · exact congrArg _ ((if_pos rfl).trans (endCheck_kept order ..))
  · exact congrArg _ ((if_neg Bool.noConfusion).trans ((if_pos running).trans (endCheck_kept order ..)))
  · exact congrArg _ ((if_neg Bool.noConfusion).trans ((if_neg still).trans (endGood_kept order)))

/-! ### SERVICE EXIT -/

/-- R172: the store once SERVICE EXIT has found the structural tables in order. -/
def exitedStore (ts : TableStore) : TableStore := { ts with service := false, valid := true }

theorem exec_serviceExit {s : State} (free : OrderFree s) (t : Time) (tag : Byte) :
    exec (.serviceExit t tag) s = .next (judgeExit (taken s t tag 19)) := exec_order free (.serviceExit t tag) t tag 19 judgeExit rfl

theorem judgeExit_passes {s : State} (service : s.ts.service = true) (passes : validate s.ts.work = none) :
    judgeExit s = endGood (takeStructure s exitedStore) := by
  have inside : ¬(s.ts.service = false) := ne_false_of_eq_true service
  rw [judgeExit, if_neg inside, passes]
  rfl

theorem judgeExit_refuses {s : State} (service : s.ts.service = true) {row entry : Nat} (fails : validate s.ts.work = some (row, entry)) :
    judgeExit s = endCheck s .tableInvalid entry row := by
  have inside : ¬(s.ts.service = false) := ne_false_of_eq_true service
  rw [judgeExit, if_neg inside, fails]

/-- The change of the structural-valid flag leaves the order in progress. -/
theorem takeStructure_order (s : State) (f : TableStore → TableStore) :
    (takeStructure s f).cp.order = s.cp.order ∧ (changeFrom s f).cp.order = s.cp.order := by
  have before : (changeFrom s f).cp.order = s.cp.order :=
    (congrArg ControllerPort.order ((finishReleases_touches s (f s.ts).work (f s.ts).valid).kept .orders) :)
  have frame := (takeStructure_taken s f).1
  generalize takeStructure s f = u at frame ⊢
  generalize changeFrom s f = r at frame before ⊢
  rw [frame]
  exact ⟨before, before⟩

/-- Settles O22: the validation is the first failure in the order of the rows, and a passed exit is the change of the flag. -/
theorem serviceOrdersValidateTheTables : Obligations.ServiceOrdersValidateTheTables := by
  unfold Obligations.ServiceOrdersValidateTheTables
  refine ⟨fun w => ⟨validate_none_iff w, fun e failure => ?_, validate_some_iff w⟩, fun s t tag free => serviceEnter_judged free t tag,
    fun s t tag free => ⟨fun off => ?_, fun row entry service fails => ?_, fun service passes => ?_⟩⟩
  · exact failsRow_range ((validate_some_iff w e.1 e.2).mp failure).1
  · rw [exec_serviceExit free]
    exact congrArg _ ((if_pos off).trans (endCheck_taken ..))
  · rw [exec_serviceExit free]
    exact congrArg _ ((judgeExit_refuses (s := taken s t tag 19) service fails).trans (endCheck_taken ..))
  · intro r
    obtain ⟨frame, structured⟩ := takeStructure_taken (taken s t tag 19) exitedStore
    have order := (takeStructure_order (taken s t tag 19) exitedStore).1
    have exits := judgeExit_passes (s := taken s t tag 19) service passes
    have from_ : changeFrom (taken s t tag 19) exitedStore = r := rfl
    have ended : exec (.serviceExit t tag) s = .next (endedGood (takeStructure (taken s t tag 19) exitedStore) tag) := by
      rw [exec_serviceExit free, exits]
      exact congrArg _ (endGood_kept (s := taken s t tag 19) (o := ⟨19, tag, 0, 0, .plain⟩) rfl order)
    obtain ⟨tables, boards⟩ := changeFrom_kept (taken s t tag 19) exitedStore
    rw [from_] at frame structured tables boards
    generalize takeStructure (taken s t tag 19) exitedStore = u at frame structured ended
    have structural : StructureTaken r true u :=
      StructureTaken.of_work (r := r) (x := r.sup) (y := r.sup) (first := exitedStore s.ts) (second := r.ts)
        (congrArg TableStore.work tables).symm (structured (exitedStore s.ts) rfl)
    have present (k : CoilId) : presentBy r true k = s.ts.work.t1[k].present := by rw [presentBy, tables, Bool.true_and]; rfl
    have configured (b : BoardId) : configuredBy r true b = s.ts.work.t0[b].configured := by rw [configuredBy, tables, Bool.true_and]; rfl
    have board (b : BoardId) : r.boards[b] = s.boards[b] := congrArg (fun v : Vector BoardPort 4 => v[b]) boards
    refine ⟨u, ended, frame, fun k => ⟨fun here absent => ?_, fun lost => ?_⟩, fun b => ?_, structural⟩
    · exact structural.added k ((present k).trans here) (finishReleases_absent (s := taken s t tag 19) absent _ _)
    · exact structural.absent ((present k).trans lost)
    · obtain ⟨begins, stays, -, -⟩ := structural.boards b
      rw [configured, board] at begins stays
      exact ⟨begins, stays, fun out => structural.unconfigured ((configured b).trans out)⟩

end Sys2Proof.Machine
end

section
/-! RECALL TABLES, and the completion of a recall (R175, R176). -/

namespace Sys2Proof.Machine

-- The default arguments `by decide` wait for the kernel: one declaration after the other holds few threads.
set_option Elab.async false

/-! ### What an operation keeps whole -/

theorem sup_kept {l : List Part} {s u : State} (t : Touches l s u) (out : ∀ q ∈ [Part.pins, .hub], q ∉ l := by decide) : u.sup = s.sup := by
  have pins : (u.sup.level, u.sup.resetLine, u.sup.strap, u.sup.seenReleased) = (s.sup.level, s.sup.resetLine, s.sup.strap, s.sup.seenReleased) :=
    t.kept .pins (out _ (by decide))
  have hub : u.sup.hub = s.sup.hub := t.kept .hub (out _ (by decide))
  cases hu : u.sup
  cases hs : s.sup
  simp_all

theorem fe_kept {l : List Part} {s u : State} (t : Touches l s u)
    (out : ∀ q ∈ [Part.hob, .unlockTimer, .swapPending, .awaiting, .emitted, .mains, .frames], q ∉ l := by decide) : u.fe = s.fe := by
  have hob : u.fe.hob = s.fe.hob := t.kept .hob (out _ (by decide))
  have unlock : u.fe.unlockTimer = s.fe.unlockTimer := t.kept .unlockTimer (out _ (by decide))
  have swap : u.fe.swapPending = s.fe.swapPending := t.kept .swapPending (out _ (by decide))
  have awaiting : u.fe.awaiting = s.fe.awaiting := t.kept .awaiting (out _ (by decide))
  have emitted : u.fe.emitted = s.fe.emitted := t.kept .emitted (out _ (by decide))
  have mains := t.kept .mains (out _ (by decide))
  have frames := t.kept .frames (out _ (by decide))
  unfold Part.Kept at mains frames
  cases hu : u.fe
  cases hs : s.fe
  simp_all

/-! ### RECALL TABLES -/

theorem exec_recallTables {s : State} (free : OrderFree s) (t : Time) (tag : Byte) :
    exec (.recallTables t tag) s = .next (judgeRecall (taken s t tag 17)) := exec_order free (.recallTables t tag) t tag 17 judgeRecall rfl

theorem recallTables_judged {s : State} (free : OrderFree s) (t : Time) (tag : Byte) :
    (s.fe.hob = .running → exec (.recallTables t tag) s = .next (endedCheck (taken s t tag 17) tag .notPermitted 0 1)) ∧
    (s.fe.hob ≠ .running → s.ts.service = true →
      exec (.recallTables t tag) s = .next (endedCheck (taken s t tag 17) tag .notPermitted 0 2)) ∧
    (s.fe.hob ≠ .running → s.ts.service = false →
      exec (.recallTables t tag) s = .next
        { taken s t tag 17 with
          ts := { s.ts with recalling := true }
          cp := { (taken s t tag 17).cp with state := .completing, aborting := false } }) := by
  refine ⟨fun running => ?_, fun still service => ?_, fun still outside => ?_⟩ <;> rw [exec_recallTables free]
  · exact congrArg _ ((if_pos running).trans (endCheck_taken ..))
  · exact congrArg _ ((if_neg still).trans ((if_pos service).trans (endCheck_taken ..)))
  · have inside : ¬(s.ts.service = true) := ne_true_of_eq_false outside
    exact congrArg _ ((if_neg still).trans (if_neg inside))

/-! ### A recall completes -/

/-- R175: the store once a recall has completed. -/
def recalledStore (ts : TableStore) : TableStore := { ts with work := recalledTables ts, valid := structureMarked ts, recalling := false }

/-- R175: the supervisor's record once a recall has completed. -/
def recalledSup (u : Supply) : Supply := { u with hub := if u.hub = .recalling then .ready else u.hub }

/-- R84: the recall leaves every derate. -/
abbrev DeratesKept (s : State) (work : Tables) : Prop :=
  ∀ b : BoardId, s.ba.derating[b].manual = none →
    s.ts.work.t5[s.ba.derating[b].bucket] = work.t5[s.ba.derating[b].bucket]

/-- R175: what a recall does besides the change of the flag, which has left `v`. -/
def recalledState (s v : State) : State :=
  { v with
    sup := recalledSup s.sup
    fe := { s.fe with
            f := (recalledTables s.ts).frameActive, q := (recalledTables s.ts).frameQuiet, freq := (recalledTables s.ts).nominalHz
            frameOpen := false, emitted := Vector.replicate 8 0 }
    pans := noneDelivered v
    posts := { v.posts with
               triggers := v.posts.triggers ++ [.recalled] ++ (if DeratesKept s (recalledTables s.ts) then [] else [.derating]) } }

theorem postRecalled_eq {s u : State} (same : u.ba.derating = s.ba.derating) :
    postRecalled s u = { u with
      posts := { u.posts with
                 triggers := u.posts.triggers ++ [.recalled] ++ (if DeratesKept s u.ts.work then [] else [.derating]) } } := by
  unfold postRecalled
  by_cases kept : DeratesKept s u.ts.work
  · have unchanged : ¬(derateChanged s u = true) := fun changed => (derateChanged_iff same).mp changed kept
    rw [if_neg unchanged, if_pos kept, List.append_nil]
    rfl
  · rw [if_pos ((derateChanged_iff same).mpr kept), if_neg kept]
    rfl

/-- R175: what follows the change of the flag. -/
theorem recalled_after {s v : State} (sup : v.sup = s.sup) (fe : v.fe = s.fe) (tables : v.ts.work = recalledTables s.ts)
    (deratings : v.ba.derating = s.ba.derating) :
    postRecalled s (latch (if s.sup.hub = .recalling then v.modSup fun u => { u with hub := .ready } else v)) = recalledState s v := by
  have freed : (if s.sup.hub = .recalling then v.modSup fun u => { u with hub := .ready } else v) = withSup (recalledSup s.sup) v := by
    unfold recalledSup withSup State.modSup
    rw [← sup]
    split <;> rfl
  have latched : latch (withSup (recalledSup s.sup) v) =
      { v with
        sup := recalledSup s.sup
        fe := { s.fe with
                f := (recalledTables s.ts).frameActive, q := (recalledTables s.ts).frameQuiet, freq := (recalledTables s.ts).nominalHz
                frameOpen := false, emitted := Vector.replicate 8 0 }
        pans := noneDelivered v } := by
    rw [← tables, ← fe]
    rfl
  rw [freed, latched, recalledState, ← tables]
  exact postRecalled_eq deratings

/-- R175: the change of the flag leaves the supervisor, the Frame Engine, the order in progress and the deratings. -/
theorem takeStructure_keeps (s : State) (f : TableStore → TableStore) :
    (takeStructure s f).sup = s.sup ∧ (takeStructure s f).fe = s.fe ∧ (takeStructure s f).ts = f s.ts ∧
      (takeStructure s f).ba.derating = s.ba.derating := by
  have touches : Touches (.graceDue :: trackerParts) s (changeFrom s f) := finishReleases_touches s (f s.ts).work (f s.ts).valid
  have sup : (changeFrom s f).sup = s.sup := sup_kept touches
  have fe : (changeFrom s f).fe = s.fe := fe_kept touches
  have deratings : (changeFrom s f).ba.derating = s.ba.derating := touches.kept .deratings
  obtain ⟨frame, taken⟩ := takeStructure_taken s f
  have lists : (takeStructure s f).ba = { (changeFrom s f).ba with figures := (takeStructure s f).ba.figures } :=
    (taken (f s.ts) rfl).pans.lists.2
  generalize takeStructure s f = v at frame lists ⊢
  generalize changeFrom s f = r at *
  exact ⟨(congrArg State.sup frame).trans sup, (congrArg State.fe frame).trans fe, (congrArg State.ts frame :),
    (congrArg Budget.derating lists).trans deratings⟩

theorem completeRecall_eq (s : State) :
    completeRecall s =
      if s.cp.state = .completing then
        if s.cp.aborting then endCheck (recalledState s (takeStructure s recalledStore)) .aborted 0 0
        else endGood (recalledState s (takeStructure s recalledStore))
      else recalledState s (takeStructure s recalledStore) := by
  obtain ⟨sup, fe, tables, deratings⟩ := takeStructure_keeps s recalledStore
  rw [← recalled_after sup fe (congrArg TableStore.work tables :) deratings]
  rfl

theorem exec_recallComplete {s : State} (on : Settled s) (recalling : s.ts.recalling = true) :
    exec .recallComplete s = .next (completeRecall s) := (exec_settled on _).trans (congrArg _ (if_pos recalling))

/-- Settles O24: a completion is the change of the flag, then the latch, the hub's state and the posts to the Budget Allocator. -/
theorem recallReloadsTheTables : Obligations.RecallReloadsTheTables := by
  unfold Obligations.RecallReloadsTheTables
  refine ⟨fun s t tag free => recallTables_judged free t tag, fun s on idle => ?_, fun s on recalling => ?_⟩
  · exact (exec_settled on _).trans (congrArg _ (if_neg (ne_true_of_eq_false idle)))
  · intro m work valid r
    obtain ⟨frame, structured⟩ := takeStructure_taken s recalledStore
    have order := (takeStructure_order s recalledStore).1
    have completes := (exec_recallComplete on recalling).trans (congrArg _ (completeRecall_eq s))
    have from_ : changeFrom s recalledStore = r := rfl
    rw [from_] at frame structured
    generalize takeStructure s recalledStore = v at frame structured order completes
    refine ⟨recalledState s v, ?_, ?_, ⟨v, structured _ rfl, rfl, rfl, rfl, rfl, rfl, rfl, fun p => ?_, rfl⟩, fun open_ => ?_,
      fun o completing held => ⟨fun aborting => ?_, fun goes => ?_⟩⟩
    · have apart (p : Vector PanRecord 8) (q : Posts) := congrArg (fun x : State => { x with
        sup := (recalledState s v).sup, fe := (recalledState s v).fe, pans := p, posts := q }) frame
      exact apart (noneDelivered v) (recalledState s v).posts
    · exact List.mem_append_left _ (List.mem_append_right _ List.mem_cons_self)
    · exact Vector.getElem_ofFn ..
    · exact completes.trans (congrArg _ (if_neg open_))
    · exact completes.trans (congrArg _ ((if_pos completing).trans ((if_pos aborting).trans (endCheck_kept held _ _ _ order))))
    · have on_ : ¬(s.cp.aborting = true) := ne_true_of_eq_false goes
      exact completes.trans (congrArg _ ((if_pos completing).trans ((if_neg on_).trans (endGood_kept held order))))

end Sys2Proof.Machine
end
